-- ==== Sys2Proof/Config.lean ====
section
/-! DEFINITION. The fixed limits of the part, each with the rule that gives it. The spec leaves no value of the part to an
implementation, so this file holds no opaque constant. -/

namespace Sys2Proof.Config

/-- Unity gain, in gain units (section 6.3). -/
def unity : Nat := 16384
/-- Longest ramp a request gives, in milliseconds (R9). -/
def maxRampMs : Nat := 10000
/-- Longest ramp, in samples (R9). -/
def maxRamp : Nat := 480000
/-- Samples to a millisecond (section 6.1). -/
def perMs : Nat := 48
/-- Samples to a second (section 6.1). -/
def perSecond : Nat := 48000
/-- Sample periods to a block (section 6.1). -/
def perBlock : Nat := 480
/-- Largest value of every saturating 16-bit count (R25, R48, R50, R90, R101, R128, R162, R169). -/
def countMax : Nat := 65535
/-- Largest sample (section 6.2). -/
def sampleMax : Int := 8388607
/-- Smallest sample (section 6.2). -/
def sampleMin : Int := -8388608
/-- Pan law of a mono entry, in gain units (R18). -/
def panGain : Int := 11585
/-- Factor of the lowered ceiling, in gain units (R22). -/
def loweredFactor : Nat := 11598
/-- Entries of the air sequence (R27). -/
def sequenceMax : Nat := 32
/-- Records of the done list (R48). -/
def doneMax : Nat := 8
/-- Longest item, in milliseconds (R26). -/
def itemMaxMs : Nat := 3600000
/-- Records of the preemption stack (R50). -/
def stackMax : Nat := 8
/-- Low or high sample periods that step the ring filter (R71). -/
def ringCount : Nat := 4800
/-- Loop-low count at which loop loss is taken (R71). -/
def loopLoss : Nat := 19200
/-- Ring gap at which a caller has hung up (R74). -/
def ringGap : Nat := 384000
/-- Lines on air together (R83). -/
def airLines : Nat := 2
/-- Capacity of the delay store, in pairs (R91). -/
def storeMax : Nat := 1920000
/-- Largest delay target, in blocks (R92). -/
def targetMaxBlocks : Nat := 4000
/-- Alerts of the pending table (R112). -/
def pendingMax : Nat := 8
/-- Records of the alert log (R128). -/
def logMax : Nat := 32
/-- Mixes of CLOSING (R124). -/
def closing : Nat := 48000
/-- Increments of the tone accumulators, 640 Hz and 1,024 Hz (R125). -/
def tone1 : BitVec 32 := 57266231#32
def tone2 : BitVec 32 := 91625969#32
/-- Sample periods to a forward frame (R147). -/
def perFrame : Nat := 16
/-- Bits of the forward line to a sample period: one to 12 of its 648 core clocks (R147). -/
def forwardBits : Nat := 54
/-- Characters of the site send queue (R150). -/
def sendMax : Nat := 16
/-- Characters of the return FIFO (R154). -/
def fifoMax : Nat := 4
/-- Sample periods of a reply window (R158). -/
def window : Nat := 1440
/-- Misses that make a unit LOST (R158). -/
def missesLost : Nat := 3
/-- Largest body of a request or a reply (R163, R167). -/
def bodyMax : Nat := 60
/-- Core clocks to a sample period (section 6.1). -/
def clocksPerSample : Nat := 648
/-- Core clocks a lane timer runs without an edge before a lane reset, 20 ms (R169). -/
def laneTimeout : Nat := 622080
/-- Bytes of a lane's receive buffer (chapter 9, opening section). -/
def receiveMax : Nat := 62
/-- Sample periods of the power-on profile load (R188). -/
def loadPeriods : Nat := 96
/-- Sample periods of a non-volatile profile write (R187). -/
def writePeriods : Nat := 576

end Sys2Proof.Config
end

