-- ==== Sys2Proof/Word.lean ====
section
/-! DEFINITION. The word types of the ANV-4480: bytes of the lanes and the forward line, 24-bit audio samples, and the
32-bit air clock (spec/00_scope.md sections 6.1 and 6.2). -/

namespace Sys2Proof

/-- A byte of a lane transaction, of a frame, or the data of a site character. -/
abbrev Byte := BitVec 8

/-- A 24-bit two's-complement audio sample as it arrives in an input slot (section 6.2). -/
abbrev Sample := BitVec 24

/-- A 32-bit word of sample periods: the air clock and every value kept from it (R182). -/
abbrev Clock := BitVec 32

end Sys2Proof
end

