-- ==== Sys2Proof/Syntax.lean ====
section
/-! DEFINITION. The commands of the part: one constructor of Instr per row of spec/opcode_table.json, with the names and the
record types their operands need. -/

namespace Sys2Proof

/-- The three control lanes (chapter 9). -/
inductive LaneId where
  | aut | con | alr
  deriving DecidableEq, Repr

/-- The eight sources, in roster order (R1). -/
inductive Source where
  | pla | plb | mic | fbk | ln1 | ln2 | ln3 | ln4
  deriving DecidableEq, Repr

/-- The two decks (R31). -/
inductive DeckId where
  | a | b
  deriving DecidableEq, Repr

/-- The four telephone lines (R70). -/
inductive LineId where
  | l1 | l2 | l3 | l4
  deriving DecidableEq, Repr

/-- The four addresses of the site bus (section 8.2). -/
inductive UnitId where
  | u0 | u1 | u2 | u3
  deriving DecidableEq, Repr

/-- One value for each lane. -/
structure PerLane (α : Type) where
  aut : α
  con : α
  alr : α
  deriving DecidableEq, Repr

/-- One value for each source, in roster order. -/
structure PerSource (α : Type) where
  pla : α
  plb : α
  mic : α
  fbk : α
  ln1 : α
  ln2 : α
  ln3 : α
  ln4 : α
  deriving DecidableEq, Repr

/-- One value for each telephone line. -/
structure PerLine (α : Type) where
  l1 : α
  l2 : α
  l3 : α
  l4 : α
  deriving DecidableEq, Repr

/-- One value for each address of the site bus. -/
structure PerUnit (α : Type) where
  u0 : α
  u1 : α
  u2 : α
  u3 : α
  deriving DecidableEq, Repr

/-- An edge of a lane's LCLK (R163, R169): the core clocks since the edge before it, or since the sample period began; rising or
falling; and the level of LDI at it. -/
structure LclkEdge where
  wait : Nat
  rising : Bool
  ldi : Bool
  deriving DecidableEq, Repr

/-- What the input pins deliver in one sample period: the slots of AIN_A, AIN_B and AIN_C (R16); the levels of RING_n and
LOOP_n, which the line controller samples once per sample period (R71); and the edges of each lane's LCLK, oldest first
(R163). -/
structure InputFrame where
  plaL : Sample
  plaR : Sample
  plbL : Sample
  plbR : Sample
  micL : Sample
  micR : Sample
  fbkL : Sample
  fbkR : Sample
  line : PerLine Sample
  alr : Sample
  tb : Sample
  ring : PerLine Bool
  loop : PerLine Bool
  lclk : PerLane (List LclkEdge)
  deriving DecidableEq, Repr

/-- The level of the return line from a moment on, as runs: each level with the number of core clocks it lasts. After the
last run the line idles high (section 8.3). -/
abbrev Waveform := List (Nat × Bool)

/-- The commands. A request is given as the lane it comes on and `rest`, the complete bytes of its transaction AFTER byte 0:
the body-length byte and the body bytes (R163). Its request code, byte 0, is the constructor's (R175). The command is the rest of
the transaction to its rise of LSEL: the bits that mixes have already clocked in are part of those bytes. POWER_ON is given the
levels it finds: RST high, and the supply at or above the threshold of its monitor (R188). Written without them it finds both so. -/
inductive Instr where
  -- start (chapter 11)
  | powerOn (rst supply : Bool := true)
  | profileLoadComplete
  | startDelayExpiry
  | globalReset (lane : LaneId) (rest : List Byte)
  -- program bus and delay, at the word clock (chapters 1 and 5)
  | mix (f : InputFrame)
  | releaseRampEnd (src : Source)
  | buildStep (f : InputFrame)
  | catchUpStep (f : InputFrame)
  -- air sequencer (chapter 2)
  | fadeOutPoint (d : DeckId)
  | seguePoint
  | itemEnd (d : DeckId)
  | seqAppend (lane : LaneId) (rest : List Byte)
  | seqInsert (lane : LaneId) (rest : List Byte)
  | seqRemove (lane : LaneId) (rest : List Byte)
  | seqReady (lane : LaneId) (rest : List Byte)
  | seqStart (lane : LaneId) (rest : List Byte)
  | seqStop (lane : LaneId) (rest : List Byte)
  | seqSkip (lane : LaneId) (rest : List Byte)
  | seqContinue (lane : LaneId) (rest : List Byte)
  | doneRead (lane : LaneId) (rest : List Byte)
  -- roster requests (chapters 1 and 9)
  | sourceGain (lane : LaneId) (rest : List Byte)
  | sourceOn (lane : LaneId) (rest : List Byte)
  | sourceOff (lane : LaneId) (rest : List Byte)
  | sourceTake (lane : LaneId) (rest : List Byte)
  | sourceRelease (lane : LaneId) (rest : List Byte)
  -- preemption stack (chapter 3)
  | breakIn (lane : LaneId) (rest : List Byte)
  | resume (lane : LaneId) (rest : List Byte)
  -- telephone lines (chapter 4)
  | lineAnswer (lane : LaneId) (rest : List Byte)
  | lineScreen (lane : LaneId) (rest : List Byte)
  | lineHold (lane : LaneId) (rest : List Byte)
  | lineReady (lane : LaneId) (rest : List Byte)
  | lineAir (lane : LaneId) (rest : List Byte)
  | lineDrop (lane : LaneId) (rest : List Byte)
  | ringFilterArmed (n : LineId)
  | ringBurst (n : LineId)
  | ringExpiry (n : LineId)
  | loopLoss (n : LineId)
  | holdLong (n : LineId)
  -- broadcast delay requests (chapter 5)
  | delayTarget (lane : LaneId) (rest : List Byte)
  | delayDump (lane : LaneId) (rest : List Byte)
  -- alert unit (chapter 6)
  | alertNotice (lane : LaneId) (rest : List Byte)
  | windowExpiry (id : Nat)
  | attentionEnd
  | messageTruncated
  | alertAudioEnd (lane : LaneId) (rest : List Byte)
  | alertCancel (lane : LaneId) (rest : List Byte)
  | alertRearm (lane : LaneId) (rest : List Byte)
  | alertEnd
  | logRead (lane : LaneId) (rest : List Byte)
  -- air state and dead-air monitor (chapter 7)
  | signOn (lane : LaneId) (rest : List Byte)
  | signOff (lane : LaneId) (rest : List Byte)
  | wakeEnable (lane : LaneId) (rest : List Byte)
  | blockJudged
  -- transmitter link (chapter 8)
  | frameBoundary
  | pollTimerExpiry
  | replyWindowClose
  | returnCharacter (w : Waveform)
  | assemblerTake
  | txSelect (lane : LaneId) (rest : List Byte)
  | ceilingRestore (lane : LaneId) (rest : List Byte)
  -- control lanes (chapter 9)
  | transactionStart (lane : LaneId)
  | readOnlyTransaction (lane : LaneId) (bytes : List Byte)
  | laneTimeout (lane : LaneId)
  | nop (lane : LaneId) (rest : List Byte)
  -- status, events and the air clock (chapter 10)
  | statusRead (lane : LaneId) (rest : List Byte)
  | eventEnable (lane : LaneId) (rest : List Byte)
  | eventClear (lane : LaneId) (rest : List Byte)
  | clockWrap (f : InputFrame)
  -- station profile (chapter 11)
  | profileRead (lane : LaneId) (rest : List Byte)
  | profileWrite (lane : LaneId) (eng : Bool) (rest : List Byte)
  | profileWriteComplete
  | unknownRequestCode (lane : LaneId) (code : Byte) (rest : List Byte)
  deriving DecidableEq, Repr

end Sys2Proof
end

