-- ==== Sys2Proof/Decode.lean ====
section
/-! DEFINITION. Reading commands from bits. No row of spec/opcode_table.json gives bits, so decodeTableWord spells none. What
the spec does encode is a request on a lane: byte 0 of a transaction is its request code (R163, R175). decodeTransaction reads
the command a lane's transaction is, total on any bytes, and encodeTransaction writes it. -/

namespace Sys2Proof

/-- The command a table word spells: none, since no row of the table gives bits. -/
def decodeTableWord (_nbits _w : Nat) : Option Instr := none

/-- The command that a transaction on a lane is, from its complete bytes and the level of ENG as it is judged: byte 0 is the
request code; a transaction with no complete byte, or whose byte 0 is 0x00, carries no request; a code outside the code table
is a request with an unknown code (R163, R164, R171, R175). -/
def decodeTransaction (lane : LaneId) (eng : Bool) : List Byte → Instr
  | [] => .readOnlyTransaction lane []
  | code :: rest =>
    match code.toNat with
    | 0x00 => .readOnlyTransaction lane (code :: rest)
    | 0x01 => .nop lane rest
    | 0x02 => .statusRead lane rest
    | 0x03 => .logRead lane rest
    | 0x04 => .eventEnable lane rest
    | 0x05 => .eventClear lane rest
    | 0x10 => .seqAppend lane rest
    | 0x11 => .seqInsert lane rest
    | 0x12 => .seqRemove lane rest
    | 0x13 => .seqReady lane rest
    | 0x14 => .seqStart lane rest
    | 0x15 => .seqStop lane rest
    | 0x16 => .seqSkip lane rest
    | 0x17 => .seqContinue lane rest
    | 0x18 => .doneRead lane rest
    | 0x20 => .sourceGain lane rest
    | 0x21 => .sourceOn lane rest
    | 0x22 => .sourceOff lane rest
    | 0x23 => .sourceTake lane rest
    | 0x24 => .sourceRelease lane rest
    | 0x28 => .breakIn lane rest
    | 0x29 => .resume lane rest
    | 0x30 => .lineAnswer lane rest
    | 0x31 => .lineScreen lane rest
    | 0x32 => .lineHold lane rest
    | 0x33 => .lineReady lane rest
    | 0x34 => .lineAir lane rest
    | 0x35 => .lineDrop lane rest
    | 0x38 => .delayTarget lane rest
    | 0x39 => .delayDump lane rest
    | 0x40 => .alertNotice lane rest
    | 0x41 => .alertAudioEnd lane rest
    | 0x42 => .alertCancel lane rest
    | 0x43 => .alertRearm lane rest
    | 0x48 => .signOn lane rest
    | 0x49 => .signOff lane rest
    | 0x4A => .wakeEnable lane rest
    | 0x50 => .txSelect lane rest
    | 0x51 => .ceilingRestore lane rest
    | 0x58 => .globalReset lane rest
    | 0x59 => .profileRead lane rest
    | 0x5A => .profileWrite lane eng rest
    | _ => .unknownRequestCode lane code rest

/-- The request code of a request (R175); the other commands have none. -/
def requestCode : Instr → Option Byte
  | .nop _ _ => some 0x01#8
  | .statusRead _ _ => some 0x02#8
  | .logRead _ _ => some 0x03#8
  | .eventEnable _ _ => some 0x04#8
  | .eventClear _ _ => some 0x05#8
  | .seqAppend _ _ => some 0x10#8
  | .seqInsert _ _ => some 0x11#8
  | .seqRemove _ _ => some 0x12#8
  | .seqReady _ _ => some 0x13#8
  | .seqStart _ _ => some 0x14#8
  | .seqStop _ _ => some 0x15#8
  | .seqSkip _ _ => some 0x16#8
  | .seqContinue _ _ => some 0x17#8
  | .doneRead _ _ => some 0x18#8
  | .sourceGain _ _ => some 0x20#8
  | .sourceOn _ _ => some 0x21#8
  | .sourceOff _ _ => some 0x22#8
  | .sourceTake _ _ => some 0x23#8
  | .sourceRelease _ _ => some 0x24#8
  | .breakIn _ _ => some 0x28#8
  | .resume _ _ => some 0x29#8
  | .lineAnswer _ _ => some 0x30#8
  | .lineScreen _ _ => some 0x31#8
  | .lineHold _ _ => some 0x32#8
  | .lineReady _ _ => some 0x33#8
  | .lineAir _ _ => some 0x34#8
  | .lineDrop _ _ => some 0x35#8
  | .delayTarget _ _ => some 0x38#8
  | .delayDump _ _ => some 0x39#8
  | .alertNotice _ _ => some 0x40#8
  | .alertAudioEnd _ _ => some 0x41#8
  | .alertCancel _ _ => some 0x42#8
  | .alertRearm _ _ => some 0x43#8
  | .signOn _ _ => some 0x48#8
  | .signOff _ _ => some 0x49#8
  | .wakeEnable _ _ => some 0x4A#8
  | .txSelect _ _ => some 0x50#8
  | .ceilingRestore _ _ => some 0x51#8
  | .globalReset _ _ => some 0x58#8
  | .profileRead _ _ => some 0x59#8
  | .profileWrite _ _ _ => some 0x5A#8
  | .powerOn _ _ => none
  | .profileLoadComplete => none
  | .startDelayExpiry => none
  | .mix _ => none
  | .releaseRampEnd _ => none
  | .buildStep _ => none
  | .catchUpStep _ => none
  | .fadeOutPoint _ => none
  | .seguePoint => none
  | .itemEnd _ => none
  | .ringFilterArmed _ => none
  | .ringBurst _ => none
  | .ringExpiry _ => none
  | .loopLoss _ => none
  | .holdLong _ => none
  | .windowExpiry _ => none
  | .attentionEnd => none
  | .messageTruncated => none
  | .alertEnd => none
  | .blockJudged => none
  | .frameBoundary => none
  | .pollTimerExpiry => none
  | .replyWindowClose => none
  | .returnCharacter _ => none
  | .assemblerTake => none
  | .transactionStart _ => none
  | .readOnlyTransaction _ _ => none
  | .laneTimeout _ => none
  | .clockWrap _ => none
  | .profileWriteComplete => none
  | .unknownRequestCode _ code _ => some code

/-- The lane and the bytes of the transaction that a command is; none for a command that is no transaction. -/
def encodeTransaction : Instr → Option (LaneId × List Byte)
  | .nop lane rest => some (lane, 0x01#8 :: rest)
  | .statusRead lane rest => some (lane, 0x02#8 :: rest)
  | .logRead lane rest => some (lane, 0x03#8 :: rest)
  | .eventEnable lane rest => some (lane, 0x04#8 :: rest)
  | .eventClear lane rest => some (lane, 0x05#8 :: rest)
  | .seqAppend lane rest => some (lane, 0x10#8 :: rest)
  | .seqInsert lane rest => some (lane, 0x11#8 :: rest)
  | .seqRemove lane rest => some (lane, 0x12#8 :: rest)
  | .seqReady lane rest => some (lane, 0x13#8 :: rest)
  | .seqStart lane rest => some (lane, 0x14#8 :: rest)
  | .seqStop lane rest => some (lane, 0x15#8 :: rest)
  | .seqSkip lane rest => some (lane, 0x16#8 :: rest)
  | .seqContinue lane rest => some (lane, 0x17#8 :: rest)
  | .doneRead lane rest => some (lane, 0x18#8 :: rest)
  | .sourceGain lane rest => some (lane, 0x20#8 :: rest)
  | .sourceOn lane rest => some (lane, 0x21#8 :: rest)
  | .sourceOff lane rest => some (lane, 0x22#8 :: rest)
  | .sourceTake lane rest => some (lane, 0x23#8 :: rest)
  | .sourceRelease lane rest => some (lane, 0x24#8 :: rest)
  | .breakIn lane rest => some (lane, 0x28#8 :: rest)
  | .resume lane rest => some (lane, 0x29#8 :: rest)
  | .lineAnswer lane rest => some (lane, 0x30#8 :: rest)
  | .lineScreen lane rest => some (lane, 0x31#8 :: rest)
  | .lineHold lane rest => some (lane, 0x32#8 :: rest)
  | .lineReady lane rest => some (lane, 0x33#8 :: rest)
  | .lineAir lane rest => some (lane, 0x34#8 :: rest)
  | .lineDrop lane rest => some (lane, 0x35#8 :: rest)
  | .delayTarget lane rest => some (lane, 0x38#8 :: rest)
  | .delayDump lane rest => some (lane, 0x39#8 :: rest)
  | .alertNotice lane rest => some (lane, 0x40#8 :: rest)
  | .alertAudioEnd lane rest => some (lane, 0x41#8 :: rest)
  | .alertCancel lane rest => some (lane, 0x42#8 :: rest)
  | .alertRearm lane rest => some (lane, 0x43#8 :: rest)
  | .signOn lane rest => some (lane, 0x48#8 :: rest)
  | .signOff lane rest => some (lane, 0x49#8 :: rest)
  | .wakeEnable lane rest => some (lane, 0x4A#8 :: rest)
  | .txSelect lane rest => some (lane, 0x50#8 :: rest)
  | .ceilingRestore lane rest => some (lane, 0x51#8 :: rest)
  | .globalReset lane rest => some (lane, 0x58#8 :: rest)
  | .profileRead lane rest => some (lane, 0x59#8 :: rest)
  | .profileWrite lane _ rest => some (lane, 0x5A#8 :: rest)
  | .powerOn _ _ => none
  | .profileLoadComplete => none
  | .startDelayExpiry => none
  | .mix _ => none
  | .releaseRampEnd _ => none
  | .buildStep _ => none
  | .catchUpStep _ => none
  | .fadeOutPoint _ => none
  | .seguePoint => none
  | .itemEnd _ => none
  | .ringFilterArmed _ => none
  | .ringBurst _ => none
  | .ringExpiry _ => none
  | .loopLoss _ => none
  | .holdLong _ => none
  | .windowExpiry _ => none
  | .attentionEnd => none
  | .messageTruncated => none
  | .alertEnd => none
  | .blockJudged => none
  | .frameBoundary => none
  | .pollTimerExpiry => none
  | .replyWindowClose => none
  | .returnCharacter _ => none
  | .assemblerTake => none
  | .transactionStart _ => none
  | .readOnlyTransaction lane bytes => some (lane, bytes)
  | .laneTimeout _ => none
  | .clockWrap _ => none
  | .profileWriteComplete => none
  | .unknownRequestCode lane code rest => some (lane, code :: rest)

end Sys2Proof
end

