-- ==== Sys2Proof/WellFormed.lean ====
section
/-! DEFINITION. Which commands are well-formed: what a command's operands must satisfy to be that row of the table. Everything
else about a request (its length, its codes, its lane) is judged by the part itself, with a reply. -/

namespace Sys2Proof

/-- A transaction carries no request: it has no complete byte, or its byte 0 is 0x00 (R163). -/
def carriesNoRequest : List Byte → Bool
  | [] => true
  | b :: _ => b = 0#8

/-- A code names no request of the code table (R175): it is neither 0x00 nor the code of a row. -/
def namesNoRequest (code : Byte) : Bool :=
  match decodeTransaction .aut false [code] with
  | .unknownRequestCode _ _ _ => true
  | _ => false

/-- Every run of a waveform lasts some time. -/
def runsLast (w : Waveform) : Bool := w.all fun r => 0 < r.1

/-- The edges of one lane's LCLK lie within one sample period of 648 core clocks. -/
def edgesFit (es : List LclkEdge) : Bool := es.foldl (fun acc e => acc + e.wait) 0 ≤ 648

/-- Every lane's edges lie within the sample period. -/
def InputFrame.fits (f : InputFrame) : Bool := edgesFit f.lclk.aut && edgesFit f.lclk.con && edgesFit f.lclk.alr

/-- An alert id is a 32-bit number (R108). -/
def idInRange (id : Nat) : Bool := id < 2 ^ 32

/-- A command is well-formed. -/
def Instr.wellFormed : Instr → Bool
  | .readOnlyTransaction _ bytes => carriesNoRequest bytes
  | .unknownRequestCode _ code _ => namesNoRequest code
  | .returnCharacter w => runsLast w
  | .windowExpiry id => idInRange id
  | .mix f => f.fits
  | .buildStep f => f.fits
  | .catchUpStep f => f.fits
  | .clockWrap f => f.fits
  | _ => true

end Sys2Proof
end

