-- ==== Sys2Proof/Machine/State.lean ====
section
/-! DEFINITION. The state of the part, block by block, as plain data; the outcomes a step can have; and State.reset, the part
right after power-on as delivered. -/

namespace Sys2Proof.Machine

/-- Reasons a step could stop with a fault. The spec gives the part none: every request is answered and every unusual event
is counted or raised, so there is no constructor. -/
inductive Fault where
  deriving DecidableEq, Repr

/-- Reasons a step could be refused by the model. -/
inductive Refusal where
  /-- Raised by the dispatch for a row that has no meaning yet; no row is left so. Safe: the model stops. -/
  | notModelled (mnemonic : String)
  deriving DecidableEq, Repr

/-! ### Program bus (chapter 1) -/

/-- State of a roster entry (R1). -/
inductive EntryState where
  | off | live | releasing
  deriving DecidableEq, Repr

/-- The master that holds a fader (R1). -/
inductive Controller where
  | aut | con
  deriving DecidableEq, Repr

/-- Duck class of a source (R1). -/
inductive DuckClass where
  | ducked | ducker | neither
  deriving DecidableEq, Repr

/-- One entry of the source roster (R1); `faded` says that its fader target is the 0 of its item's fade-out (R62; the model's own,
log 9). -/
structure Entry where
  state : EntryState
  target : Nat
  current : Nat
  remaining : Nat
  duckClass : DuckClass
  controller : Controller
  bound : Option Nat
  faded : Bool
  deriving DecidableEq, Repr

/-- The duck envelope (R14); `engaged` is the DUCKER condition its aim was set for. -/
structure Duck where
  present : Nat
  aim : Nat
  remaining : Nat
  engaged : Bool
  deriving DecidableEq, Repr

/-- The state the program bus owns. -/
structure ProgramBus where
  roster : PerSource Entry
  duck : Duck
  ceilingLowered : Bool
  clipCount : Nat
  ceilingHits : Nat
  deriving DecidableEq, Repr

/-- One stereo sample pair. -/
structure Pair where
  l : Int
  r : Int
  deriving DecidableEq, Repr

/-- The output slots of the audio ports (R16). -/
structure AudioPorts where
  airMonitor : Pair
  cue : Pair
  feeds : PerLine Int
  deriving DecidableEq, Repr

/-! ### Air sequencer (chapter 2) -/

/-- Kind of an item (R26). -/
inductive ItemKind where
  | music | speech | spot | live
  deriving DecidableEq, Repr

/-- An item record, times in samples (R26). -/
structure Item where
  id : Nat
  kind : ItemKind
  length : Option Nat
  segue : Nat
  fadeIn : Nat
  fadeOut : Nat
  gain : Nat
  skipped : Bool
  deriving DecidableEq, Repr

/-- State of a deck (R31). -/
inductive DeckState where
  | free | cueing | ready | playing | tailing | paused
  deriving DecidableEq, Repr

/-- A deck record (R31); `fadeTaken` says that its item's fade-out point has been taken (the model's own, log 9). -/
structure Deck where
  state : DeckState
  item : Option Nat
  position : Nat
  startedAt : Option Clock
  fadeTaken : Bool
  deriving DecidableEq, Repr

/-- State of the sequencer (R32). -/
inductive SeqState where
  | stopped | running | halted | preempted
  deriving DecidableEq, Repr

/-- Outcome of a done record (R48). -/
inductive DoneOutcome where
  | complete | skipped | abandoned | removedCued
  deriving DecidableEq, Repr

/-- A done record (R48). -/
structure DoneRecord where
  item : Nat
  start : Option Clock
  aired : Nat
  outcome : DoneOutcome
  deriving DecidableEq, Repr

/-- The state the air sequencer owns; `segueTaken` and `breakSignal` are the model's own (log 9). -/
structure Sequencer where
  list : List Item
  tail : Option Item
  deckA : Deck
  deckB : Deck
  state : SeqState
  liveStart : Option Clock
  done : List DoneRecord
  doneOverflow : Nat
  segueTaken : Bool
  breakSignal : Bool
  deriving DecidableEq, Repr

/-! ### Broadcast delay (chapter 5) -/

/-- Mode of the delay unit (section 5.2). -/
inductive DelayMode where
  | idle | building | steady | catching | frozen
  deriving DecidableEq, Repr

/-- The state the delay unit owns (R91 to R94, R101). The held count is the length of the store. -/
structure Delay where
  store : List Pair
  lastOut : Pair
  target : Nat
  pendingTarget : Option Nat
  mode : DelayMode
  step : Nat
  dumps : Nat
  deriving DecidableEq, Repr

/-! ### Preemption stack (chapter 3) -/

/-- Cause of a context record (R51). -/
inductive Cause where
  | breakIn | alert | failover | remoteFallback
  deriving DecidableEq, Repr

/-- A saved deck entry (R51). -/
structure DeckSnapshot where
  item : Nat
  state : DeckState
  position : Nat
  deriving DecidableEq, Repr

/-- A saved roster entry (R51), with the entry's `faded` mark (log 9). -/
structure EntrySnapshot where
  state : EntryState
  target : Nat
  remaining : Nat
  controller : Controller
  faded : Bool
  deriving DecidableEq, Repr

/-- A context record (R51). `gone` marks the lines that have been re-screened, queued or dropped since the push, which R66 does not
offer (the model's own, log 9). -/
structure Context where
  cause : Cause
  pushedAt : Clock
  seqState : SeqState
  deckA : Option DeckSnapshot
  deckB : Option DeckSnapshot
  roster : PerSource EntrySnapshot
  onAirLines : List LineId
  delayMode : DelayMode
  gone : PerLine Bool
  deriving DecidableEq, Repr

/-- Resume kinds (R58). -/
inductive ResumeKind where
  | goOn | next | reprise
  deriving DecidableEq, Repr

/-- Who took a pop (R69). -/
inductive ResumeBy where
  | con | aut | alertUnit
  deriving DecidableEq, Repr

/-- The last-resume record (R69). -/
structure LastResume where
  cause : Cause
  takenBy : ResumeBy
  kind : ResumeKind
  poppedAt : Clock
  duration : Nat
  delayMode : DelayMode
  item : Option Nat
  position : Option Nat
  deriving DecidableEq, Repr

/-- The state the preemption stack owns, newest record first (R50). -/
structure Stack where
  records : List Context
  overflow : Nat
  lastResume : Option LastResume
  deriving DecidableEq, Repr

/-! ### Telephone lines (chapter 4) -/

/-- State of a line (R70). -/
inductive LineState where
  | idle | ringing | screen | hold | ready | onAir
  deriving DecidableEq, Repr

/-- Feed select of a line (R70). -/
inductive FeedSelect where
  | mixMinus | hold | screen | alert
  deriving DecidableEq, Repr

/-- Stage of the ring filter (R71). -/
inductive RingStage where
  | waitingLow | countingHigh
  deriving DecidableEq, Repr

/-- The ring timer (R70). -/
structure RingTimer where
  gap : Nat
  total : Nat
  deriving DecidableEq, Repr

/-- A line record (R70). -/
structure LineRec where
  state : LineState
  seize : Bool
  ringTimer : Option RingTimer
  holdStart : Option Clock
  holdLong : Bool
  feed : FeedSelect
  ringStage : RingStage
  ringLevel : Nat
  loopLow : Nat
  deriving DecidableEq, Repr

/-- The state the line controller owns. -/
structure LineController where
  lines : PerLine LineRec
  queue : List LineId
  missed : Nat
  deriving DecidableEq, Repr

/-! ### Alert unit (chapter 6) -/

/-- Class of an alert, in rising order (R108). -/
inductive AlertClass where
  | test | advisory | warning | emergency
  deriving DecidableEq, Repr

/-- A pending alert (R112). `expiry` is present exactly for urgency WINDOW. -/
structure PendingAlert where
  id : Nat
  cls : AlertClass
  originator : Nat
  expiry : Option Clock
  due : Bool
  audio : Bool
  maxDuration : Nat
  arrival : Clock
  deriving DecidableEq, Repr

/-- Phase of the on-air alert (R121). -/
inductive AlertPhase where
  | attention | message | closing
  deriving DecidableEq, Repr

/-- Ending of an alert, once decided (R121). -/
inductive Ending where
  | truncated | cancelled
  deriving DecidableEq, Repr

/-- The on-air alert (R121); `attention` is the attention length its ATTENTION began with (R122). -/
structure OnAirAlert where
  id : Nat
  cls : AlertClass
  originator : Nat
  audio : Bool
  maxDuration : Nat
  arrival : Clock
  start : Clock
  phase : AlertPhase
  count : Nat
  attention : Nat
  ending : Option Ending
  deriving DecidableEq, Repr

/-- Outcome of a log record (R128). -/
inductive LogOutcome where
  | aired | truncated | cancelled | filtered | superseded | dropped | notAired | aborted
  deriving DecidableEq, Repr

/-- Start air clock and aired duration in milliseconds, present together (R128). -/
structure Airing where
  start : Clock
  ms : Nat
  deriving DecidableEq, Repr

/-- A record of the alert log (R128). -/
structure LogRecord where
  number : Nat
  id : Nat
  cls : AlertClass
  originator : Nat
  outcome : LogOutcome
  arrival : Clock
  airing : Option Airing
  deriving DecidableEq, Repr

/-- The state the alert unit owns; the log newest first (R129). -/
structure AlertUnit where
  table : List PendingAlert
  onAir : Option OnAirAlert
  armed : Bool
  p1 : BitVec 32
  p2 : BitVec 32
  log : List LogRecord
  recordCounter : BitVec 32
  noticeCounter : BitVec 32
  logOverwrites : Nat
  deriving DecidableEq, Repr

/-! ### Air state and dead-air monitor (chapter 7) -/

/-- The air state (R132). -/
inductive AirState where
  | starting | onAir | offAir | alertWake
  deriving DecidableEq, Repr

/-- The start state (R185). -/
inductive StartState where
  | offAir | onAir
  deriving DecidableEq, Repr

/-- The dead-air monitor (R143); `due` says that a block has ended and has not been closed (the model's own, log 8). -/
structure Monitor where
  phase : Nat
  peak : Nat
  clean : Bool
  run : Nat
  due : Bool
  deriving DecidableEq, Repr

/-- The state the air state block owns. The start-delay timer counts the sample periods left; `startInto` is the start state the
running start was begun with (R188). -/
structure AirBlock where
  state : AirState
  signOnPending : Bool
  startTimer : Option Nat
  startInto : StartState
  monitor : Monitor
  deriving DecidableEq, Repr

/-! ### Transmitter link (chapter 8) -/

/-- A site character: a marker bit and 8 data bits (R177). -/
structure SiteChar where
  marker : Bool
  data : Byte
  deriving DecidableEq, Repr

/-- The five commands of the site bus (section 8.2). -/
inductive SiteOp where
  | poll | carrierOn | carrierOff | goStandby | goMain
  deriving DecidableEq, Repr

/-- A whole command: the unit it selects and the command (R150). -/
structure SiteCommand where
  unit : UnitId
  op : SiteOp
  deriving DecidableEq, Repr

/-- Role of a site unit (R158). -/
inductive Role where
  | mainTx | standbyTx | siteControl | unused
  deriving DecidableEq, Repr

/-- Presence of a site unit (R158). -/
inductive Presence where
  | unknown | present | lost
  deriving DecidableEq, Repr

/-- The last status of a unit: characters 2 to 5 of its message (section 8.4). -/
structure UnitStatus where
  flags : Byte
  forward : Byte
  reflected : Byte
  request : Byte
  deriving DecidableEq, Repr

/-- A record of the unit table (R158). -/
structure SiteUnit where
  role : Role
  presence : Presence
  misses : Nat
  last : Option UnitStatus
  lastCode : Byte
  deriving DecidableEq, Repr

/-- The return receiver between characters: the divider it hunts with, the sample before, and the number of the next sample
in its bit pattern (R152, R153). -/
structure Receiver where
  n : Nat
  f : Nat
  prev : Bool
  place : Nat
  deriving DecidableEq, Repr

/-- A message being assembled: its address, the characters taken after the select, oldest first, and the bad mark (R155). -/
structure Assembly where
  unit : UnitId
  chars : List Byte
  bad : Bool
  deriving DecidableEq, Repr

/-- An open reply window: the unit polled and the sample periods left (R158). -/
structure ReplyWindow where
  unit : UnitId
  left : Nat
  deriving DecidableEq, Repr

/-- The active transmitter (R159). -/
inductive Transmitter where
  | main | standby
  deriving DecidableEq, Repr

/-- The state the transmitter link owns; `took` and `selected` are the model's own (log 9). `forward` holds the bits TXL_FWD gave
in the last sample period, the first sent first (R147, R176). -/
structure Link where
  pairs : List Pair
  frame : List Byte
  forward : List Bool
  frameNumber : Nat
  sendQueue : List SiteChar
  holder : Option SiteCommand
  selected : Option UnitId
  receiver : Receiver
  fifo : List SiteChar
  assembler : Option Assembly
  took : Bool
  window : Option ReplyWindow
  units : PerUnit SiteUnit
  active : Transmitter
  reflectSeen : Bool
  pollTimer : Nat
  turn : UnitId
  framing : Nat
  overrun : Nat
  stray : Nat
  deriving DecidableEq, Repr

/-! ### Control lanes (chapter 9) -/

/-- Where a lane stands between a fall and a rise of LSEL (R163, R169, R170). -/
inductive LanePhase where
  | idle | inTransaction | waitRise
  deriving DecidableEq, Repr

/-- Reply codes (R171). -/
inductive ReplyCode where
  | done | busy | refused | held | full | unknown | badState | badLength | duplicate | filtered | nothing
  deriving DecidableEq, Repr

/-- A reply: the two flags and the code of its status byte, and its body (R167, R173). -/
structure Reply where
  collision : Bool
  lost : Bool
  code : ReplyCode
  body : List Byte
  deriving DecidableEq, Repr

/-- One control lane. `bits` are the LDI bits taken in the transaction in progress, oldest first; `sent` the bits LDO gave in the
transaction in progress, or in the last one; `timer` the lane timer in core clocks, 0 while it is stopped (R163, R167, R169). -/
structure Lane where
  phase : LanePhase
  rx : List Byte
  bits : List Bool
  sent : List Bool
  timer : Nat
  reply : Option Reply
  shift : Option Reply
  shiftStands : Bool
  inFlight : Bool
  collision : Bool
  errors : Nat
  deriving DecidableEq, Repr

/-! ### Events and the air clock (chapter 10) -/

/-- A set of the 29 event kinds: bit n names kind n (R174, R177). -/
abbrev EventSet := BitVec 29

/-- The state the event unit owns. -/
structure EventUnit where
  status : PerLane EventSet
  enable : PerLane EventSet
  clock : Clock
  deriving DecidableEq, Repr

/-! ### Station profile (chapter 11) -/

/-- The three wake enables (R134). -/
structure WakeEnables where
  autSignOn : Bool
  remoteSignOn : Bool
  alertWake : Bool
  deriving DecidableEq, Repr

/-- The fields of a profile copy, in the units of R185 (gu, ms, s, blocks). -/
structure Profile where
  stationCode : Nat
  regions : List Nat
  duckDepth : Nat
  duckAttack : Nat
  duckRelease : Nat
  holdGain : Nat
  takeFade : Nat
  preemptFade : Nat
  reprise : Nat
  afterAlert : ResumeKind
  silenceThreshold : Nat
  silenceLimit : Nat
  ceiling : Nat
  ceilingOnReflect : Bool
  buildDivisor : Nat
  dumpSize : Nat
  startTarget : Nat
  attention : Nat
  toneLevel : Nat
  alertGain : Nat
  airTests : Bool
  wake : WakeEnables
  startState : StartState
  startDelay : Nat
  returnN : Nat
  returnF : Nat
  pollPeriod : Nat
  roles : PerUnit Role
  autoChangeover : Bool
  holdLimit : Nat
  ringTimeout : Nat
  duckClasses : PerSource DuckClass
  deriving DecidableEq, Repr

/-- A non-volatile write in progress: the sample periods left and the copy it leaves (R187). -/
structure StoreWrite where
  left : Nat
  image : Profile
  deriving DecidableEq, Repr

/-- The state the profile store owns, which loads it at the start. `load` counts the sample periods left of the power-on load, and
`held` says that power-on is held: RST is low, or the supply below its threshold (R188). -/
structure ProfileStore where
  working : Profile
  stored : Profile
  valid : Bool
  load : Option Nat
  write : Option StoreWrite
  held : Bool
  deriving DecidableEq, Repr

/-- The state of the part, one field a block, and the commands that wait, first in, first out (log 1). -/
structure State where
  pending : List Instr
  pb : ProgramBus
  ap : AudioPorts
  sq : Sequencer
  ps : Stack
  lc : LineController
  du : Delay
  al : AlertUnit
  air : AirBlock
  tl : Link
  cl : PerLane Lane
  ev : EventUnit
  pf : ProfileStore
  deriving DecidableEq, Repr

/-! ### Power-on values -/

/-- The factory values of every profile field (R185). -/
def factory : Profile where
  stationCode := 0
  regions := []
  duckDepth := 4096
  duckAttack := 150
  duckRelease := 800
  holdGain := 8192
  takeFade := 250
  preemptFade := 300
  reprise := 5000
  afterAlert := .goOn
  silenceThreshold := 8389
  silenceLimit := 15
  ceiling := 7549746
  ceilingOnReflect := true
  buildDivisor := 32
  dumpSize := 500
  startTarget := 0
  attention := 8
  toneLevel := 11585
  alertGain := 16384
  airTests := true
  wake := { autSignOn := false, remoteSignOn := false, alertWake := true }
  startState := .onAir
  startDelay := 1
  returnN := 16
  returnF := 14
  pollPeriod := 200
  roles := { u0 := .mainTx, u1 := .standbyTx, u2 := .siteControl, u3 := .unused }
  autoChangeover := true
  holdLimit := 300
  ringTimeout := 30
  duckClasses := { pla := .ducked, plb := .ducked, mic := .ducker, fbk := .neither,
                   ln1 := .ducker, ln2 := .ducker, ln3 := .ducker, ln4 := .ducker }

/-- A roster entry after a start, with its default controller and the profile's duck class (R2). -/
def Entry.initial (c : Controller) (d : DuckClass) : Entry where
  state := .off
  target := 16384
  current := 0
  remaining := 0
  duckClass := d
  controller := c
  bound := none
  faded := false

/-- The program bus after power-on or a global reset (R2, R14, R22, R25). -/
def ProgramBus.initial (p : Profile) : ProgramBus where
  roster := { pla := .initial .aut p.duckClasses.pla, plb := .initial .aut p.duckClasses.plb,
              mic := .initial .con p.duckClasses.mic, fbk := .initial .aut p.duckClasses.fbk,
              ln1 := .initial .con p.duckClasses.ln1, ln2 := .initial .con p.duckClasses.ln2,
              ln3 := .initial .con p.duckClasses.ln3, ln4 := .initial .con p.duckClasses.ln4 }
  duck := { present := 16384, aim := 16384, remaining := 0, engaged := false }
  ceilingLowered := false
  clipCount := 0
  ceilingHits := 0

/-- The output slots after power-on (R16). -/
def AudioPorts.initial : AudioPorts where
  airMonitor := { l := 0, r := 0 }
  cue := { l := 0, r := 0 }
  feeds := { l1 := 0, l2 := 0, l3 := 0, l4 := 0 }

/-- A FREE deck (R31). -/
def Deck.initial : Deck where
  state := .free
  item := none
  position := 0
  startedAt := none
  fadeTaken := false

/-- The sequencer after power-on or a global reset (R27, R31, R32, R48). -/
def Sequencer.initial : Sequencer where
  list := []
  tail := none
  deckA := .initial
  deckB := .initial
  state := .stopped
  liveStart := none
  done := []
  doneOverflow := 0
  segueTaken := false
  breakSignal := false

/-- The stack after power-on or a global reset (R50). -/
def Stack.initial : Stack where
  records := []
  overflow := 0
  lastResume := none

/-- A line after power-on or a global reset (R70). -/
def LineRec.initial : LineRec where
  state := .idle
  seize := false
  ringTimer := none
  holdStart := none
  holdLong := false
  feed := .hold
  ringStage := .waitingLow
  ringLevel := 0
  loopLow := 0

/-- The line controller after power-on or a global reset (R70). -/
def LineController.initial : LineController where
  lines := { l1 := .initial, l2 := .initial, l3 := .initial, l4 := .initial }
  queue := []
  missed := 0

/-- The delay unit after power-on or a global reset: T from the profile and the mode by re-evaluation against H = 0 (R91 to
R94, R101). -/
def Delay.initial (p : Profile) : Delay where
  store := []
  lastOut := { l := 0, r := 0 }
  target := p.startTarget * 480
  pendingTarget := none
  mode := if p.startTarget = 0 then .idle else .building
  step := 0
  dumps := 0

/-- The alert unit after power-on (R131). -/
def AlertUnit.initial : AlertUnit where
  table := []
  onAir := none
  armed := true
  p1 := 0#32
  p2 := 0#32
  log := []
  recordCounter := 0#32
  noticeCounter := 0#32
  logOverwrites := 0

/-- The dead-air monitor after power-on or a global reset (R143). -/
def Monitor.initial : Monitor where
  phase := 0
  peak := 0
  clean := true
  run := 0
  due := false

/-- The air state block after power-on (R132). -/
def AirBlock.initial : AirBlock where
  state := .starting
  signOnPending := false
  startTimer := none
  startInto := .onAir
  monitor := .initial

/-- A unit record after a start or a change of role (R158). -/
def SiteUnit.initial (r : Role) : SiteUnit where
  role := r
  presence := .unknown
  misses := 0
  last := none
  lastCode := 0#8

/-- The link after power-on, with a profile's roles, divider and poll period (R147, R150 to R162). -/
def Link.initial (p : Profile) : Link where
  pairs := []
  frame := []
  forward := []
  frameNumber := 0
  sendQueue := []
  holder := none
  selected := none
  receiver := { n := p.returnN, f := p.returnF, prev := true, place := 0 }
  fifo := []
  assembler := none
  took := false
  window := none
  units := { u0 := .initial p.roles.u0, u1 := .initial p.roles.u1, u2 := .initial p.roles.u2, u3 := .initial p.roles.u3 }
  active := .main
  reflectSeen := false
  pollTimer := p.pollPeriod * 48
  turn := .u0
  framing := 0
  overrun := 0
  stray := 0

/-- A lane after power-on, LSEL high (R170). -/
def Lane.initial : Lane where
  phase := .idle
  rx := []
  bits := []
  sent := []
  timer := 0
  reply := none
  shift := none
  shiftStands := false
  inFlight := false
  collision := false
  errors := 0

/-- The default enables of each lane (R178), bit n for kind n. -/
def defaultEnables : PerLane EventSet where
  aut := 0xC0C1F#29
  con := 0x16FFFFE0#29
  alr := 0x9C000#29

/-- The event unit after power-on (R178, R182). -/
def EventUnit.initial : EventUnit where
  status := { aut := 0#29, con := 0#29, alr := 0#29 }
  enable := defaultEnables
  clock := 0#32

/-- The profile store as power-on leaves it, around the non-volatile copy and its marker (R185, R188). -/
def ProfileStore.initial (stored : Profile) (valid : Bool) : ProfileStore where
  working := factory
  stored := stored
  valid := valid
  load := some 96
  write := none
  held := false

/-- The part right after power-on, as delivered: every block at its power-on value, the start sequence begun, the
non-volatile copy without its valid marker (R185, R188; log 12). -/
def State.reset : State where
  pending := []
  pb := .initial factory
  ap := .initial
  sq := .initial
  ps := .initial
  lc := .initial
  du := .initial factory
  al := .initial
  air := .initial
  tl := .initial factory
  cl := { aut := .initial, con := .initial, alr := .initial }
  ev := .initial
  pf := .initial factory false

end Sys2Proof.Machine
end

