-- ==== Sys2Proof/Machine/Flags.lean ====
section
/-! DEFINITION. The event kinds and the sets of them, raising and clearing, the attention lines, and the saturating counts. -/

namespace Sys2Proof.Machine

/-- The 29 event kinds, in the order of the event kind set (R177). -/
inductive EventKind where
  | seqAdvance | cueRequest | lateStart | seqHalted | itemDone
  | lineRing | lineMissed | lineDrop | holdLong | queueChange
  | preempt | resumed | stackOverflow
  | alertPending | alertStart | alertDone | alertFiltered
  | deadAirWarn | failover | airState
  | unitLost | txChangeover | ceiling | remoteRefused | clip | delayDump
  | laneError | clockWrap | profileDefaulted
  deriving DecidableEq, Repr

/-- The bit that names a kind (R177). -/
def EventKind.bit : EventKind → Nat
  | .seqAdvance => 0 | .cueRequest => 1 | .lateStart => 2 | .seqHalted => 3 | .itemDone => 4
  | .lineRing => 5 | .lineMissed => 6 | .lineDrop => 7 | .holdLong => 8 | .queueChange => 9
  | .preempt => 10 | .resumed => 11 | .stackOverflow => 12
  | .alertPending => 13 | .alertStart => 14 | .alertDone => 15 | .alertFiltered => 16
  | .deadAirWarn => 17 | .failover => 18 | .airState => 19
  | .unitLost => 20 | .txChangeover => 21 | .ceiling => 22 | .remoteRefused => 23 | .clip => 24 | .delayDump => 25
  | .laneError => 26 | .clockWrap => 27 | .profileDefaulted => 28

/-- The set that names one kind. -/
def EventKind.set (k : EventKind) : EventSet := BitVec.twoPow 29 k.bit

/-- A raise: the kind joins the status set of every lane (R178). -/
def EventUnit.raise (k : EventKind) (e : EventUnit) : EventUnit :=
  { e with status := { aut := e.status.aut ||| k.set, con := e.status.con ||| k.set, alr := e.status.alr ||| k.set } }

/-- A raise by an owning block (R178). -/
def State.raise (s : State) (k : EventKind) : State := { s with ev := s.ev.raise k }

/-- A raise made when a condition holds. -/
def State.raiseIf (s : State) (c : Bool) (k : EventKind) : State := if c then s.raise k else s

/-- A count that saturates at 65,535 (section 6.4). -/
def countUp (n : Nat) : Nat := if n < Config.countMax then n + 1 else n

/-- A count that saturates at `most`. -/
def countTo (most n : Nat) : Nat := if n < most then n + 1 else n

end Sys2Proof.Machine
end

