-- ==== Sys2Proof/Machine/Ops.lean ====
section
/-! DEFINITION. The named operations over the tables of the state and over roster entries, the air clock and the saturating
24-bit arithmetic. A block has no exception to take and no memory to address, so there are no operations for them. -/

namespace Sys2Proof.Machine

/-! ### Tables by lane, source, line and unit -/

end Sys2Proof.Machine

namespace Sys2Proof

/-- The value for one lane. -/
def PerLane.get {α : Type} (t : PerLane α) : LaneId → α
  | .aut => t.aut
  | .con => t.con
  | .alr => t.alr

/-- The table with one lane's value replaced. -/
def PerLane.set {α : Type} (t : PerLane α) (i : LaneId) (v : α) : PerLane α :=
  match i with
  | .aut => { t with aut := v }
  | .con => { t with con := v }
  | .alr => { t with alr := v }

/-- The value for one source. -/
def PerSource.get {α : Type} (t : PerSource α) : Source → α
  | .pla => t.pla
  | .plb => t.plb
  | .mic => t.mic
  | .fbk => t.fbk
  | .ln1 => t.ln1
  | .ln2 => t.ln2
  | .ln3 => t.ln3
  | .ln4 => t.ln4

/-- The table with one source's value replaced. -/
def PerSource.set {α : Type} (t : PerSource α) (i : Source) (v : α) : PerSource α :=
  match i with
  | .pla => { t with pla := v }
  | .plb => { t with plb := v }
  | .mic => { t with mic := v }
  | .fbk => { t with fbk := v }
  | .ln1 => { t with ln1 := v }
  | .ln2 => { t with ln2 := v }
  | .ln3 => { t with ln3 := v }
  | .ln4 => { t with ln4 := v }

/-- A function applied to every source's value. -/
def PerSource.mapWith {α β : Type} (f : Source → α → β) (t : PerSource α) : PerSource β where
  pla := f .pla t.pla
  plb := f .plb t.plb
  mic := f .mic t.mic
  fbk := f .fbk t.fbk
  ln1 := f .ln1 t.ln1
  ln2 := f .ln2 t.ln2
  ln3 := f .ln3 t.ln3
  ln4 := f .ln4 t.ln4

/-- The value for one line. -/
def PerLine.get {α : Type} (t : PerLine α) : LineId → α
  | .l1 => t.l1
  | .l2 => t.l2
  | .l3 => t.l3
  | .l4 => t.l4

/-- The table with one line's value replaced. -/
def PerLine.set {α : Type} (t : PerLine α) (i : LineId) (v : α) : PerLine α :=
  match i with
  | .l1 => { t with l1 := v }
  | .l2 => { t with l2 := v }
  | .l3 => { t with l3 := v }
  | .l4 => { t with l4 := v }

/-- A function applied to every line's value. -/
def PerLine.mapWith {α β : Type} (f : LineId → α → β) (t : PerLine α) : PerLine β where
  l1 := f .l1 t.l1
  l2 := f .l2 t.l2
  l3 := f .l3 t.l3
  l4 := f .l4 t.l4

/-- The value for one address. -/
def PerUnit.get {α : Type} (t : PerUnit α) : UnitId → α
  | .u0 => t.u0
  | .u1 => t.u1
  | .u2 => t.u2
  | .u3 => t.u3

/-- The table with one address's value replaced. -/
def PerUnit.set {α : Type} (t : PerUnit α) (i : UnitId) (v : α) : PerUnit α :=
  match i with
  | .u0 => { t with u0 := v }
  | .u1 => { t with u1 := v }
  | .u2 => { t with u2 := v }
  | .u3 => { t with u3 := v }

/-- The lines, in ascending number. -/
def LineId.all : List LineId := [.l1, .l2, .l3, .l4]

/-- The sources, in roster order. -/
def Source.all : List Source := [.pla, .plb, .mic, .fbk, .ln1, .ln2, .ln3, .ln4]

/-- The roster source of a line (R1). -/
def LineId.source : LineId → Source
  | .l1 => .ln1
  | .l2 => .ln2
  | .l3 => .ln3
  | .l4 => .ln4

/-- The roster source of a deck (section 2.3). -/
def DeckId.source : DeckId → Source
  | .a => .pla
  | .b => .plb

/-- The other deck. -/
def DeckId.other : DeckId → DeckId
  | .a => .b
  | .b => .a

/-- The next address, wrapping from 3 to 0 (R157). -/
def UnitId.next : UnitId → UnitId
  | .u0 => .u1
  | .u1 => .u2
  | .u2 => .u3
  | .u3 => .u0

end Sys2Proof

namespace Sys2Proof.Machine

/-! ### Arithmetic (section 6.4) -/

/-- Saturate to 24 bits. -/
def sat24 (x : Int) : Int := max Config.sampleMin (min Config.sampleMax x)

/-- A product in gain units brought back to scale: half added, then the arithmetic shift by 14. -/
def gainRound (x : Int) : Int := (x + 8192) >>> (14 : Nat)

/-- The same on gains, which are never negative. -/
def gainRoundNat (x : Nat) : Nat := (x + 8192) / 16384

/-- The mono average of two accumulators brought back to scale: half added, then the arithmetic shift by 15. -/
def monoRound (x : Int) : Int := (x + 16384) >>> (15 : Nat)

/-- A ramp or fade in milliseconds, clamped to 10,000 ms, in samples (R9). -/
def rampSamples (ms : Nat) : Nat := min ms Config.maxRampMs * Config.perMs

/-- Sample periods from one air-clock value to a later one, modulo 2^32 (R182). -/
def since (start now : Clock) : Nat := (now - start).toNat

/-! ### Roster entries (section 1.2 and 1.3) -/

/-- Set OFF (R7). -/
def Entry.setOff (e : Entry) : Entry := { e with state := .off, current := 0, remaining := 0 }

/-- The ramp of a LIVE entry started from its fader current over a length; a length of 0 is taken at once (R9). -/
def Entry.rampLive (e : Entry) (len : Nat) : Entry :=
  { e with current := if len = 0 then e.target else e.current, remaining := len }

/-- Set LIVE over a length (R5). -/
def Entry.setLive (e : Entry) (len : Nat) : Entry :=
  match e.state with
  | .live => e.rampLive len
  | .off => { e with state := .live, current := 0 : Entry }.rampLive len
  | .releasing => { e with state := .live, current := 0 : Entry }.rampLive len

/-- Set RELEASING over a length (R6). -/
def Entry.setReleasing (e : Entry) (len : Nat) : Entry :=
  match e.state with
  | .off => e
  | .live => if len = 0 ∨ e.current = 0 then e.setOff else { e with state := .releasing, remaining := len }
  | .releasing => if len = 0 ∨ e.current = 0 then e.setOff else { e with state := .releasing, remaining := len }

/-- SOURCE-GAIN on an entry: a new fader target, and a new ramp while LIVE (R10). The target is no longer a fade-out's. -/
def Entry.gain (e : Entry) (target len : Nat) : Entry :=
  match e.state with
  | .live => { e with target := target, faded := false : Entry }.rampLive len
  | .off => { e with target := target, faded := false }
  | .releasing => { e with target := target, faded := false }

/-- The fade-out of an item: a retarget to 0 (R38), not applied to a CON-held entry (R13). A RELEASING entry gets the new
release length, an OFF entry the target alone (R9; log 22). -/
def Entry.fadeOut (e : Entry) (len : Nat) : Entry :=
  match e.controller with
  | .con => e
  | .aut =>
    match e.state with
    | .live => { e with target := 0, faded := true : Entry }.rampLive len
    | .off => { e with target := 0, faded := true }
    | .releasing => { e with target := 0, faded := true : Entry }.setReleasing len

/-- A deck entry set LIVE by the sequencer at an item's start (R5, R35); a CON-held entry goes to its target at once (R13). -/
def Entry.startItem (e : Entry) (gain len : Nat) : Entry :=
  match e.controller with
  | .con => { e with state := .live, current := e.target, remaining := 0, faded := false }
  | .aut => { e with target := gain, faded := false : Entry }.setLive len

/-- A deck entry as SEQ-START finds it: an OFF entry is set LIVE toward the target it holds (R45, R13). -/
def Entry.resumeItem (e : Entry) (len : Nat) : Entry :=
  match e.state with
  | .off =>
    match e.controller with
    | .con => { e with state := .live, current := e.target, remaining := 0 }
    | .aut => e.setLive len
  | .live => e
  | .releasing => e

/-- What a snapshot keeps of an entry (R51). -/
def Entry.snapshot (e : Entry) : EntrySnapshot :=
  { state := e.state, target := e.target, remaining := e.remaining, controller := e.controller, faded := e.faded }

/-- An entry restored at a pop from a saved state over a restore length, with a target and its `faded` mark (R64). -/
def Entry.restore (e : Entry) (saved : EntryState) (target len : Nat) (faded : Bool) : Entry :=
  match saved with
  | .live => { e with state := .live, target := target, faded := faded : Entry }.rampLive len
  | .releasing =>
    { e with state := .releasing, target := target, current := if len = 0 then 0 else e.current, remaining := len,
             faded := faded }
  | .off => { e with target := target, faded := faded : Entry }.setReleasing len

/-- The roster entry of a source. -/
def State.entry (s : State) (src : Source) : Entry := s.pb.roster.get src

/-- A roster entry replaced. -/
def State.setEntry (s : State) (src : Source) (e : Entry) : State :=
  { s with pb := { s.pb with roster := s.pb.roster.set src e } }

/-- A roster entry changed by a function. -/
def State.updEntry (s : State) (src : Source) (f : Entry → Entry) : State := s.setEntry src (f (s.entry src))

/-- Every roster entry changed by a function of its source. -/
def State.updRoster (s : State) (f : Source → Entry → Entry) : State :=
  { s with pb := { s.pb with roster := s.pb.roster.mapWith f } }

/-! ### What several blocks read -/

/-- An alert phase is active while an on-air alert is present (R121). -/
def State.alertActive (s : State) : Bool := s.al.onAir.isSome

/-- The cause of the record on top of the stack (R50). -/
def State.topCause (s : State) : Option Cause := s.ps.records.head?.map (·.cause)

/-- The top cause is FAILOVER or REMOTE_FALLBACK (R50). -/
def State.fallbackOnTop (s : State) : Bool :=
  s.topCause = some .failover || s.topCause = some .remoteFallback

/-- The profile preempt fade, in samples (R54). -/
def State.preemptFade (s : State) : Nat := rampSamples s.pf.working.preemptFade

/-- The profile take fade, in samples (R83). -/
def State.takeFade (s : State) : Nat := rampSamples s.pf.working.takeFade

/-- RUN_A and RUN_B: high exactly while the deck is PLAYING or TAILING (R31). -/
def Deck.run (d : Deck) : Bool := d.state = .playing || d.state = .tailing

/-- The attention line of a lane is asserted (low) while its two sets share a kind (R181). -/
def State.attention (s : State) (l : LaneId) : Bool := (s.ev.status.get l &&& s.ev.enable.get l) != 0#29

end Sys2Proof.Machine
end

