-- ==== Sys2Proof/Machine/Operands.lean ====
section
/-! DEFINITION. Operand forms: numbers in bytes, the field codes of request bodies (R174), items (R26, R174), and the codes in
which status pages, log records and replies show the state (R173, R183, R184). -/

namespace Sys2Proof.Machine

/-! ### Numbers, most significant byte first (R173) -/

/-- Two bytes as a number. -/
def word16 (b1 b0 : Byte) : Nat := b1.toNat * 256 + b0.toNat

/-- Four bytes as a number. -/
def word32 (b3 b2 b1 b0 : Byte) : Nat := word16 b3 b2 * 65536 + word16 b1 b0

/-- A number as `n` bytes. -/
def bytesOf : Nat → Nat → List Byte
  | 0, _ => []
  | n + 1, x => BitVec.ofNat 8 (x / 256 ^ n) :: bytesOf n x

/-- One byte. -/
def byte1 (x : Nat) : List Byte := bytesOf 1 x
/-- Two bytes. -/
def byte2 (x : Nat) : List Byte := bytesOf 2 x
/-- Four bytes. -/
def byte4 (x : Nat) : List Byte := bytesOf 4 x

/-- An air-clock value in four bytes. -/
def clockBytes (c : Clock) : List Byte := byte4 c.toNat

/-- A flag bit at a place of a byte. -/
def flagBit (b : Bool) (place : Nat) : Nat := if b then 2 ^ place else 0

/-- Bit `i` of a byte. -/
def bitAt (b : Byte) (i : Nat) : Bool := b.getLsbD i

/-- The bits of a byte in the order they are sent, most significant first (R163, R176). -/
def byteBits (b : Byte) : List Bool :=
  [b.getLsbD 7, b.getLsbD 6, b.getLsbD 5, b.getLsbD 4, b.getLsbD 3, b.getLsbD 2, b.getLsbD 1, b.getLsbD 0]

/-- The bits of bytes in the order they are sent (R163, R176). -/
def bitsOf (bytes : List Byte) : List Bool := bytes.flatMap byteBits

/-! ### Field codes (R174) -/

/-- A source code. -/
def sourceOf (b : Byte) : Option Source :=
  match b.toNat with
  | 0 => some .pla
  | 1 => some .plb
  | 2 => some .mic
  | 3 => some .fbk
  | 4 => some .ln1
  | 5 => some .ln2
  | 6 => some .ln3
  | 7 => some .ln4
  | _ => none

/-- An item kind code. -/
def kindOf (b : Byte) : Option ItemKind :=
  match b.toNat with
  | 0 => some .music
  | 1 => some .speech
  | 2 => some .spot
  | 3 => some .live
  | _ => none

/-- A deck code. -/
def deckOf (b : Byte) : Option DeckId :=
  match b.toNat with
  | 0 => some .a
  | 1 => some .b
  | _ => none

/-- A line code. -/
def lineOf (b : Byte) : Option LineId :=
  match b.toNat with
  | 1 => some .l1
  | 2 => some .l2
  | 3 => some .l3
  | 4 => some .l4
  | _ => none

/-- A resume kind code. -/
def resumeOf (b : Byte) : Option ResumeKind :=
  match b.toNat with
  | 0 => some .goOn
  | 1 => some .next
  | 2 => some .reprise
  | _ => none

/-- An alert class code. -/
def classOf (b : Byte) : Option AlertClass :=
  match b.toNat with
  | 0 => some .test
  | 1 => some .advisory
  | 2 => some .warning
  | 3 => some .emergency
  | _ => none

/-- A transmitter code. -/
def transmitterOf (b : Byte) : Option Transmitter :=
  match b.toNat with
  | 0 => some .main
  | 1 => some .standby
  | _ => none

/-- The event kind set of four bytes; bits 29 to 31 are ignored (R174). -/
def eventSetOf (b3 b2 b1 b0 : Byte) : EventSet := BitVec.ofNat 29 (word32 b3 b2 b1 b0)

/-- The wake enables of a byte: bit 0 AUT sign-on, bit 1 remote sign-on, bit 2 alert wake (R175). -/
def wakeOf (b : Byte) : WakeEnables :=
  { autSignOn := bitAt b 0, remoteSignOn := bitAt b 1, alertWake := bitAt b 2 }

/-! ### Items (R26, R174) -/

/-- The item a request carries, as stored, from an id and a kind already read and the other fields as sent: presence bits,
length and segue in ms, fades in ms, gain. A LIVE item keeps none of them. -/
def storeItem (id : Nat) (kind : ItemKind) (lengthMs segueMs : Option Nat) (fadeInMs fadeOutMs gain : Nat) : Item :=
  match kind with
  | .live => { id, kind, length := none, segue := 0, fadeIn := 0, fadeOut := 0, gain := 0, skipped := false }
  | _ =>
    let length := lengthMs.map fun ms => max 1 (min ms Config.itemMaxMs) * Config.perMs
    let segue := segueMs.getD 0 * Config.perMs
    let fadeOut := rampSamples fadeOutMs
    { id, kind, length,
      segue := match length with
        | some n => min segue n
        | none => segue
      fadeIn := rampSamples fadeInMs
      fadeOut := match length with
        | some n => min fadeOut n
        | none => fadeOut
      gain := min gain Config.unity
      skipped := false }

/-- What the 18 bytes of an item say: its id, its kind where the code names one, and the rest. -/
structure ItemBytes where
  id : Nat
  kind : Option ItemKind
  lengthMs : Option Nat
  segueMs : Option Nat
  fadeInMs : Nat
  fadeOutMs : Nat
  gain : Nat

/-- The 18-byte layout of an item (R174). -/
def itemBytes : List Byte → Option ItemBytes
  | i1 :: i0 :: k :: p :: l3 :: l2 :: l1 :: l0 :: g3 :: g2 :: g1 :: g0 :: fi1 :: fi0 :: fo1 :: fo0 :: v1 :: v0 :: _ =>
    some { id := word16 i1 i0
           kind := kindOf k
           lengthMs := if bitAt p 0 then some (word32 l3 l2 l1 l0) else none
           segueMs := if bitAt p 1 then some (word32 g3 g2 g1 g0) else none
           fadeInMs := word16 fi1 fi0
           fadeOutMs := word16 fo1 fo0
           gain := word16 v1 v0 }
  | _ => none

/-! ### Codes shown to a master -/

/-- Reply codes of the status byte (R173). -/
def ReplyCode.num : ReplyCode → Nat
  | .done => 1
  | .busy => 2
  | .refused => 3
  | .held => 4
  | .full => 5
  | .unknown => 6
  | .badState => 7
  | .badLength => 8
  | .duplicate => 9
  | .filtered => 10
  | .nothing => 11

/-- The bytes of a reply on LDO: status byte, length byte, body (R167, R173). -/
def Reply.bytes (r : Reply) : List Byte :=
  byte1 (flagBit r.collision 7 + flagBit r.lost 6 + r.code.num) ++ byte1 r.body.length ++ r.body

/-- Air state code (R176). -/
def AirState.code : AirState → Nat
  | .offAir => 0
  | .onAir => 1
  | .alertWake => 2
  | .starting => 3

/-- Cause code (R183). -/
def Cause.code : Cause → Nat
  | .breakIn => 0
  | .alert => 1
  | .failover => 2
  | .remoteFallback => 3

/-- Code of who took a pop (R183). -/
def ResumeBy.code : ResumeBy → Nat
  | .con => 0
  | .aut => 1
  | .alertUnit => 2

/-- Resume kind code (R174). -/
def ResumeKind.code : ResumeKind → Nat
  | .goOn => 0
  | .next => 1
  | .reprise => 2

/-- Sequencer state code (R183). -/
def SeqState.code : SeqState → Nat
  | .stopped => 0
  | .running => 1
  | .halted => 2
  | .preempted => 3

/-- Deck state code (R183). -/
def DeckState.code : DeckState → Nat
  | .free => 0
  | .cueing => 1
  | .ready => 2
  | .playing => 3
  | .tailing => 4
  | .paused => 5

/-- Delay mode code (R183). -/
def DelayMode.code : DelayMode → Nat
  | .idle => 0
  | .building => 1
  | .steady => 2
  | .catching => 3
  | .frozen => 4

/-- Line state code (R183). -/
def LineState.code : LineState → Nat
  | .idle => 0
  | .ringing => 1
  | .screen => 2
  | .hold => 3
  | .ready => 4
  | .onAir => 5

/-- Feed select code (R183). -/
def FeedSelect.code : FeedSelect → Nat
  | .mixMinus => 0
  | .hold => 1
  | .screen => 2
  | .alert => 3

/-- Line number. -/
def lineNumber : LineId → Nat
  | .l1 => 1
  | .l2 => 2
  | .l3 => 3
  | .l4 => 4

/-- Alert phase code; 0 is no phase (R183). -/
def AlertPhase.code : AlertPhase → Nat
  | .attention => 1
  | .message => 2
  | .closing => 3

/-- Alert class code (R174). -/
def AlertClass.code : AlertClass → Nat
  | .test => 0
  | .advisory => 1
  | .warning => 2
  | .emergency => 3

/-- Log outcome code (R184). -/
def LogOutcome.code : LogOutcome → Nat
  | .aired => 0
  | .truncated => 1
  | .cancelled => 2
  | .filtered => 3
  | .superseded => 4
  | .dropped => 5
  | .notAired => 6
  | .aborted => 7

/-- Done outcome code (R173). -/
def DoneOutcome.code : DoneOutcome → Nat
  | .complete => 0
  | .skipped => 1
  | .abandoned => 2
  | .removedCued => 3

/-- Role code (R183). -/
def Role.code : Role → Nat
  | .mainTx => 0
  | .standbyTx => 1
  | .siteControl => 2
  | .unused => 3

/-- Presence code (R183). -/
def Presence.code : Presence → Nat
  | .unknown => 0
  | .present => 1
  | .lost => 2

/-- Transmitter code (R174). -/
def Transmitter.code : Transmitter → Nat
  | .main => 0
  | .standby => 1

/-- Duck class code (R185). -/
def DuckClass.code : DuckClass → Nat
  | .ducked => 0
  | .ducker => 1
  | .neither => 2

/-- Start state code (R185). -/
def StartState.code : StartState → Nat
  | .offAir => 0
  | .onAir => 1

/-- The wake enables as a byte (R175). -/
def WakeEnables.code (w : WakeEnables) : Nat :=
  flagBit w.autSignOn 0 + flagBit w.remoteSignOn 1 + flagBit w.alertWake 2

end Sys2Proof.Machine
end

