-- ==== Sys2Proof/Machine/Sequencer.lean ====
section
/-! DEFINITION. The air sequencer's shared operations (chapter 2): binding and freeing decks, cues, due starts, halts, the end
of an item, and what a push and a pop ask of it. -/

namespace Sys2Proof.Machine

/-! ### Decks and items -/

/-- A deck record. -/
def Sequencer.deck (q : Sequencer) : DeckId → Deck
  | .a => q.deckA
  | .b => q.deckB

/-- A deck record replaced. -/
def Sequencer.setDeck (q : Sequencer) (d : DeckId) (k : Deck) : Sequencer :=
  match d with
  | .a => { q with deckA := k }
  | .b => { q with deckB := k }

/-- The deck an item is bound to. -/
def Sequencer.boundDeck (q : Sequencer) (id : Nat) : Option DeckId :=
  if q.deckA.item = some id then some .a else if q.deckB.item = some id then some .b else none

/-- The deck that is PLAYING, which is the head's (R31). -/
def Sequencer.playing (q : Sequencer) : Option DeckId :=
  if q.deckA.state = .playing then some .a else if q.deckB.state = .playing then some .b else none

/-- A FREE deck, deck A when both are FREE (R33). -/
def Sequencer.freeDeck (q : Sequencer) : Option DeckId :=
  if q.deckA.state = .free then some .a else if q.deckB.state = .free then some .b else none

/-- The item of an id, in the list or in the tail slot (R27). -/
def Sequencer.item (q : Sequencer) (id : Nat) : Option Item := (q.list ++ q.tail.toList).find? (·.id = id)

/-- The item bound to a deck. -/
def Sequencer.itemOn (q : Sequencer) (d : DeckId) : Option Item := (q.deck d).item.bind q.item

/-- An item's segue point is reached at a position; an open-length item has none (R35). -/
def Item.segueReached (i : Item) (position : Nat) : Bool :=
  match i.length with
  | some n => n - i.segue ≤ position
  | none => false

/-- An item's fade-out point is reached at a position; an item with no length or a fade-out of 0 has none (R38). -/
def Item.fadeReached (i : Item) (position : Nat) : Bool :=
  match i.length with
  | some n => i.fadeOut ≠ 0 && n - i.fadeOut ≤ position
  | none => false

/-- An item's end is reached at a position (R39). -/
def Item.endReached (i : Item) (position : Nat) : Bool :=
  match i.length with
  | some n => n ≤ position
  | none => false

/-- The sequencer's state replaced. -/
def State.setSq (s : State) (q : Sequencer) : State := { s with sq := q }

/-- A deck record replaced in the state. -/
def State.setDeck (s : State) (d : DeckId) (k : Deck) : State := s.setSq (s.sq.setDeck d k)

/-- The deck record of a state. -/
def State.deck (s : State) (d : DeckId) : Deck := s.sq.deck d

/-- RUN_A or RUN_B (R31). -/
def State.runLine (s : State) (d : DeckId) : Bool := (s.deck d).run

/-- A deck becomes FREE: no item, position 0, no start time, and its entry's bound item cleared (R31). -/
def State.freeDeck (s : State) (d : DeckId) : State :=
  (s.setDeck d .initial).updEntry d.source fun e => { e with bound := none }

/-- A deck is bound to an item and becomes CUEING, and CUE_REQUEST is raised (R33, R29). -/
def State.bindDeck (s : State) (d : DeckId) (id : Nat) : State :=
  ((s.setDeck d { Deck.initial with state := .cueing, item := some id }).updEntry d.source
    fun e => { e with bound := some id }).raise .cueRequest

/-- A done record joins the done list; at 8 records the oldest is discarded and counted (R48). -/
def State.addDone (s : State) (r : DoneRecord) : State :=
  (if s.sq.done.length < Config.doneMax then
      s.setSq { s.sq with done := s.sq.done ++ [r] }
    else
      s.setSq { s.sq with done := s.sq.done.drop 1 ++ [r], doneOverflow := countUp s.sq.doneOverflow }).raise .itemDone

/-- The head leaves the list; whatever was noted of its segue point and its time as a LIVE head goes with it. -/
def State.dropHead (s : State) : State :=
  s.setSq { s.sq with list := s.sq.list.drop 1, segueTaken := false, liveStart := none }

/-! ### Cues (R33) -/

/-- An item may be a cue candidate: it is not LIVE and is bound to no deck. -/
def Sequencer.cueable (q : Sequencer) (i : Item) : Bool := i.kind ≠ .live && (q.boundDeck i.id).isNone

/-- The cue candidate: the head, or index 1 when the head is bound or LIVE. -/
def Sequencer.cueCandidate (q : Sequencer) : Option Nat :=
  match q.list with
  | [] => none
  | h :: rest =>
    if q.cueable h then some h.id
    else
      match rest with
      | [] => none
      | n :: _ => if q.cueable n then some n.id else none

/-- One cue, if a deck is FREE and there is a candidate. -/
def State.cueOnce (s : State) : State :=
  match s.sq.freeDeck, s.sq.cueCandidate with
  | some d, some id => s.bindDeck d id
  | _, _ => s

/-- The cues one event makes: at most one for each deck. -/
def State.cue (s : State) : State := s.cueOnce.cueOnce

/-! ### The end of an item (R39) -/

/-- The item of a deck ends: its done record, its deck FREE, its entry OFF, and it leaves the tail slot or the list. -/
def State.endItem (s : State) (d : DeckId) : State :=
  match s.sq.itemOn d with
  | none => s
  | some i =>
    let k := s.deck d
    let s1 := s.addDone { item := i.id, start := k.startedAt, aired := k.position,
                          outcome := if i.skipped then .skipped else .complete }
    let s2 := (s1.freeDeck d).updEntry d.source Entry.setOff
    if s2.sq.tail.map (·.id) = some i.id then s2.setSq { s2.sq with tail := none } else s2.dropHead

/-- A deck stands at the end of its item while PLAYING or TAILING. -/
def State.atEnd (s : State) (d : DeckId) : Bool :=
  (s.deck d).run &&
    match s.sq.itemOn d with
    | some i => i.endReached (s.deck d).position
    | none => false

/-! ### Due starts (R35 to R37, R40) -/

/-- The PLAYING head has reached its segue point. -/
def Sequencer.headAtSegue (q : Sequencer) : Bool :=
  match q.playing, q.list with
  | some d, h :: _ => h.segueReached (q.deck d).position
  | _, _ => false

/-- The PLAYING head of a state has reached its segue point. -/
def State.headAtSegue (s : State) : Bool := s.sq.headAtSegue

/-- A start is due (R35). -/
def State.startDue (s : State) : Bool :=
  s.sq.state = .running && (s.sq.playing.isNone || s.headAtSegue)

/-- The item to start: index 1 while a deck is PLAYING the head, the head otherwise (R35). -/
def State.itemToStart (s : State) : Option Item :=
  if s.sq.playing.isSome then s.sq.list[1]? else s.sq.list[0]?

/-- The PLAYING head moves to the tail slot, and its deck becomes TAILING (R35). -/
def State.headToTail (s : State) : State :=
  match s.sq.playing with
  | none => s
  | some d =>
    let s1 := s.setDeck d { s.deck d with state := .tailing }
    { s1.dropHead with sq := { s1.dropHead.sq with tail := s1.sq.list.head? } }

/-- The head, a LIVE item, halts the sequencer (R40): SEQ_HALTED, its start time, and a break opportunity (R47). A start time
it already has is kept (log 16). -/
def State.halt (s : State) : State :=
  (s.setSq { s.sq with state := .halted, liveStart := some (s.sq.liveStart.getD s.ev.clock), breakSignal := true }).raise
    .seqHalted

/-- An item starts on its READY deck (R35). A fade-out as long as the item is reached at its start (R38), and so is a segue
as long as the item. -/
def State.startItem (s : State) (d : DeckId) (i : Item) (late : Bool) : State :=
  let s1 := s.headToTail
  let fade := i.fadeReached 0
  let s2 := s1.setDeck d { state := .playing, item := some i.id, position := 0, startedAt := some s.ev.clock, fadeTaken := fade }
  let s3 := s2.updEntry d.source fun e => if fade then (e.startItem i.gain i.fadeIn).fadeOut i.fadeOut else e.startItem i.gain i.fadeIn
  ((s3.setSq { s3.sq with segueTaken := i.segueReached 0 }).raise .seqAdvance).raiseIf late .lateStart

/-- The segue point of the PLAYING head, where it is reached while RUNNING and has not been taken, is taken: the first break
opportunity of R47. -/
def Sequencer.markSegue (q : Sequencer) : Sequencer :=
  if q.state = .running && q.headAtSegue && !q.segueTaken then { q with segueTaken := true, breakSignal := true } else q

/-- The segue point of the PLAYING head of a state is taken where it is due. -/
def State.markSegue (s : State) : State := s.setSq s.sq.markSegue

/-- A due start is taken if its item to start is on a READY deck, or is LIVE; otherwise it waits (R35, R40). A LIVE item at
index 1 waits for an occupied tail slot to empty, and at the very end of the head it waits for that end (R37, R40). -/
def State.takeStart (s : State) (late : Bool) : State :=
  if s.startDue then
    match s.itemToStart with
    | none => s
    | some i =>
      if i.kind = .live then
        match s.sq.playing with
        | none => s.halt
        | some d => if s.sq.tail.isSome || s.atEnd d then s else s.headToTail.halt
      else
        match s.sq.boundDeck i.id with
        | none => s
        | some d => if (s.deck d).state = .ready then s.startItem d i late else s
  else s

/-- What every event that changes the list, a binding or the head looks at again: the head's segue point, the waiting start, and
the starts that one start makes due at once, then the cues (R33, R35, R47). -/
def State.review (s : State) (late : Bool) : State := (((s.markSegue.takeStart late).takeStart false).takeStart false).cue

/-- The PLAYING head at its segue point (R35, R37): the break opportunity once (R47), the start if it can be taken, and the
end of the old head if this is its end too. -/
def State.takeHeadPoint (s : State) (d : DeckId) : State :=
  let s1 := if s.sq.segueTaken then s else s.setSq { s.sq with segueTaken := true, breakSignal := true }
  let s2 := s1.takeStart false
  let s3 := if s2.atEnd d then s2.endItem d else s2
  s3.review false

/-- The segue point of the head is due: it is reached and has not been taken. -/
def State.segueDue (s : State) : Bool := s.headAtSegue && !s.sq.segueTaken

/-- SEGUE_POINT: the event, where it is due (R35, R37, R47). -/
def State.seguePoint (s : State) : State :=
  match s.sq.playing with
  | some d => if s.segueDue then s.takeHeadPoint d else s
  | none => s

/-- ITEM_END: the end of a deck's item, where it is reached; with it the segue point of a head (R37, R39). -/
def State.itemEnd (s : State) (d : DeckId) : State :=
  if s.atEnd d then
    if (s.deck d).state = .playing then s.takeHeadPoint d else (s.endItem d).review false
  else s

/-- The fade-out point of a deck's item is due: it is reached while PLAYING or TAILING and has not been taken. -/
def State.fadeDue (s : State) (d : DeckId) : Bool :=
  (s.deck d).run && !(s.deck d).fadeTaken &&
    match s.sq.itemOn d with
    | some i => i.fadeReached (s.deck d).position
    | none => false

/-- FADE_OUT_POINT: the retarget to 0 over the fade-out, where it is due (R38). -/
def State.fadeOutPoint (s : State) (d : DeckId) : State :=
  if s.fadeDue d then
    match s.sq.itemOn d with
    | some i => (s.setDeck d { s.deck d with fadeTaken := true }).updEntry d.source (·.fadeOut i.fadeOut)
    | none => s
  else s

/-! ### Pause and resume -/

/-- A PLAYING or TAILING deck becomes PAUSED with its position kept (R44, R46). -/
def Deck.pause (k : Deck) : Deck := if k.run then { k with state := .paused } else k

/-- Both decks paused. -/
def Sequencer.pause (q : Sequencer) : Sequencer := { q with deckA := q.deckA.pause, deckB := q.deckB.pause }

/-- A PAUSED deck resumes as PLAYING if its item is the head and as TAILING if it is the tail (R31). -/
def Sequencer.resumed (q : Sequencer) (k : Deck) : Deck :=
  if k.state = .paused then
    if k.item.isSome && k.item = q.list.head?.map (·.id) then { k with state := .playing }
    else if k.item.isSome && k.item = q.tail.map (·.id) then { k with state := .tailing }
    else k
  else k

/-- The sequencer enters a state; an entry into STOPPED or HALTED is a break opportunity (R47; log 19). An entry into RUNNING is
none, also with the PLAYING head at its segue point: that point then counts as taken. -/
def Sequencer.enter (q : Sequencer) (st : SeqState) : Sequencer :=
  { q with
    state := st
    segueTaken := q.segueTaken || (st = .running && q.headAtSegue)
    breakSignal := q.breakSignal || (st ≠ q.state && (st = .stopped || st = .halted)) }

/-- The sequencer stops: decks paused, STOPPED (R44), a segue point that the last mix reached being taken first (R47; log 43). -/
def Sequencer.stop (q : Sequencer) : Sequencer := q.markSegue.pause.enter .stopped

/-- The sequencer at a push (R46), a segue point that the last mix reached being taken first (R47; log 43). An alert that takes the
air leaves no break opportunity standing (R118). -/
def Sequencer.preempt (q : Sequencer) (c : Cause) : Sequencer :=
  let p := q.markSegue.pause.enter (if c = .breakIn then .stopped else .preempted)
  { p with breakSignal := p.breakSignal && c ≠ .alert }

/-- SEQ-START's resume of one deck with its roster entry (R45). -/
def State.resumeDeck (s : State) (d : DeckId) : State :=
  if (s.deck d).state = .paused then
    let s1 := s.setDeck d (s.sq.resumed (s.deck d))
    match s.sq.itemOn d with
    | some i => if (s1.deck d).run then s1.updEntry d.source (·.resumeItem i.fadeIn) else s1
    | none => s1
  else s

/-- The head is bound to a PAUSED deck (R61, R62). -/
def State.pausedHead (s : State) : Option DeckId :=
  match s.sq.list with
  | [] => none
  | h :: _ =>
    match s.sq.boundDeck h.id with
    | none => none
    | some d => if (s.deck d).state = .paused then some d else none

/-- Abandonment of the head on a deck (R46, R61). -/
def State.abandon (s : State) (d : DeckId) : State :=
  match s.sq.list with
  | [] => s
  | h :: _ =>
    let k := s.deck d
    let s1 := s.addDone { item := h.id, start := k.startedAt, aired := k.position, outcome := .abandoned }
    ((s1.freeDeck d).updEntry d.source Entry.setOff).dropHead

/-- Reposition of the head's deck (R46, R62): points that lie ahead again are no longer taken. -/
def State.reposition (s : State) (d : DeckId) (position : Nat) : State :=
  match s.sq.list with
  | [] => s
  | h :: _ =>
    let k := s.deck d
    let s1 := s.setDeck d { k with position := position, fadeTaken := k.fadeTaken && h.fadeReached position }
    s1.setSq { s1.sq with segueTaken := s1.sq.segueTaken && h.segueReached position }

end Sys2Proof.Machine
end

