-- ==== Sys2Proof/Machine/Lines.lean ====
section
/-! DEFINITION. The line controller's shared operations (chapter 4): states and feeds, the caller queue, hold periods, drops,
the ring and loop conditioning, and what a push, a pop and a sign-off ask of it. -/

namespace Sys2Proof.Machine

/-- A line record. -/
def State.line (s : State) (n : LineId) : LineRec := s.lc.lines.get n

/-- A line record replaced. -/
def State.setLine (s : State) (n : LineId) (r : LineRec) : State :=
  { s with lc := { s.lc with lines := s.lc.lines.set n r } }

/-- Seize is on in SCREEN, HOLD, READY and ON_AIR (R70). -/
def LineState.seized : LineState → Bool
  | .idle => false
  | .ringing => false
  | .screen => true
  | .hold => true
  | .ready => true
  | .onAir => true

/-- HOLD and READY make up a hold period (R85). -/
def LineState.holding : LineState → Bool
  | .hold => true
  | .ready => true
  | _ => false

/-- The feed select a state gives (R84). -/
def LineState.feed : LineState → FeedSelect
  | .idle => .hold
  | .ringing => .hold
  | .screen => .screen
  | .hold => .hold
  | .ready => .hold
  | .onAir => .mixMinus

/-- The feed select of a state while an alert phase is or is not active (R84). -/
def LineState.feedIn (st : LineState) (alert : Bool) : FeedSelect := if alert && st.seized then .alert else st.feed

/-- A line enters a state (R70, R84, R85): seize and feed follow it, a hold period begins, goes on or ends, and the loop-low
count starts anew when seize changes from off to on (R71). -/
def LineRec.enter (r : LineRec) (st : LineState) (alert : Bool) (now : Clock) : LineRec :=
  { r with
    state := st
    seize := st.seized
    ringTimer := if st = .ringing then r.ringTimer else none
    holdStart := if st.holding then (if r.state.holding then r.holdStart else some now) else none
    holdLong := st.holding && r.state.holding && r.holdLong
    feed := st.feedIn alert
    loopLow := if st.seized && r.seize then r.loopLow else 0 }

/-- A line of the state enters a state. -/
def State.enterLine (s : State) (n : LineId) (st : LineState) : State :=
  s.setLine n ((s.line n).enter st s.alertActive s.ev.clock)

/-- A line leaves the caller queue, the others in their order; QUEUE_CHANGE when it was there (R82). -/
def State.leaveQueue (s : State) (n : LineId) : State :=
  if n ∈ s.lc.queue then
    ({ s with lc := { s.lc with queue := s.lc.queue.filter (· ≠ n) } } : State).raise .queueChange
  else s

/-- A line joins the caller queue, at the head or at the tail (R77, R82). -/
def State.joinQueue (s : State) (n : LineId) (front : Bool) : State :=
  ({ s with lc := { s.lc with queue := if front then n :: s.lc.queue else s.lc.queue ++ [n] } } : State).raise .queueChange

/-- The number of lines ON_AIR. -/
def LineController.onAirCount (c : LineController) : Nat := (LineId.all.filter fun n => (c.lines.get n).state = .onAir).length

/-- The lines ON_AIR, in ascending number (R51). -/
def LineController.onAirLines (c : LineController) : List LineId := LineId.all.filter fun n => (c.lines.get n).state = .onAir

/-- A line is re-screened, queued or dropped: no record on the stack offers it back any more (R66, R88). -/
def State.leaveOffers (s : State) (n : LineId) : State :=
  { s with ps := { s.ps with records := s.ps.records.map fun r => { r with gone := r.gone.set n true } } }

/-- A drop (R80): IDLE with seize off, out of the queue and of the lines a pop offers, an ON_AIR line's entry RELEASING over the take
fade. -/
def State.dropLine (s : State) (n : LineId) : State :=
  let s1 := (s.leaveQueue n).leaveOffers n
  let s2 := s1.enterLine n .idle
  if (s.line n).state = .onAir then s2.updEntry n.source (·.setReleasing s.takeFade) else s2

/-- Every ON_AIR line forced to HOLD by a push (R86). -/
def LineController.forceHold (c : LineController) (alert : Bool) (now : Clock) : LineController :=
  { c with lines := c.lines.mapWith fun _ r => if r.state = .onAir then r.enter .hold alert now else r }

/-- The feed selects of all lines set from their states (R84). -/
def LineController.refeed (c : LineController) (alert : Bool) : LineController :=
  { c with lines := c.lines.mapWith fun _ r => { r with feed := r.state.feedIn alert } }

/-- Every seized line dropped and the queue emptied at a sign-off (R89). -/
def LineController.dropAll (c : LineController) (now : Clock) : LineController :=
  { c with lines := c.lines.mapWith (fun _ r => if r.seize then r.enter .idle false now else r), queue := [] }

/-- The lines of a saved list that a pop returns to the air: those in HOLD that have not been re-screened, queued or dropped since
the push, in the list's order, within the two-line room (R66, R87, R88; log 40). -/
def LineController.returned (c : LineController) (saved : List LineId) (gone : PerLine Bool) : List LineId :=
  (saved.filter fun n => (c.lines.get n).state = .hold && !gone.get n).take (Config.airLines - c.onAirCount)

/-- Lines pass from HOLD to ON_AIR at a pop (R87). -/
def LineController.returnToAir (c : LineController) (ns : List LineId) (alert : Bool) (now : Clock) : LineController :=
  { c with lines := c.lines.mapWith fun n r => if n ∈ ns then r.enter .onAir alert now else r }

/-! ### Conditioning at each sample period (R71, R74) -/

/-- The ring filter's look at RING_n: consecutive low samples while waiting for low, consecutive high samples while counting
high; the count stands at 4,800 until the event it makes due is taken. -/
def LineRec.sampleRing (r : LineRec) (high : Bool) : LineRec :=
  match r.ringStage with
  | .waitingLow => { r with ringLevel := if high then 0 else countTo Config.ringCount r.ringLevel }
  | .countingHigh => { r with ringLevel := if high then countTo Config.ringCount r.ringLevel else 0 }

/-- The look at LOOP_n while seize is on; with seize off the count is held at 0. -/
def LineRec.sampleLoop (r : LineRec) (high : Bool) : LineRec :=
  { r with loopLow := if r.seize && !high then countTo Config.loopLoss r.loopLow else 0 }

/-- The ring timer's advance while RINGING (R74). -/
def LineRec.tickRing (r : LineRec) : LineRec :=
  { r with ringTimer := r.ringTimer.map fun t => { gap := t.gap + 1, total := t.total + 1 } }

/-- One sample period of a line. -/
def LineRec.tick (r : LineRec) (ring loop : Bool) : LineRec := ((r.sampleRing ring).sampleLoop loop).tickRing

/-! ### Hardware events -/

/-- RING_FILTER_ARMED: 4,800 low samples have been counted, and the filter passes to counting high from 0 (R71). -/
def State.ringArmed (s : State) (n : LineId) : State :=
  let r := s.line n
  if r.ringStage = .waitingLow ∧ Config.ringCount ≤ r.ringLevel then
    s.setLine n { r with ringStage := .countingHigh, ringLevel := 0 }
  else s

/-- RING_BURST: 4,800 high samples have been counted; the filter returns to waiting for low, and the burst rings an IDLE line,
restarts the gap of a RINGING one, and is discarded otherwise (R71, R73). -/
def State.ringBurst (s : State) (n : LineId) : State :=
  let r := s.line n
  if r.ringStage = .countingHigh ∧ Config.ringCount ≤ r.ringLevel then
    let r1 : LineRec := { r with ringStage := .waitingLow, ringLevel := 0 }
    match r.state with
    | .idle =>
      (s.setLine n { r1.enter .ringing s.alertActive s.ev.clock with ringTimer := some { gap := 0, total := 0 } }).raise .lineRing
    | .ringing => s.setLine n { r1 with ringTimer := r1.ringTimer.map fun t => { t with gap := 0 } }
    | _ => s.setLine n r1
  else s

/-- A ring timer has reached a limit: a gap of 8 s, or the profile ring timeout (R74). -/
def RingTimer.expired (t : RingTimer) (timeoutSeconds : Nat) : Bool :=
  Config.ringGap ≤ t.gap || timeoutSeconds * Config.perSecond ≤ t.total

/-- RING_EXPIRY: a RINGING line gives up; IDLE, a missed call, LINE_MISSED (R74). -/
def State.ringExpiry (s : State) (n : LineId) : State :=
  match (s.line n).state, (s.line n).ringTimer with
  | .ringing, some t =>
    if t.expired s.pf.working.ringTimeout then
      let s1 := s.enterLine n .idle
      ({ s1 with lc := { s1.lc with missed := countUp s1.lc.missed } } : State).raise .lineMissed
    else s
  | _, _ => s

/-- LOOP_LOSS: a seized line with 19,200 low loop samples is dropped, and LINE_DROP is raised (R71, R81). -/
def State.loopLoss (s : State) (n : LineId) : State :=
  if (s.line n).seize ∧ Config.loopLoss ≤ (s.line n).loopLow then (s.dropLine n).raise .lineDrop else s

/-- A hold period has reached the profile hold limit and has not been reported (R85). -/
def State.holdLongDue (s : State) (n : LineId) : Bool :=
  let r := s.line n
  r.state.holding && !r.holdLong &&
    match r.holdStart with
    | some t => s.pf.working.holdLimit * Config.perSecond ≤ since t s.ev.clock
    | none => false

/-- HOLD_LONG (R85). -/
def State.holdLong (s : State) (n : LineId) : State :=
  if s.holdLongDue n then (s.setLine n { s.line n with holdLong := true }).raise .holdLong else s

end Sys2Proof.Machine
end

