-- ==== Sys2Proof/Machine/DelayUnit.lean ====
section
/-! DEFINITION. The delay unit (chapter 5): re-evaluation, the exchange at each mix, target changes, dumps, the freeze, the
unfreeze and the flush. -/

namespace Sys2Proof.Machine

/-- The held count H (R91). -/
def Delay.held (d : Delay) : Nat := d.store.length

/-- The mode a re-evaluation gives (R93). -/
def Delay.modeOf (held target : Nat) : DelayMode :=
  if held < target then .building
  else if target < held then .catching
  else if target = 0 then .idle
  else .steady

/-- A re-evaluation: the step counter is set to 0 at a change of mode and kept otherwise; none is made while FROZEN (R93,
R94). -/
def Delay.reevaluate (d : Delay) : Delay :=
  if d.mode = .frozen then d
  else
    let m := Delay.modeOf d.held d.target
    if m = d.mode then d else { d with mode := m, step := 0 }

/-- The unit is held: STARTING or OFF_AIR and not FROZEN (R98). -/
def Delay.isHeld (d : Delay) (air : AirState) : Bool := (air = .starting || air = .offAir) && d.mode ≠ .frozen

/-- BUILDING and CATCHING take steps (R94). -/
def DelayMode.stepping (m : DelayMode) : Bool := m = .building || m = .catching

/-- The next mix is a step mix: the counter, incremented, stands at the divisor or above (R94). -/
def Delay.stepMix (d : Delay) (divisor : Nat) : Bool := d.mode.stepping && divisor ≤ d.step + 1

/-- How many pairs the exchange removes (R95). -/
def Delay.removed (d : Delay) (divisor : Nat) : Nat :=
  if d.stepMix divisor then (if d.mode = .building then 0 else 2) else 1

/-- The exchange of a running unit (R95): the pairs held followed by P, `removed` of them taken from the front, the last one
taken being D, or the last output pair when none is; then the re-evaluation. -/
def Delay.run (d : Delay) (divisor : Nat) (p : Pair) : Delay :=
  let line := d.store ++ [p]
  let k := d.removed divisor
  let out := (line.take k).getLast?.getD d.lastOut
  Delay.reevaluate
    { d with store := line.drop k
             lastOut := out
             step := if d.mode.stepping && !d.stepMix divisor then d.step + 1 else 0 }

/-- What the unit does at a mix (R95, R98, R103). The pair D it returns is the last output pair it records. -/
def Delay.exchange (d : Delay) (air : AirState) (divisor : Nat) (p : Pair) : Delay :=
  if d.mode = .frozen then { d with lastOut := { l := 0, r := 0 }, step := 0 }
  else if d.isHeld air then { d with lastOut := p, step := 0 }
  else d.run divisor p

/-- A target change (R99): the pending target while FROZEN, the target and a re-evaluation otherwise. -/
def Delay.setTarget (d : Delay) (blocks : Nat) : Delay :=
  let t := min blocks Config.targetMaxBlocks * Config.perBlock
  if d.mode = .frozen then { d with pendingTarget := some t } else Delay.reevaluate { d with target := t }

/-- How many pairs a dump discards (R100). -/
def Delay.dumpAmount (d : Delay) (dumpBlocks : Nat) : Nat := min d.held (dumpBlocks * Config.perBlock)

/-- A dump that discards an amount: the oldest pairs go, the dump is counted, and the mode is re-evaluated unless FROZEN (R100,
R101). -/
def Delay.dump (d : Delay) (amount : Nat) : Delay :=
  Delay.reevaluate { d with store := d.store.drop amount, dumps := countUp d.dumps }

/-- The freeze of an ALERT push (R102). -/
def Delay.freeze (d : Delay) : Delay := { d with mode := .frozen, step := 0 }

/-- The unfreeze of an ALERT pop (R104). -/
def Delay.unfreeze (d : Delay) : Delay :=
  let t := d.pendingTarget.getD d.target
  { d with target := t, pendingTarget := none, mode := Delay.modeOf d.held t, step := 0 }

/-- The flush of a sign-off (R105). -/
def Delay.flush (d : Delay) : Delay :=
  { d with store := [], lastOut := { l := 0, r := 0 }, step := 0, mode := Delay.modeOf 0 d.target }

/-- The target taken from the loaded profile at the end of the power-on load, with its mode (R188). -/
def Delay.load (d : Delay) (blocks : Nat) : Delay := Delay.reevaluate { d with target := blocks * Config.perBlock }

/-- The delay unit replaced. -/
def State.setDu (s : State) (d : Delay) : State := { s with du := d }

end Sys2Proof.Machine
end

