-- ==== Sys2Proof/Machine/SiteQueue.lean ====
section
/-! DEFINITION. The site send queue, its commands and the pending-command holder (section 8.2), the roles of the unit table,
the ceiling flag the link hands to the bus, and the changeover (section 8.8). -/

namespace Sys2Proof.Machine

/-- The address byte of a select character (R177). -/
def selectCode : UnitId → Byte
  | .u0 => 0xA0#8
  | .u1 => 0xA1#8
  | .u2 => 0xA2#8
  | .u3 => 0xA3#8

/-- The unit a select code names (R177). -/
def unitOfSelect (b : Byte) : Option UnitId :=
  match b.toNat with
  | 0xA0 => some .u0
  | 0xA1 => some .u1
  | 0xA2 => some .u2
  | 0xA3 => some .u3
  | _ => none

/-- The data of a command character (R177). -/
def SiteOp.code : SiteOp → Byte
  | .poll => 0x01#8
  | .carrierOn => 0x02#8
  | .carrierOff => 0x03#8
  | .goStandby => 0x04#8
  | .goMain => 0x05#8

/-- The two characters of a command (section 8.2). -/
def SiteCommand.chars (c : SiteCommand) : List SiteChar :=
  [{ marker := true, data := selectCode c.unit }, { marker := false, data := c.op.code }]

/-- At least two places of the queue are free (R150). -/
def Link.hasRoom (l : Link) : Bool := l.sendQueue.length + 2 ≤ Config.sendMax

/-- A command enters the queue whole (R150). -/
def Link.append (l : Link) (c : SiteCommand) : Link := { l with sendQueue := l.sendQueue ++ c.chars }

/-- A non-poll command to be queued (R151). -/
def Link.command (l : Link) (c : SiteCommand) : Link :=
  match l.holder with
  | some _ => { l with holder := some c }
  | none => if l.hasRoom then l.append c else { l with holder := some c }

/-- The command in the holder enters the queue if it now fits (R151). -/
def Link.drainHolder (l : Link) : Link :=
  match l.holder with
  | some c => if l.hasRoom then { l.append c with holder := none } else l
  | none => l

/-- The unit that bears a role: the lowest address with it (R158). -/
def Link.bearer (l : Link) (r : Role) : Option UnitId :=
  if l.units.u0.role = r then some .u0
  else if l.units.u1.role = r then some .u1
  else if l.units.u2.role = r then some .u2
  else if l.units.u3.role = r then some .u3
  else none

/-- A non-poll command to the bearer of a role; none is queued when no unit bears it (R150). -/
def Link.commandRole (l : Link) (r : Role) (op : SiteOp) : Link :=
  match l.bearer r with
  | some u => l.command { unit := u, op := op }
  | none => l

/-- The role of a transmitter. -/
def Transmitter.role : Transmitter → Role
  | .main => .mainTx
  | .standby => .standbyTx

/-- The link replaced. -/
def State.setTl (s : State) (l : Link) : State := { s with tl := l }

/-- A command to the active transmitter (R133). -/
def State.carrier (s : State) (op : SiteOp) : State := s.setTl (s.tl.commandRole s.tl.active.role op)

/-- The fault flag of a unit's last status (R177). -/
def SiteUnit.fault (u : SiteUnit) : Bool :=
  match u.last with
  | some st => bitAt st.flags 1
  | none => false

/-- The part of the changeover condition that the unit table gives: the main unit LOST or faulted, the standby PRESENT
(R161). -/
def Link.mainFailed (l : Link) : Bool :=
  match l.bearer .mainTx, l.bearer .standbyTx with
  | some m, some b =>
    ((l.units.get m).presence = .lost || (l.units.get m).fault) && (l.units.get b).presence = .present
  | _, _ => false

/-- The station's carrier is up: ON_AIR or ALERT_WAKE (R159, R161). -/
def AirState.carrierUp (a : AirState) : Bool := a = .onAir || a = .alertWake

/-- The changeover condition (R161). -/
def State.changeoverHolds (s : State) : Bool :=
  s.pf.working.autoChangeover && s.tl.active = .main && s.air.state.carrierUp && s.tl.mainFailed

/-- The changeover, in the order of R161. -/
def Link.changeover (l : Link) : Link :=
  let l1 := ((l.commandRole .mainTx .carrierOff).commandRole .standbyTx .carrierOn).commandRole .siteControl .goStandby
  { l1 with active := .standby, reflectSeen := false }

/-- The look at the changeover condition (R161). -/
def State.lookChangeover (s : State) : State :=
  if s.changeoverHolds then (s.setTl s.tl.changeover).raise .txChangeover else s

/-- The bus takes a lower or a restore of the ceiling, and CEILING is raised either way (R22). -/
def State.setCeiling (s : State) (lowered : Bool) : State :=
  ({ s with pb := { s.pb with ceilingLowered := lowered } } : State).raise .ceiling

end Sys2Proof.Machine
end

