-- ==== Sys2Proof/Machine/AlertLog.lean ====
section
/-! DEFINITION. The alert log (R128), the off-air test (R111) and the sweep of the pending table (R119), and the announcement
of a change of the air state (R133), which the blocks between the alert unit and the stack need. -/

namespace Sys2Proof.Machine

/-- The alert unit replaced. -/
def State.setAl (s : State) (a : AlertUnit) : State := { s with al := a }

/-- A log record is written: numbered by the record counter before it is counted; a full log loses its oldest (R128). -/
def AlertUnit.write (a : AlertUnit) (id : Nat) (cls : AlertClass) (originator : Nat) (outcome : LogOutcome)
    (arrival : Clock) (airing : Option Airing) : AlertUnit :=
  let r : LogRecord := { number := a.recordCounter.toNat % 65536, id, cls, originator, outcome, arrival, airing }
  { a with
    log := r :: a.log.take (Config.logMax - 1)
    recordCounter := a.recordCounter + 1#32
    logOverwrites := if a.log.length < Config.logMax then a.logOverwrites else countUp a.logOverwrites }

/-- A pending alert is logged, with no start and no duration. -/
def AlertUnit.writePending (a : AlertUnit) (p : PendingAlert) (outcome : LogOutcome) : AlertUnit :=
  a.write p.id p.cls p.originator outcome p.arrival none

/-- The aired duration up to now, in milliseconds: the mixes since the first of ATTENTION, divided by 48 (R124, R126, R131). -/
def OnAirAlert.airing (o : OnAirAlert) (now : Clock) : Airing := { start := o.start, ms := since o.start now / 48 }

/-- The on-air alert is logged with its start and duration. -/
def AlertUnit.writeOnAir (a : AlertUnit) (o : OnAirAlert) (outcome : LogOutcome) (now : Clock) : AlertUnit :=
  a.write o.id o.cls o.originator outcome o.arrival (some (o.airing now))

/-- WARNING and EMERGENCY may wake a station (R111, R117). -/
def AlertClass.wakes : AlertClass → Bool
  | .test => false
  | .advisory => false
  | .warning => true
  | .emergency => true

/-- The off-air test stops a class: alert wake clear, or a class that does not wake (R111). -/
def offAirStops (alertWake : Bool) (c : AlertClass) : Bool := !(alertWake && c.wakes)

/-- The sweep: every pending alert the off-air test would stop leaves the table and is logged NOT_AIRED, in table order
(R119). -/
def AlertUnit.sweep (a : AlertUnit) (alertWake : Bool) : AlertUnit :=
  let stopped := a.table.filter fun p => offAirStops alertWake p.cls
  let kept := a.table.filter fun p => !offAirStops alertWake p.cls
  stopped.foldl (fun acc p => acc.writePending p .notAired) { a with table := kept }

/-- The sweep with the enable as it stands. -/
def State.sweep (s : State) : State := s.setAl (s.al.sweep s.pf.working.wake.alertWake)

/-- The carrier command of a change of the air state (R133). -/
def carrierFor : AirState → AirState → Option SiteOp
  | .alertWake, .onAir => none
  | _, .onAir => some .carrierOn
  | _, .alertWake => some .carrierOn
  | _, .offAir => some .carrierOff
  | _, .starting => none

/-- The air state replaced. -/
def State.setAir (s : State) (a : AirState) : State := { s with air := { s.air with state := a } }

/-- A change of the air state is announced: AIR_STATE, the carrier command, then the look at the changeover behind it (R133,
R161). -/
def State.announceAir (s : State) (old : AirState) : State :=
  let s1 := s.raise .airState
  let s2 :=
    match carrierFor old s.air.state with
    | some op => s1.carrier op
    | none => s1
  s2.lookChangeover

/-- The end of a wake at an ALERT pop (R140); in any other air state the pop does not reach the block. -/
def State.endWake (s : State) : State :=
  if s.air.state = .alertWake then
    if s.air.signOnPending then
      ({ s with air := { s.air with state := .onAir, signOnPending := false } } : State).announceAir .alertWake
    else ((s.setAir .offAir).announceAir .alertWake).sweep
  else s

end Sys2Proof.Machine
end

