-- ==== Sys2Proof/Machine/Preemption.lean ====
section
/-! DEFINITION. The preemption stack (chapter 3): the push shared by the four causes, the changes of each cause, and the pop
with its reconciliation. -/

namespace Sys2Proof.Machine

/-- The stack replaced. -/
def State.setPs (s : State) (p : Stack) : State := { s with ps := p }

/-! ### Push (R51 to R57) -/

/-- The saved entry of a deck; absent when it is FREE (R51). -/
def Deck.snapshot (k : Deck) : Option DeckSnapshot :=
  match k.item with
  | some i => if k.state = .free then none else some { item := i, state := k.state, position := k.position }
  | none => none

/-- The context record a push fills (R51). -/
def State.context (s : State) (c : Cause) : Context where
  cause := c
  pushedAt := s.ev.clock
  seqState := s.sq.state
  deckA := s.sq.deckA.snapshot
  deckB := s.sq.deckB.snapshot
  roster := s.pb.roster.mapWith fun _ e => e.snapshot
  onAirLines := s.lc.onAirLines
  delayMode := s.du.mode
  gone := { l1 := false, l2 := false, l3 := false, l4 := false }

/-- The record goes on top; at 8 records the bottom one is discarded first and counted (R52). -/
def Stack.add (p : Stack) (r : Context) : Stack :=
  if p.records.length < Config.stackMax then { p with records := r :: p.records }
  else { p with records := r :: p.records.take (Config.stackMax - 1), overflow := countUp p.overflow }

/-- The changes of a BREAK_IN: the decks' entries released, MIC set LIVE, over the preempt fade (R54). -/
def State.breakInChanges (s : State) : State :=
  ((s.updEntry .pla (·.setReleasing s.preemptFade)).updEntry .plb (·.setReleasing s.preemptFade)).updEntry .mic
    (·.setLive s.preemptFade)

/-- The changes of an ALERT: ON_AIR lines to HOLD, every entry OFF, the delay frozen (R55). -/
def State.alertChanges (s : State) : State :=
  let s1 : State := { s with lc := s.lc.forceHold s.alertActive s.ev.clock }
  (s1.updRoster fun _ e => e.setOff).setDu s.du.freeze

/-- The changes of a FAILOVER or a REMOTE_FALLBACK: ON_AIR lines to HOLD, every entry but FBK released over the preempt fade,
FBK set LIVE to 16384 over it (R56, R57). -/
def State.fallbackChanges (s : State) : State :=
  let s1 : State := { s with lc := s.lc.forceHold s.alertActive s.ev.clock }
  s1.updRoster fun src e =>
    if src = .fbk then { e with target := Config.unity : Entry }.setLive s.preemptFade else e.setReleasing s.preemptFade

/-- The cause's own changes (R53 step 4). -/
def State.causeChanges (s : State) : Cause → State
  | .breakIn => s.breakInChanges
  | .alert => s.alertChanges
  | .failover => s.fallbackChanges
  | .remoteFallback => s.fallbackChanges

/-- A push, in the order of R53. -/
def State.push (s : State) (c : Cause) : State :=
  let full := !(s.ps.records.length < Config.stackMax)
  let s1 := (s.setPs (s.ps.add (s.context c))).raiseIf full .stackOverflow
  let s2 := s1.setSq (s1.sq.preempt c)
  (s2.causeChanges c).raise .preempt

/-! ### Pop (R60 to R69) -/

/-- What a resume kind comes to at this pop: NEXT and REPRISE are taken as CONTINUE where R61 and R62 say so. -/
def State.applied (s : State) (r : Context) (k : ResumeKind) : ResumeKind :=
  match k with
  | .goOn => .goOn
  | .next => if r.seqState = .running ∧ s.pausedHead.isSome then .next else .goOn
  | .reprise => if s.pausedHead.isSome then .reprise else .goOn

/-- The position a REPRISE gives: back by the reprise amount, not below 0 (R62). -/
def State.reprisePosition (s : State) (d : DeckId) : Nat := (s.deck d).position - s.pf.working.reprise * Config.perMs

/-- The last-resume record of a pop (R69), from the state before the pop. -/
def State.lastResume (s : State) (r : Context) (taker : ResumeBy) (k : ResumeKind) : LastResume where
  cause := r.cause
  takenBy := taker
  kind := s.applied r k
  poppedAt := s.ev.clock
  duration := since r.pushedAt s.ev.clock
  delayMode := r.delayMode
  item := if s.applied r k = .goOn then none else s.sq.list.head?.map (·.id)
  position := if s.applied r k = .reprise then s.pausedHead.map s.reprisePosition else none

/-- Step 2 of a pop: the resume kind applied to the head (R61, R62). -/
def State.applyKind (s : State) (k : ResumeKind) : State :=
  match k, s.pausedHead with
  | .next, some d => s.abandon d
  | .reprise, some d => s.reposition d (s.reprisePosition d)
  | _, _ => s

/-- A saved deck entry fits the deck: it is still bound to the saved item (R63). -/
def deckFits (saved : Option DeckSnapshot) (k : Deck) : Bool :=
  match saved with
  | some e => k.item = some e.item
  | none => false

/-- Step 3 for one deck: a deck that was playing and still fits resumes, when the saved sequencer state lets it (R63). -/
def Sequencer.reconcile (q : Sequencer) (saved : Option DeckSnapshot) (st : SeqState) (k : Deck) : Deck :=
  match saved with
  | some e =>
    if k.item = some e.item ∧ (e.state = .playing ∨ e.state = .tailing) ∧ (st = .running ∨ st = .halted) then q.resumed k
    else k
  | none => k

/-- Step 3 of a pop (R63). -/
def Sequencer.reconcileDecks (q : Sequencer) (r : Context) : Sequencer :=
  { q with deckA := q.reconcile r.deckA r.seqState q.deckA, deckB := q.reconcile r.deckB r.seqState q.deckB }

/-- The restore length of a saved entry (R64). -/
def State.restoreLength (s : State) (e : EntrySnapshot) : Nat := min (e.remaining + s.preemptFade) Config.maxRamp

/-- The target a saved entry is restored toward: the saved one, but the item gain for a reprised head whose target was the 0 of its
fade-out, where that fade-out lies ahead again (R62; log 21). `reprised` is the deck repositioned. -/
def State.restoreTarget (s : State) (src : Source) (e : EntrySnapshot) (reprised : Option DeckId) : Nat :=
  match reprised, s.sq.list with
  | some d, h :: _ =>
    if d.source = src ∧ e.target = 0 ∧ e.faded ∧ ¬ h.fadeReached (s.deck d).position then h.gain else e.target
  | _, _ => e.target

/-- One entry restored, unless the console has taken it since the push (R64, R65). -/
def State.restoreEntry (s : State) (r : Context) (reprised : Option DeckId) (src : Source) : State :=
  let e := r.roster.get src
  if (s.entry src).controller = .con ∧ e.controller ≠ .con then s
  else
    let t := s.restoreTarget src e reprised
    s.updEntry src fun x => x.restore e.state t (s.restoreLength e) (e.faded && t = 0)

/-- A deck's entry restored, if its saved entry was (R65). -/
def State.restoreDeckEntry (s : State) (r : Context) (reprised : Option DeckId) (d : DeckId)
    (saved : Option DeckSnapshot) : State :=
  if deckFits saved (s.deck d) then s.restoreEntry r reprised d.source else s

/-- Step 4 of a pop: PLA, PLB, MIC, and FBK for every cause but BREAK_IN (R64). -/
def State.restoreRoster (s : State) (r : Context) (reprised : Option DeckId) : State :=
  let s1 := ((s.restoreDeckEntry r reprised .a r.deckA).restoreDeckEntry r reprised .b r.deckB).restoreEntry r none .mic
  if r.cause = .breakIn then s1 else s1.restoreEntry r none .fbk

/-- Step 5 of a pop: the on-air lines returned, with their entries (R66, R87, R88). -/
def State.restoreLines (s : State) (r : Context) : State :=
  if r.cause = .breakIn then s
  else
    let ns := s.lc.returned r.onAirLines r.gone
    let s1 : State := { s with lc := s.lc.returnToAir ns s.alertActive s.ev.clock }
    ns.foldl (fun acc n => acc.restoreEntry r none n.source) s1

/-- Step 6 of a pop: an ALERT's end unfreezes the delay and ends the wake (R67). -/
def State.restoreDelay (s : State) (r : Context) : State :=
  if r.cause = .alert then (s.setDu s.du.unfreeze).endWake else s

/-- Step 7 of a pop: the sequencer takes the saved state, due starts are taken and free decks cued (R60). -/
def State.restoreSequencer (s : State) (r : Context) : State := (s.setSq (s.sq.enter r.seqState)).review false

/-- A pop of the record `r`, which stands on top of `rest`, in the order of R60. -/
def State.popRecord (s : State) (r : Context) (rest : List Context) (taker : ResumeBy) (k : ResumeKind) : State :=
  let applied := s.applied r k
  let reprised := if applied = .reprise then s.pausedHead else none
  let s1 := s.setPs { s.ps with records := rest, lastResume := some (s.lastResume r taker k) }
  let s2 := s1.applyKind applied
  let s3 := s2.setSq (s2.sq.reconcileDecks r)
  let s4 := s3.restoreRoster r reprised
  let s5 := s4.restoreLines r
  let s6 := s5.restoreDelay r
  let s7 := s6.restoreSequencer r
  s7.raise .resumed

/-- A pop of the top record; with the stack empty there is none. -/
def State.pop (s : State) (taker : ResumeBy) (k : ResumeKind) : State :=
  match s.ps.records with
  | [] => s
  | r :: rest => s.popRecord r rest taker k

end Sys2Proof.Machine
end

