-- ==== Sys2Proof/Machine/Alerts.lean ====
section
/-! DEFINITION. The alert unit's shared operations (chapter 6): notices, the pending table, taking the air, break opportunities,
the phases and the end of an alert. -/

namespace Sys2Proof.Machine

/-! ### Taking the air -/

/-- The air state admits a class (R117). -/
def State.admitsClass (s : State) (c : AlertClass) : Bool :=
  match s.air.state with
  | .onAir => true
  | .offAir => s.pf.working.wake.alertWake && c.wakes
  | .starting => false
  | .alertWake => false

/-- Armed, no alert on air, and the air state admits the alert (R117, R118). -/
def State.mayTake (s : State) (p : PendingAlert) : Bool := s.al.armed && s.al.onAir.isNone && s.admitsClass p.cls

/-- ATTENTION begins for an alert, both accumulators at 0 and the attention length as the profile now has it (R122). -/
def State.beginAttention (s : State) (p : PendingAlert) : State :=
  s.setAl { s.al with
    onAir := some { id := p.id, cls := p.cls, originator := p.originator, audio := p.audio, maxDuration := p.maxDuration,
                    arrival := p.arrival, start := s.ev.clock, phase := .attention, count := 0,
                    attention := s.pf.working.attention * Config.perSecond, ending := none }
    p1 := 0#32
    p2 := 0#32 }

/-- The wake of a station off air (R139). -/
def State.wake (s : State) : State :=
  if s.air.state = .offAir then
    ({ s with air := { s.air with state := .alertWake, signOnPending := false } } : State).announceAir .offAir
  else s

/-- The first pending alert `p` takes the air, in the order of R120. -/
def State.takeAir (s : State) (p : PendingAlert) (rest : List PendingAlert) : State :=
  let s1 := s.wake
  let s2 := (s1.setAl { s1.al with table := rest }).beginAttention p
  let s3 := s2.push .alert
  ({ s3 with lc := s3.lc.refeed true } : State).raise .alertStart

/-- The look at the first pending alert: it takes the air if it is due and may (R117). -/
def State.checkAlerts (s : State) : State :=
  match s.al.table with
  | [] => s
  | p :: rest => if p.due && s.mayTake p then s.takeAir p rest else s

/-- A break opportunity: it gives the air to a first pending WINDOW alert that is not yet due (R118). -/
def State.breakOpportunity (s : State) : State :=
  match s.al.table with
  | [] => s
  | p :: rest => if !p.due && s.mayTake p then s.takeAir p rest else s

/-- The break opportunity an event has signalled, taken once the event is complete (R47, R118). -/
def State.takeBreak (s : State) : State :=
  if s.sq.breakSignal then (s.setSq { s.sq with breakSignal := false }).breakOpportunity else s

/-! ### Notices (R108 to R113, R126) -/

/-- A well-formed notice, its values as stored. -/
structure Notice where
  id : Nat
  cls : AlertClass
  window : Option Nat
  originator : Nat
  audio : Bool
  maxDuration : Nat
  regions : List Nat
  deriving DecidableEq, Repr

/-- Two-byte codes read from a list of bytes. -/
def words16 : Nat → List Byte → List Nat
  | 0, _ => []
  | n + 1, b1 :: b0 :: rest => word16 b1 b0 :: words16 n rest
  | _ + 1, _ => []

/-- A time in seconds clamped to a range, in samples. -/
def secondsIn (low high sec : Nat) : Nat := max low (min high sec) * Config.perSecond

/-- A notice read from a body: its value, or the reply that turns it away (R108, R175). DESIGN CHOICE: the region count is judged
before the class and urgency codes (log 41). -/
def readNotice : List Byte → Except ReplyCode Notice
  | i3 :: i2 :: i1 :: i0 :: c :: u :: w1 :: w0 :: o :: m :: d1 :: d0 :: n :: regions =>
    if 8 < n.toNat ∨ regions.length < 2 * n.toNat then .error .badLength
    else
      match classOf c, u.toNat with
      | some cls, 0 => .ok { id := word32 i3 i2 i1 i0, cls, window := none, originator := o.toNat, audio := bitAt m 0,
                             maxDuration := secondsIn 1 300 (word16 d1 d0), regions := words16 n.toNat regions }
      | some cls, 1 => .ok { id := word32 i3 i2 i1 i0, cls, window := some (secondsIn 1 3600 (word16 w1 w0)),
                             originator := o.toNat, audio := bitAt m 0,
                             maxDuration := secondsIn 1 300 (word16 d1 d0), regions := words16 n.toNat regions }
      | _, _ => .error .unknown
  | _ => .error .badLength

/-- The pending record of a notice (R112). -/
def Notice.pending (n : Notice) (now : Clock) : PendingAlert where
  id := n.id
  cls := n.cls
  originator := n.originator
  expiry := n.window.map fun w => now + BitVec.ofNat 32 w
  due := n.window.isNone
  audio := n.audio
  maxDuration := n.maxDuration
  arrival := now

/-- The filter of R110 stops a notice. -/
def filterStops (p : Profile) (n : Notice) : Bool :=
  (!p.regions.isEmpty && !n.regions.isEmpty && !(n.regions.any fun r => r ∈ p.regions)) || (n.cls = .test && !p.airTests)

/-- An alert placed after every alert of its own or a higher class (R113). -/
def placePending (p : PendingAlert) : List PendingAlert → List PendingAlert
  | [] => [p]
  | q :: rest => if q.cls.code < p.cls.code then p :: q :: rest else q :: placePending p rest

/-- The id is that of a pending alert or of the on-air alert (R109). -/
def AlertUnit.knows (a : AlertUnit) (id : Nat) : Bool :=
  a.table.any (·.id = id) || a.onAir.any (·.id = id)

/-- A notice enters the pending table (R113), with the look of R117 that an entry causes. -/
def State.enterTable (s : State) (p : PendingAlert) : State × ReplyCode :=
  if s.al.table.length < Config.pendingMax then
    (((s.setAl { s.al with table := placePending p s.al.table }).raise .alertPending).checkAlerts, .done)
  else
    match s.al.table.getLast? with
    | none => (s, .full)
    | some low =>
      if low.cls.code < p.cls.code then
        let a := { s.al with table := s.al.table.dropLast }.writePending low .superseded
        (((s.setAl { a with table := placePending p a.table }).raise .alertPending).checkAlerts, .done)
      else (s.setAl (s.al.writePending p .dropped), .full)

/-- The on-air alert is superseded by an EMERGENCY (R126). -/
def State.supersede (s : State) (o : OnAirAlert) (p : PendingAlert) : State :=
  let outcome := if o.ending = some .cancelled then LogOutcome.cancelled else .superseded
  ((s.setAl (s.al.writeOnAir o outcome s.ev.clock)).beginAttention p).raise .alertStart

/-- The on-air alert is a TEST or an ADVISORY (R109 check 5). -/
def OnAirAlert.yields (o : OnAirAlert) : Bool := o.cls = .test || o.cls = .advisory

/-- A well-formed notice taken through the checks of R109. -/
def State.notice (s : State) (n : Notice) : State × ReplyCode :=
  if s.al.knows n.id then (s, .duplicate)
  else
    let s1 := s.setAl { s.al with noticeCounter := s.al.noticeCounter + 1#32 }
    let p := n.pending s.ev.clock
    if filterStops s.pf.working n then
      ((s1.setAl (s1.al.writePending p .filtered)).raise .alertFiltered, .filtered)
    else if s.air.state = .offAir && offAirStops s.pf.working.wake.alertWake n.cls then
      (s1.setAl (s1.al.writePending p .notAired), .done)
    else
      match s.al.onAir with
      | some o => if n.cls = .emergency && o.yields then (s1.supersede o p, .done) else s1.enterTable p
      | none => s1.enterTable p

/-! ### Window expiry (R114) -/

/-- A pending WINDOW alert has reached its window: the air clock less its arrival is at least the window. -/
def PendingAlert.expired (p : PendingAlert) (now : Clock) : Bool :=
  match p.expiry with
  | some e => !p.due && since p.arrival e ≤ since p.arrival now
  | none => false

/-- WINDOW_EXPIRY of the alert of an id: it becomes due, and the first pending alert is looked at (R114, R117). -/
def State.windowExpiry (s : State) (id : Nat) : State :=
  if s.al.table.any (fun p => p.id = id && p.expired s.ev.clock) then
    (s.setAl { s.al with
      table := s.al.table.map fun p => if p.id = id && p.expired s.ev.clock then { p with due := true } else p }).checkAlerts
  else s

/-! ### Phases (R122 to R124) -/

/-- The on-air alert enters a phase with its count at 0. -/
def OnAirAlert.enter (o : OnAirAlert) (ph : AlertPhase) : OnAirAlert := { o with phase := ph, count := 0 }

/-- The on-air alert replaced. -/
def State.setOnAir (s : State) (o : OnAirAlert) : State := s.setAl { s.al with onAir := some o }

/-- ATTENTION_END: ATTENTION has lasted its length; MESSAGE follows if there is message audio, CLOSING if not (R122). -/
def State.attentionEnd (s : State) : State :=
  match s.al.onAir with
  | some o =>
    if o.phase = .attention ∧ o.attention ≤ o.count then s.setOnAir (o.enter (if o.audio then .message else .closing)) else s
  | none => s

/-- MESSAGE_TRUNCATED: MESSAGE has lasted the maximum duration (R123). -/
def State.messageTruncated (s : State) : State :=
  match s.al.onAir with
  | some o =>
    if o.phase = .message ∧ o.maxDuration ≤ o.count then
      s.setOnAir { o.enter .closing with ending := some .truncated }
    else s
  | none => s

/-- The outcome a closing alert is logged with (R124). -/
def OnAirAlert.outcome (o : OnAirAlert) : LogOutcome :=
  match o.ending with
  | some .cancelled => .cancelled
  | some .truncated => .truncated
  | none => .aired

/-- The end of an alert on air, in the order of R124, with the looks that follow it. -/
def State.endAlert (s : State) (o : OnAirAlert) : State :=
  let a := s.al.writeOnAir o o.outcome s.ev.clock
  let s1 : State := { s with lc := s.lc.refeed false }
  let s2 := s1.setAl { a with onAir := none, armed := false }
  let s3 := s2.pop .alertUnit s2.pf.working.afterAlert
  (s3.raise .alertDone).checkAlerts.takeBreak

/-- ALERT_END: CLOSING has lasted 48,000 mixes (R124). -/
def State.alertEnd (s : State) : State :=
  match s.al.onAir with
  | some o => if o.phase = .closing ∧ Config.closing ≤ o.count then s.endAlert o else s
  | none => s

end Sys2Proof.Machine
end

