-- ==== Sys2Proof/Machine/AirOps.lean ====
section
/-! DEFINITION. The air state block (chapter 7): sign-on, sign-off, the wake enables, the start state, and the dead-air
monitor. -/

namespace Sys2Proof.Machine

/-- The silence run replaced. -/
def State.setMonitor (s : State) (m : Monitor) : State := { s with air := { s.air with monitor := m } }

/-- A sign-on judged with an enable (R135, R136): the reply, and the state. -/
def State.signOn (s : State) (enabled : Bool) : State × ReplyCode :=
  match s.air.state with
  | .starting => (s, .badState)
  | .onAir => if enabled then (s, .done) else (s, .refused)
  | .alertWake => if enabled then ({ s with air := { s.air with signOnPending := true } }, .done) else (s, .refused)
  | .offAir =>
    if enabled then (((s.setAir .onAir).announceAir .offAir).checkAlerts, .done) else (s, .refused)

/-- The whole sign-off, in the order of R138. -/
def State.signOffNow (s : State) : State :=
  let s1 := s.setAir .offAir
  let s2 := s1.updRoster fun _ e => e.setOff
  let s3 := s2.setSq s2.sq.stop
  let s4 := ({ s3 with lc := s3.lc.dropAll s3.ev.clock } : State).raiseIf (!s3.lc.queue.isEmpty) .queueChange
  let s5 := s4.setDu s4.du.flush
  let s6 := s5.announceAir .onAir
  let s7 := s6.sweep.checkAlerts.takeBreak
  s7.setMonitor { s7.air.monitor with run := 0 }

/-- A sign-off judged (R137, R136): the reply, and the state. -/
def State.signOff (s : State) : State × ReplyCode :=
  if s.air.state = .starting then (s, .badState)
  else if s.alertActive || !s.ps.records.isEmpty then (s, .badState)
  else if s.air.state = .onAir then (s.signOffNow, .done)
  else (s, .done)

/-- What a change of the wake enables causes: off air, a sweep and then a look at the first pending alert (R134). -/
def State.wakeChanged (s : State) : State := if s.air.state = .offAir then s.sweep.checkAlerts else s

/-- The air state a profile start state names. -/
def StartState.air : StartState → AirState
  | .onAir => .onAir
  | .offAir => .offAir

/-- The air state becomes a start state, from STARTING (R141): AIR_STATE, the carrier command, the sweep at an entry into OFF_AIR,
and the look at the first pending alert. -/
def State.enterStartState (s : State) (st : StartState) : State :=
  let s1 := (s.setAir st.air).announceAir .starting
  (if s1.air.state = .offAir then s1.sweep else s1).checkAlerts

/-- START_DELAY_EXPIRY: the start-delay timer has run out, and the part enters the start state it was begun with (R141, R188). -/
def State.startDelayExpiry (s : State) : State :=
  if s.air.startTimer = some 0 then
    ({ s with air := { s.air with startTimer := none } } : State).enterStartState s.air.startInto
  else s

/-! ### Dead-air monitor (section 7.8) -/

/-- The monitor is held (R144). -/
def State.monitorHeld (s : State) : Bool := s.air.state ≠ .onAir || s.alertActive || s.fallbackOnTop

/-- The magnitude of a sample (R143). -/
def magnitude (x : Int) : Nat := x.natAbs

/-- The monitor at a mix that gives the pair D (R143); at phase 479 the block has ended. -/
def Monitor.mix (m : Monitor) (held : Bool) (d : Pair) : Monitor :=
  let m1 : Monitor :=
    if held then { m with run := 0, clean := false }
    else { m with peak := max m.peak (max (magnitude d.l) (magnitude d.r)) }
  if m.phase = 479 then { m1 with phase := 0, due := true } else { m1 with phase := m.phase + 1 }

/-- The silence limit in blocks (R145). -/
def limitBlocks (seconds : Nat) : Nat := seconds * 100

/-- A block is judged: not silent, silent, a warning, or the failover (R145, R146), with the break opportunity of a segue point
that the push takes (log 43). -/
def State.judgeBlock (s : State) : State :=
  let m := s.air.monitor
  let limit := limitBlocks s.pf.working.silenceLimit
  if m.peak < s.pf.working.silenceThreshold then
    let run := m.run + 1
    if limit ≤ run then
      let s1 := s.push .failover
      ((s1.setMonitor { s1.air.monitor with run := 0 }).raise .failover).takeBreak
    else
      (s.setMonitor { m with run := run }).raiseIf (decide (m.run < limit / 2) && decide (limit / 2 ≤ run)) .deadAirWarn
  else s.setMonitor { m with run := 0 }

/-- BLOCK_JUDGED: at the end of a block, a block at no mix of which the monitor was held is judged, unless a command taken
since the mix now holds it (log 8); then the next block begins (R143). -/
def State.blockJudged (s : State) : State :=
  if s.air.monitor.due then
    let s1 := if s.air.monitor.clean && !s.monitorHeld then s.judgeBlock else s
    s1.setMonitor { s1.air.monitor with peak := 0, clean := true, due := false }
  else s

end Sys2Proof.Machine
end

