-- ==== Sys2Proof/Machine/LaneBits.lean ====
section
/-! DEFINITION. The bits of a control lane (chapter 9): LDI bits assembled into bytes, the bits of LDO, and what the edges of LCLK and
the passing of core clocks do to a lane. -/

namespace Sys2Proof.Machine

/-- The byte of eight bits, most significant first (R163). -/
def byteOfBits (b7 b6 b5 b4 b3 b2 b1 b0 : Bool) : Byte :=
  BitVec.ofNat 8 (flagBit b7 7 + flagBit b6 6 + flagBit b5 5 + flagBit b4 4 + flagBit b3 3 + flagBit b2 2 + flagBit b1 1 +
    flagBit b0 0)

/-- The complete bytes of bits clocked in, in the order they arrive; the bits of an incomplete byte are discarded (R163). -/
def bytesIn : List Bool → List Byte
  | b7 :: b6 :: b5 :: b4 :: b3 :: b2 :: b1 :: b0 :: rest => byteOfBits b7 b6 b5 b4 b3 b2 b1 b0 :: bytesIn rest
  | _ => []

/-- The bits of a reply on LDO; none when the buffer was empty at the fall (R167). -/
def replyBits : Option Reply → List Bool
  | some r => bitsOf r.bytes
  | none => []

/-- The first `n` bits LDO gives in a transaction: the reply it began with, then 0 for as long as the master clocks (R167). -/
def ldoBits (r : Option Reply) (n : Nat) : List Bool := (replyBits r ++ List.replicate n false).take n

/-- The bit LDO gives for the next period of LCLK: the next bit of the reply during a transaction, 0 past its end. None while LDO
gives none: LSEL is high and LDO released, or the lane waits for the rise and ignores LCLK (R163, R167, R169). -/
def Lane.ldo (x : Lane) : Option Bool :=
  match x.phase with
  | .inTransaction => some ((replyBits x.shift).getD x.bits.length false)
  | .idle => none
  | .waitRise => none

/-- The lane timer runs: a transaction is in progress and its 20 ms have not run out (R169). -/
def Lane.timing (x : Lane) : Bool := x.phase = .inTransaction && x.timer < Config.laneTimeout

/-- Core clocks pass: the lane timer advances while it runs (R169). -/
def Lane.elapse (x : Lane) (clocks : Nat) : Lane :=
  if x.timing then { x with timer := min (x.timer + clocks) Config.laneTimeout } else x

/-- A bit is taken from LDI while one is given on LDO; a byte it completes enters the receive buffer (R163, R167). -/
def Lane.takeBit (x : Lane) (ldi : Bool) : Lane :=
  { x with bits := x.bits ++ [ldi]
           sent := ldoBits x.shift (x.bits.length + 1)
           rx := (bytesIn (x.bits ++ [ldi])).take Config.receiveMax }

/-- An edge of LCLK: any edge restarts the timer, a rising one takes a bit. With LSEL high, or the timer run out, it is not looked
at (R163, R169). -/
def Lane.edge (x : Lane) (e : LclkEdge) : Lane :=
  let x1 := x.elapse e.wait
  if x1.timing then
    let x2 := { x1 with timer := 0 }
    if e.rising then x2.takeBit e.ldi else x2
  else x1

/-- One sample period of a lane: its edges in order, then the core clocks that are left (R163, R169). -/
def Lane.clocked (x : Lane) (es : List LclkEdge) : Lane :=
  (es.foldl Lane.edge x).elapse (Config.clocksPerSample - es.foldl (fun acc e => acc + e.wait) 0)

/-- Complete bytes are those of the transaction in progress: the bits clocked so far begin them, or are them with an incomplete
byte behind (R163). With no transaction in progress every bytes are. -/
def Lane.agrees (x : Lane) (bytes : List Byte) : Bool :=
  x.phase ≠ .inTransaction || x.bits.isPrefixOf (bitsOf bytes) || bytesIn x.bits = bytes

end Sys2Proof.Machine
end

