-- ==== Sys2Proof/Machine/Tone.lean ====
section
/-! DEFINITION. The tone generator of the alert unit: the sine table and the tone sample (R125). -/

namespace Sys2Proof.Machine

/-- Sine table, entries 0 to 31 (R125). -/
def sineQuarter0 : List Nat :=
  [0, 51472, 102941, 154407, 205867, 257319, 308761, 360192,
   411609, 463011, 514396, 565761, 617104, 668425, 719720, 770988,
   822227, 873435, 924611, 975751, 1026855, 1077920, 1128945, 1179927,
   1230864, 1281756, 1332599, 1383391, 1434132, 1484819, 1535450, 1586023]

/-- Sine table, entries 32 to 63 (R125). -/
def sineQuarter1 : List Nat :=
  [1636536, 1686988, 1737376, 1787699, 1837954, 1888140, 1938256, 1988298,
   2038265, 2088156, 2137968, 2187699, 2237349, 2286913, 2336392, 2385783,
   2435084, 2484293, 2533409, 2582430, 2631353, 2680177, 2728900, 2777521,
   2826037, 2874446, 2922747, 2970939, 3019018, 3066984, 3114834, 3162567]

/-- Sine table, entries 64 to 95 (R125). -/
def sineQuarter2 : List Nat :=
  [3210181, 3257674, 3305044, 3352290, 3399410, 3446402, 3493264, 3539994,
   3586592, 3633054, 3679379, 3725566, 3771613, 3817517, 3863278, 3908894,
   3954362, 3999681, 4044850, 4089867, 4134729, 4179436, 4223986, 4268376,
   4312606, 4356673, 4400577, 4444314, 4487885, 4531286, 4574517, 4617576]

/-- Sine table, entries 96 to 127 (R125). -/
def sineQuarter3 : List Nat :=
  [4660460, 4703170, 4745702, 4788055, 4830229, 4872220, 4914028, 4955651,
   4997087, 5038336, 5079394, 5120261, 5160936, 5201416, 5241701, 5281788,
   5321676, 5361364, 5400850, 5440132, 5479210, 5518082, 5556746, 5595200,
   5633444, 5671476, 5709294, 5746898, 5784285, 5821454, 5858404, 5895133]

/-- Sine table, entries 128 to 159 (R125). -/
def sineQuarter4 : List Nat :=
  [5931641, 5967925, 6003985, 6039818, 6075424, 6110801, 6145949, 6180865,
   6215548, 6249997, 6284211, 6318188, 6351927, 6385428, 6418687, 6451706,
   6484481, 6517012, 6549298, 6581337, 6613128, 6644671, 6675963, 6707004,
   6737792, 6768327, 6798607, 6828631, 6858398, 6887906, 6917156, 6946144]

/-- Sine table, entries 160 to 191 (R125). -/
def sineQuarter5 : List Nat :=
  [6974872, 7003337, 7031538, 7059474, 7087145, 7114548, 7141684, 7168551,
   7195148, 7221474, 7247529, 7273310, 7298818, 7324051, 7349008, 7373688,
   7398091, 7422215, 7446060, 7469624, 7492908, 7515909, 7538627, 7561061,
   7583211, 7605075, 7626653, 7647944, 7668946, 7689660, 7710085, 7730219]

/-- Sine table, entries 192 to 223 (R125). -/
def sineQuarter6 : List Nat :=
  [7750062, 7769614, 7788873, 7807838, 7826510, 7844887, 7862969, 7880754,
   7898243, 7915435, 7932328, 7948923, 7965219, 7981214, 7996910, 8012304,
   8027396, 8042187, 8056674, 8070858, 8084739, 8098315, 8111586, 8124551,
   8137211, 8149564, 8161611, 8173350, 8184782, 8195905, 8206720, 8217226]

/-- Sine table, entries 224 to 255 (R125). -/
def sineQuarter7 : List Nat :=
  [8227422, 8237309, 8246886, 8256152, 8265107, 8273751, 8282084, 8290104,
   8297813, 8305209, 8312293, 8319063, 8325521, 8331665, 8337495, 8343011,
   8348214, 8353102, 8357675, 8361934, 8365878, 8369507, 8372821, 8375819,
   8378503, 8380870, 8382923, 8384659, 8386081, 8387186, 8387975, 8388449]

/-- Sine table, entries 256 to 256 (R125). -/
def sineQuarter8 : List Nat :=
  [8388607]

/-- Entries 0 to 256 of the sine table, a quarter wave. -/
def sineQuarter : List Nat :=
  sineQuarter0 ++ sineQuarter1 ++ sineQuarter2 ++ sineQuarter3 ++ sineQuarter4 ++ sineQuarter5 ++ sineQuarter6 ++ sineQuarter7 ++ sineQuarter8

/-- Entry k of the quarter wave. -/
def quarterAt (k : Nat) : Int := Int.ofNat (sineQuarter.getD k 0)

/-- Entry k of the table of 1,024 values, round(8,388,607 x sin(2 pi k / 1024)), from its quarter wave (R125). -/
def sine (k : Nat) : Int :=
  match k / 256 with
  | 0 => quarterAt k
  | 1 => quarterAt (512 - k)
  | 2 => -quarterAt (k - 512)
  | _ => -quarterAt (1024 - k)

/-- The index of an accumulator: its top ten bits (R125). -/
def toneIndex (p : BitVec 32) : Nat := (p >>> 22).toNat

/-- The tone sample of the two accumulators at a tone level (R125). -/
def toneSample (p1 p2 : BitVec 32) (level : Nat) : Int :=
  sat24 (monoRound (sine (toneIndex p1) * level + sine (toneIndex p2) * level))

end Sys2Proof.Machine
end

