-- ==== Sys2Proof/Machine/Bus.lean ====
section
/-! DEFINITION. The mix (chapter 1): the duck evaluation, the ramp law, gains, accumulators, P, the caller feeds, the exchange
with the delay unit and the ceiling stage, in the order of R17; and what else one sample period advances. -/

namespace Sys2Proof.Machine

/-! ### The ramp law and the duck envelope -/

/-- One step of the ramp law: a fraction one over `n` of the way, truncated toward zero; the last step lands on the aim
(R8). -/
def rampStep (present aim n : Nat) : Nat := ((present : Int) + ((aim : Int) - present).tdiv n).toNat

/-- One ramp step of an entry (R8). -/
def Entry.step (e : Entry) : Entry :=
  if e.remaining = 0 then e
  else
    match e.state with
    | .off => e
    | .live => { e with current := rampStep e.current e.target e.remaining, remaining := e.remaining - 1 }
    | .releasing => { e with current := rampStep e.current 0 e.remaining, remaining := e.remaining - 1 }

/-- An entry holds the duck: a DUCKER, LIVE, with a fader target above 0 (R14). -/
def Entry.ducks (e : Entry) : Bool := e.duckClass = .ducker && e.state = .live && 0 < e.target

/-- The DUCKER condition (R14). -/
def anyDucker (r : PerSource Entry) : Bool := Source.all.any fun src => (r.get src).ducks

/-- A retarget of the envelope: over the attack length downward, over the release length upward (R14). A length of 0 puts E at
the aim at once (R9). -/
def Duck.retarget (d : Duck) (aim attack release : Nat) : Duck :=
  let len := if aim < d.present then attack else if d.present < aim then release else 0
  { d with present := if len = 0 then aim else d.present, aim := aim, remaining := len }

/-- A changed duck depth reaches the envelope (R15). -/
def Duck.follow (d : Duck) (depth attack release : Nat) : Duck :=
  if d.engaged then
    if depth = d.aim then d
    else if depth < d.present then d.retarget depth attack release
    else { d with present := depth, aim := depth, remaining := 0 }
  else if d.present < depth then { d with present := depth }
  else d

/-- The duck evaluation of a mix (R14, R15; log 23). A ramp length in milliseconds is given in samples. -/
def Duck.evaluate (d : Duck) (condition : Bool) (depth attack release : Nat) : Duck :=
  let d1 := d.follow depth attack release
  if condition = d1.engaged then d1
  else { d1.retarget (if condition then depth else Config.unity) attack release with engaged := condition }

/-- One ramp step of the envelope (R8, R14). -/
def Duck.step (d : Duck) : Duck :=
  if d.remaining = 0 then d else { d with present := rampStep d.present d.aim d.remaining, remaining := d.remaining - 1 }

/-- The end of a release at the end of a mix: a RELEASING entry whose ramp has run becomes OFF (R6). -/
def Entry.releaseEnd (e : Entry) : Entry := if e.state = .releasing ∧ e.remaining = 0 then e.setOff else e

/-- The roster and the envelope as a mix first makes them: duck classes read from the profile (R4), the duck evaluation, the
ramp steps. -/
def ProgramBus.rampStage (b : ProgramBus) (p : Profile) : ProgramBus :=
  let r1 := b.roster.mapWith fun src e => { e with duckClass := p.duckClasses.get src }
  let d1 := b.duck.evaluate (anyDucker r1) p.duckDepth (rampSamples p.duckAttack) (rampSamples p.duckRelease)
  { b with roster := r1.mapWith fun _ e => e.step, duck := d1.step }

/-! ### Gains, accumulators, P -/

/-- A source is mono (R1). -/
def monoSource : Source → Bool
  | .ln1 => true
  | .ln2 => true
  | .ln3 => true
  | .ln4 => true
  | _ => false

/-- The effective gain of an entry, before the pan law (R18). -/
def Entry.gainUnder (e : Entry) (envelope : Nat) : Nat :=
  if e.duckClass = .ducked then gainRoundNat (e.current * envelope) else e.current

/-- The gain an entry's samples are multiplied by: the pan law for a mono source (R18). -/
def Entry.effective (e : Entry) (src : Source) (envelope : Nat) : Int :=
  if monoSource src then gainRound (e.gainUnder envelope * Config.panGain) else e.gainUnder envelope

/-- The input samples of a source in an input frame (R16). -/
def slotPair (f : InputFrame) : Source → Pair
  | .pla => { l := f.plaL.toInt, r := f.plaR.toInt }
  | .plb => { l := f.plbL.toInt, r := f.plbR.toInt }
  | .mic => { l := f.micL.toInt, r := f.micR.toInt }
  | .fbk => { l := f.fbkL.toInt, r := f.fbkR.toInt }
  | .ln1 => { l := f.line.l1.toInt, r := f.line.l1.toInt }
  | .ln2 => { l := f.line.l2.toInt, r := f.line.l2.toInt }
  | .ln3 => { l := f.line.l3.toInt, r := f.line.l3.toInt }
  | .ln4 => { l := f.line.l4.toInt, r := f.line.l4.toInt }

/-- The contribution of a source to the accumulators; an OFF entry gives 0 (R19). -/
def ProgramBus.contribution (b : ProgramBus) (f : InputFrame) (src : Source) : Pair :=
  let e := b.roster.get src
  if e.state = .off then { l := 0, r := 0 }
  else
    let g := e.effective src b.duck.present
    { l := (slotPair f src).l * g, r := (slotPair f src).r * g }

/-- The two accumulators (R19). -/
def ProgramBus.accumulate (b : ProgramBus) (f : InputFrame) : Pair :=
  Source.all.foldl (fun acc src => { l := acc.l + (b.contribution f src).l, r := acc.r + (b.contribution f src).r })
    { l := 0, r := 0 }

/-- The pre-delay program of the accumulators (R20). -/
def programOf (acc : Pair) : Pair := { l := sat24 (gainRound acc.l), r := sat24 (gainRound acc.r) }

/-- Some channel of P is clamped (R20). -/
def programClips (acc : Pair) : Bool := sat24 (gainRound acc.l) ≠ gainRound acc.l || sat24 (gainRound acc.r) ≠ gainRound acc.r

/-! ### Alert mix, feeds, ceiling -/

/-- The alert-mix sample of a phase (R24). -/
def State.alertMix (s : State) (alr : Sample) : Int :=
  match s.al.onAir with
  | some o =>
    match o.phase with
    | .attention => toneSample s.al.p1 s.al.p2 s.pf.working.toneLevel
    | .message => sat24 (gainRound (alr.toInt * s.pf.working.alertGain))
    | .closing => 0
  | none => 0

/-- The feed sample of a line (R21). -/
def feedSample (r : LineRec) (acc x : Pair) (holdGain : Nat) (tb : Sample) (alertMix : Int) : Int :=
  if r.seize then
    match r.feed with
    | .mixMinus => sat24 (monoRound ((acc.l - x.l) + (acc.r - x.r)))
    | .hold => gainRound (sat24 (monoRound (acc.l + acc.r)) * holdGain)
    | .screen => tb.toInt
    | .alert => alertMix
  else 0

/-- The ceiling in force (R22). -/
def ceilingInForce (lowered : Bool) (c : Nat) : Int := if lowered then gainRoundNat (c * Config.loweredFactor) else c

/-- A sample clamped to plus or minus a ceiling (R23). -/
def clampTo (c x : Int) : Int := max (-c) (min c x)

/-- The pair the ceiling stage limits (R23). -/
def State.toLimit (s : State) (d : Pair) (alertMix : Int) : Pair :=
  if s.alertActive then { l := alertMix, r := alertMix } else d

/-- The station is silent: OFF_AIR or STARTING (R23). -/
def AirState.silent (a : AirState) : Bool := a = .offAir || a = .starting

/-! ### Counters and timers of a sample period -/

/-- The tone accumulators after the sample of a mix during ATTENTION, and the phase count of any phase (R121, R125). -/
def AlertUnit.tick (a : AlertUnit) : AlertUnit :=
  match a.onAir with
  | some o =>
    let a1 := { a with onAir := some { o with count := o.count + 1 } }
    if o.phase = .attention then { a1 with p1 := a.p1 + Config.tone1, p2 := a.p2 + Config.tone2 } else a1
  | none => a

/-- A PLAYING or TAILING deck advances (R31). DESIGN CHOICE: an open-length item's position goes on past 172,800,000, the top of its
range (log 39). -/
def Deck.tick (k : Deck) : Deck := if k.run then { k with position := k.position + 1 } else k

/-- Both decks advance. -/
def Sequencer.tick (q : Sequencer) : Sequencer := { q with deckA := q.deckA.tick, deckB := q.deckB.tick }

/-- The lines' look at RING_n and LOOP_n, and the ring timers (R71, R74). -/
def LineController.tick (c : LineController) (ring loop : PerLine Bool) : LineController :=
  { c with lines := c.lines.mapWith fun n r => r.tick (ring.get n) (loop.get n) }

/-- The bits TXL_FWD gives in the sample period of the next mix: those of the frame being sent that the periods since its boundary
have not sent, most significant bit of each byte first (R147, R176). None before the first frame (log 38). -/
def Link.forwardNow (l : Link) : List Bool :=
  ((bitsOf l.frame).drop (Config.forwardBits * l.pairs.length)).take Config.forwardBits

/-- The link's sample period: its bits on TXL_FWD, the poll timer, the reply window, and a new take for the assembler (R147, R154,
R157, R158, R176). The output pair joins the pairs of the next frame (R147). -/
def Link.tick (l : Link) (out : Pair) : Link :=
  { l with pairs := l.pairs ++ [out]
           forward := l.forwardNow
           pollTimer := l.pollTimer - 1
           window := l.window.map fun w => { w with left := w.left - 1 }
           took := false }

/-- Every lane's sample period of LCLK edges and of its timer (R163, R167, R169). -/
def clockLanes (c : PerLane Lane) (es : PerLane (List LclkEdge)) : PerLane Lane :=
  { aut := c.aut.clocked es.aut, con := c.con.clocked es.con, alr := c.alr.clocked es.alr }

/-- The load and the non-volatile write (R187, R188). -/
def ProfileStore.tick (p : ProfileStore) : ProfileStore :=
  { p with load := p.load.map (· - 1), write := p.write.map fun w => { w with left := w.left - 1 } }

/-- The air clock advances; at its wrap CLOCK_WRAP is raised (R182). -/
def EventUnit.advance (e : EventUnit) : EventUnit :=
  let e1 := { e with clock := e.clock + 1#32 }
  if e.clock = 0xFFFFFFFF#32 then e1.raise .clockWrap else e1

/-! ### The mix -/

/-- What one mix forms from the state and an input frame. -/
structure MixResult where
  /-- roster and envelope after the ramp steps -/
  bus : ProgramBus
  /-- the accumulators (R19) -/
  acc : Pair
  /-- P (R20) -/
  program : Pair
  /-- the delay unit after the exchange; D is its last output pair (R95) -/
  delay : Delay
  /-- the alert-mix sample (R24) -/
  alertMix : Int
  /-- the pair before the ceiling -/
  toLimit : Pair
  /-- the output pair (R23) -/
  output : Pair
  /-- the feeds (R21) -/
  feeds : PerLine Int

/-- The audio of one mix, in the order of R17. -/
def State.mixAudio (s : State) (f : InputFrame) : MixResult :=
  let bus := s.pb.rampStage s.pf.working
  let acc := bus.accumulate f
  let program := programOf acc
  let delay := s.du.exchange s.air.state s.pf.working.buildDivisor program
  let alertMix := s.alertMix f.alr
  let toLimit := s.toLimit delay.lastOut alertMix
  let c := ceilingInForce s.pb.ceilingLowered s.pf.working.ceiling
  { bus, acc, program, delay, alertMix, toLimit
    output := if s.air.state.silent then { l := 0, r := 0 } else { l := clampTo c toLimit.l, r := clampTo c toLimit.r }
    feeds := s.lc.lines.mapWith fun n r =>
      feedSample r acc (bus.contribution f n.source) s.pf.working.holdGain f.tb alertMix }

/-- The ceiling stage clamped some channel (R23). -/
def MixResult.hit (m : MixResult) (silent : Bool) : Bool := !silent && m.output ≠ m.toLimit

/-- One mix and the sample period it belongs to, with nothing left due from before (R17, R31, R143, R182). -/
def State.mixPeriod (s : State) (f : InputFrame) : State :=
  let m := s.mixAudio f
  let s1 := s.raiseIf (programClips m.acc) .clip
  { s1 with
    pb := { m.bus with
            roster := m.bus.roster.mapWith fun _ e => e.releaseEnd
            clipCount := if programClips m.acc then countUp s.pb.clipCount else s.pb.clipCount
            ceilingHits := if m.hit s.air.state.silent then countUp s.pb.ceilingHits else s.pb.ceilingHits }
    ap := { airMonitor := m.output, cue := m.program, feeds := m.feeds }
    sq := s.sq.tick
    lc := s.lc.tick f.ring f.loop
    du := m.delay
    al := s.al.tick
    air := { s.air with
             startTimer := s.air.startTimer.map (· - 1)
             monitor := s.air.monitor.mix s.monitorHeld m.delay.lastOut }
    tl := s.tl.tick m.output
    cl := clockLanes s.cl f.lclk
    ev := s1.ev.advance
    pf := s.pf.tick }

end Sys2Proof.Machine
end

