-- ==== Sys2Proof/Machine/Framer.lean ====
section
/-! DEFINITION. The forward framer and the poll scheduler (sections 8.1, 8.2, 8.5): the frame of a boundary, its CRC, the site
slot, polls and reply windows. -/

namespace Sys2Proof.Machine

/-! ### The check (R149) -/

/-- One bit into the CRC-16 register, polynomial x^16 + x^12 + x^5 + 1. -/
def crcBit (reg : BitVec 16) (b : Bool) : BitVec 16 :=
  if reg.msb != b then (reg <<< 1) ^^^ 0x1021#16 else reg <<< 1

/-- One byte, most significant bit first. -/
def crcByte (reg : BitVec 16) (b : Byte) : BitVec 16 :=
  [7, 6, 5, 4, 3, 2, 1, 0].foldl (fun acc i => crcBit acc (b.getLsbD i)) reg

/-- The CRC-16 of a list of bytes, from a register of all ones. -/
def crc16 (bs : List Byte) : BitVec 16 := bs.foldl crcByte 0xFFFF#16

/-! ### The frame (R147, R148, R176) -/

/-- Three bytes of a 24-bit sample, two's complement, most significant byte first. -/
def sampleBytes (x : Int) : List Byte := bytesOf 3 (BitVec.ofInt 24 x).toNat

/-- Six bytes of a pair. -/
def pairBytes (p : Pair) : List Byte := sampleBytes p.l ++ sampleBytes p.r

/-- The flags byte of a frame (R176). -/
def State.frameFlags (s : State) : Nat :=
  flagBit s.alertActive 0 + flagBit s.fallbackOnTop 1 + flagBit (s.du.mode = .frozen) 2 +
    flagBit s.pb.ceilingLowered 3 + flagBit (s.tl.active = .standby) 4

/-- The two bytes of the site slot (R176). -/
def slotBytes : Option SiteChar → List Byte
  | some c => byte1 (flagBit true 7 + flagBit c.marker 0) ++ [c.data]
  | none => [0#8, 0#8]

/-- Bytes 2 to 105 of a frame (R176), with the site slot given. -/
def State.frameFields (s : State) (slot : Option SiteChar) : List Byte :=
  byte1 s.tl.frameNumber ++ byte1 s.air.state.code ++ byte1 s.frameFlags ++ slotBytes slot ++
    byte2 (s.du.held / Config.perBlock) ++ byte1 s.pf.working.stationCode ++ s.tl.pairs.flatMap pairBytes

/-- The 108 bytes of a frame (R176). -/
def State.frameOf (s : State) (slot : Option SiteChar) : List Byte :=
  [0xB5#8, 0x4E#8] ++ s.frameFields slot ++ byte2 (crc16 (s.frameFields slot)).toNat

/-- What the character that leaves the queue does: a select selects its unit, a POLL opens the reply window of the unit
selected (section 8.2, R158). -/
def Link.leaves (l : Link) (c : SiteChar) : Link :=
  if c.marker then { l with selected := unitOfSelect c.data }
  else if c.data = SiteOp.poll.code then
    { l with window := l.selected.map fun u => { unit := u, left := Config.window } }
  else l

/-- A frame boundary is due: the air clock stands at a multiple of 16 with 16 pairs gathered for the frame (R147). -/
def State.boundaryDue (s : State) : Bool := s.ev.clock.toNat % Config.perFrame = 0 && Config.perFrame ≤ s.tl.pairs.length

/-- FRAME_BOUNDARY: the frame is formed, the oldest character leaves the queue with it, and a held command then enters if it
fits (R147 to R151). -/
def State.frameBoundary (s : State) : State :=
  if s.boundaryDue then
    let frame := s.frameOf s.tl.sendQueue.head?
    let l : Link := { s.tl with pairs := [], frame := frame, frameNumber := (s.tl.frameNumber + 1) % 256,
                                sendQueue := s.tl.sendQueue.drop 1 }
    s.setTl <|
      match s.tl.sendQueue.head? with
      | some c => (l.leaves c).drainHolder
      | none => l.drainHolder
  else s

/-! ### Polling (R157, R158) -/

/-- The first configured unit at or after an address, in address order (R157). -/
def Link.firstConfigured (l : Link) (from_ : UnitId) : Option UnitId :=
  [from_, from_.next, from_.next.next, from_.next.next.next].find? fun u => (l.units.get u).role ≠ .unused

/-- The scheduler at an expiry of its timer (R157): a POLL queued and the turn moved on, or a poll skipped. -/
def Link.poll (l : Link) (periodMs : Nat) : Link :=
  let l1 := { l with pollTimer := periodMs * Config.perMs }
  match l.firstConfigured l.turn with
  | some u =>
    if l.hasRoom && l.holder.isNone then { l1.append { unit := u, op := .poll } with turn := u.next } else l1
  | none => l1

/-- POLL_TIMER_EXPIRY (R157). -/
def State.pollTimerExpiry (s : State) : State :=
  if s.tl.pollTimer = 0 then s.setTl (s.tl.poll s.pf.working.pollPeriod) else s

/-- A miss of a unit (R158). -/
def SiteUnit.miss (u : SiteUnit) : SiteUnit :=
  let n := countTo Config.missesLost u.misses
  { u with misses := n, presence := if n = Config.missesLost then .lost else u.presence }

/-- REPLY_WINDOW_CLOSE: a window has run its 30 ms with no accepted message; a miss, and UNIT_LOST with the look at the
changeover when it makes the unit LOST (R158, R161). -/
def State.replyWindowClose (s : State) : State :=
  match s.tl.window with
  | some w =>
    if w.left = 0 then
      let u := s.tl.units.get w.unit
      let s1 := s.setTl { s.tl with window := none, units := s.tl.units.set w.unit u.miss }
      if u.presence ≠ .lost ∧ u.miss.presence = .lost then (s1.raise .unitLost).lookChangeover else s1
    else s
  | none => s

end Sys2Proof.Machine
end

