-- ==== Sys2Proof/Machine/ReturnLine.lean ====
section
/-! DEFINITION. The return path of the transmitter link (sections 8.3, 8.4, 8.6, 8.7): the receiver, its FIFO, the status
assembler and what an accepted message does. -/

namespace Sys2Proof.Machine

/-! ### The receiver (R152, R153) -/

/-- The level of a waveform at a core clock; past its end the line idles high. -/
def levelAt : Waveform → Nat → Bool
  | [], _ => true
  | (n, b) :: rest, t => if t < n then b else levelAt rest (t - n)

/-- The core clocks of a waveform. -/
def waveSpan (w : Waveform) : Nat := w.foldl (fun acc r => acc + r.1) 0

/-- The core clock of sample `j` of a bit, from its sample 0: the first F intervals last N + 1 clocks, the others N (R152). -/
def sampleClock (n f j : Nat) : Nat := j * n + min j f

/-- The core clocks of a bit (R152). -/
def bitClocks (n f : Nat) : Nat := 16 * n + f

/-- The majority of three samples (R153). -/
def majority (a b c : Bool) : Bool := (a && b) || (a && c) || (b && c)

/-- The value of bit `k` of a character whose start edge is sampled at clock `t` (R153). -/
def bitValue (w : Waveform) (n f t k : Nat) : Bool :=
  let at_ := fun j => levelAt w (t + k * bitClocks n f + sampleClock n f j)
  majority (at_ 7) (at_ 8) (at_ 9)

/-- What a hunt comes to: the clock of sample 0 of a start bit, or none, with the last sample seen and the next place of the
bit pattern. -/
structure Hunt where
  start : Option Nat
  prev : Bool
  place : Nat

/-- The hunt from a place of the bit pattern: samples are taken at the pattern's intervals until one at 0 follows one at 1
(R152, R153). `fuel` bounds the samples of the waveform. -/
def hunt (w : Waveform) (n f : Nat) : Nat → Nat → Nat → Bool → Hunt
  | 0, _, place, prev => { start := none, prev, place }
  | fuel + 1, t, place, prev =>
    let now := levelAt w t
    if prev && !now then { start := some t, prev := now, place }
    else hunt w n f fuel (t + if place < f then n + 1 else n) ((place + 1) % 16) now

/-- A character judged (R153). -/
inductive Received where
  /-- the start bit's value is 1: not a start -/
  | falseStart
  /-- the stop bit's value is 0: a framing error -/
  | framingError
  /-- a complete character -/
  | char (c : SiteChar)
  deriving DecidableEq, Repr

/-- The eight data bits, least significant first (section 8.3). -/
def dataByte (w : Waveform) (n f t : Nat) : Byte :=
  BitVec.ofNat 8 ((List.range 8).foldl (fun acc i => acc + flagBit (bitValue w n f t (1 + i)) i) 0)

/-- The eleven bits of a character whose start edge is sampled at clock `t`, judged (R153, R177). -/
def receiveAt (w : Waveform) (n f t : Nat) : Received :=
  if bitValue w n f t 0 then .falseStart
  else if bitValue w n f t 10 then .char { marker := bitValue w n f t 9, data := dataByte w n f t }
  else .framingError

/-- The last bit timed: the start bit of a false start, the stop bit otherwise (R153). -/
def Received.lastBit : Received → Nat
  | .falseStart => 0
  | .framingError => 10
  | .char _ => 10

/-- A count of core clocks that no hunting sample of the waveform passes. -/
def huntFuel (w : Waveform) : Nat := waveSpan w + 1

/-- The receiver takes a waveform: a hunt, and the character it finds. After sample 9 of the last bit timed it hunts again, at
the rate the profile then gives (R152, R153). -/
def Receiver.take (r : Receiver) (w : Waveform) (newN newF : Nat) : Receiver × Option Received :=
  let h := hunt w r.n r.f (huntFuel w) 0 r.place r.prev
  match h.start with
  | none => ({ r with prev := h.prev, place := h.place }, none)
  | some t =>
    let c := receiveAt w r.n r.f t
    let last := levelAt w (t + c.lastBit * bitClocks r.n r.f + sampleClock r.n r.f 9)
    ({ n := newN, f := newF, prev := last, place := 10 }, some c)

/-! ### The FIFO and the assembler (R153 to R155) -/

/-- A framing error: counted, and the message being assembled is discarded (R153, R155). -/
def Link.framingError (l : Link) : Link := { l with framing := countUp l.framing, assembler := none }

/-- A completed character is offered to the FIFO; a full FIFO loses it, counts an overrun and marks the message bad (R154). -/
def Link.offer (l : Link) (c : SiteChar) : Link :=
  if l.fifo.length < Config.fifoMax then { l with fifo := l.fifo ++ [c] }
  else { l with overrun := countUp l.overrun, assembler := l.assembler.map fun m => { m with bad := true } }

/-- The receiver takes a waveform of the return line (R153, R154). -/
def State.receive (s : State) (w : Waveform) : State :=
  let r := s.tl.receiver.take w s.pf.working.returnN s.pf.working.returnF
  let l := { s.tl with receiver := r.1 }
  match r.2 with
  | some (.char c) => s.setTl (l.offer c)
  | some .framingError => s.setTl l.framingError
  | some .falseStart => s.setTl l
  | none => s.setTl l

/-- RETURN_CHARACTER (R153, R154). While power-on is held the receiver stands at its power-on value (R188; log 33). -/
def State.returnCharacter (s : State) (w : Waveform) : State := if s.pf.held then s else s.receive w

/-- What the assembler makes of a character (R155): the link, and the message if this character completes one. -/
def Link.assemble (l : Link) (c : SiteChar) : Link × Option Assembly :=
  if c.marker then
    match unitOfSelect c.data, l.assembler with
    | some u, none => ({ l with assembler := some { unit := u, chars := [], bad := false } }, none)
    | some u, some _ =>
      ({ l with assembler := some { unit := u, chars := [], bad := false }, stray := countUp l.stray }, none)
    | none, _ => ({ l with assembler := none, stray := countUp l.stray }, none)
  else
    match l.assembler with
    | none => ({ l with stray := countUp l.stray }, none)
    | some m =>
      let chars := m.chars ++ [c.data]
      let complete := chars.length = 4
      let m1 : Assembly := { m with chars := chars, bad := m.bad || (complete && decide (5 < c.data.toNat)) }
      if complete then ({ l with assembler := none }, some m1) else ({ l with assembler := some m1 }, none)

/-! ### An accepted message (R156, R159, R160) -/

/-- The unit's record after an accepted message; the last request code is replaced later (R156). -/
def SiteUnit.accept (u : SiteUnit) (st : UnitStatus) : SiteUnit :=
  { u with presence := .present, misses := 0, last := some st }

/-- The reflected-power check of an accepted message from a unit (R160). -/
def State.checkReflect (s : State) (u : UnitId) (st : UnitStatus) : State :=
  if s.tl.bearer s.tl.active.role = some u then
    if bitAt st.flags 4 then
      if s.pf.working.ceilingOnReflect && !s.tl.reflectSeen then
        (s.setCeiling true).setTl { s.tl with reflectSeen := true }
      else s
    else s.setTl { s.tl with reflectSeen := false }
  else s

/-- A remote FALLBACK (R57): the push, with the break opportunity of a segue point that it takes (log 43), or REMOTE_REFUSED. -/
def State.remoteFallback (s : State) : State :=
  if s.fallbackOnTop || s.alertActive || s.air.state = .starting || s.air.state = .offAir then s.raise .remoteRefused
  else (s.push .remoteFallback).takeBreak

/-- What a judged remote request leaves: a case that a lane would be refused raises REMOTE_REFUSED (R136). -/
def remoteJudged (r : State × ReplyCode) : State :=
  match r.2 with
  | .badState => r.1.raise .remoteRefused
  | .refused => r.1.raise .remoteRefused
  | _ => r.1

/-- A remote request taken (R159). -/
def State.remoteRequest (s : State) (code : Byte) : State :=
  match code.toNat with
  | 1 => s.remoteFallback
  | 2 => remoteJudged s.signOff
  | 3 => remoteJudged (s.signOn s.pf.working.wake.remoteSignOn)
  | 4 => s.setCeiling true
  | 5 => s.setCeiling false
  | _ => s

/-- The last request code of a unit becomes a message's (R156 step 3). -/
def State.setLastCode (s : State) (u : UnitId) (code : Byte) : State :=
  s.setTl { s.tl with units := s.tl.units.set u { s.tl.units.get u with lastCode := code } }

/-- The request code of an accepted message, judged against the unit's last (R159). -/
def State.judgeRequest (s : State) (u : UnitId) (code : Byte) : State :=
  let s1 := if code ≠ 0#8 ∧ code ≠ (s.tl.units.get u).lastCode then s.remoteRequest code else s
  s1.setLastCode u code

/-- An accepted message, in the order of R156. -/
def State.acceptMessage (s : State) (u : UnitId) (st : UnitStatus) : State :=
  let s1 := s.setTl { s.tl with window := none, units := s.tl.units.set u ((s.tl.units.get u).accept st) }
  ((s1.checkReflect u st).judgeRequest u st.request).lookChangeover

/-- The status a complete message carries. -/
def Assembly.status (m : Assembly) : UnitStatus :=
  { flags := m.chars.getD 0 0#8, forward := m.chars.getD 1 0#8, reflected := m.chars.getD 2 0#8, request := m.chars.getD 3 0#8 }

/-- The reply window of a unit is open (R156, R158). -/
def Link.windowOpen (l : Link) (u : UnitId) : Bool := l.window.any fun w => w.unit = u && 0 < w.left

/-- A complete message is accepted, or discarded as stray (R156). -/
def State.judgeMessage (s : State) (m : Assembly) : State :=
  if !m.bad && s.tl.windowOpen m.unit then s.acceptMessage m.unit m.status
  else s.setTl { s.tl with stray := countUp s.tl.stray }

/-- ASSEMBLER_TAKE: once a sample period, the oldest character of the FIFO (R154 to R156), with the break opportunity a remote
sign-off gives. -/
def State.assemblerTake (s : State) : State :=
  if s.tl.took then s
  else
    match s.tl.fifo with
    | [] => s
    | c :: rest =>
      let r := { s.tl with fifo := rest, took := true : Link }.assemble c
      match r.2 with
      | some m => (s.setTl r.1).judgeMessage m
      | none => s.setTl r.1

end Sys2Proof.Machine
end

