-- ==== Sys2Proof/Machine/Lanes.lean ====
section
/-! DEFINITION. The control lanes (chapter 9): transactions, the checks a request passes, replies, lane resets, and the request
codes. -/

namespace Sys2Proof.Machine

/-- A lane. -/
def State.lane (s : State) (l : LaneId) : Lane := s.cl.get l

/-- A lane replaced. -/
def State.setLane (s : State) (l : LaneId) (x : Lane) : State := { s with cl := s.cl.set l x }

/-! ### Transactions (R163, R167) -/

/-- The fall of LSEL: the reply buffer as it stands begins to be shifted out (R167). -/
def Lane.fall (x : Lane) : Lane :=
  { x with phase := .inTransaction, rx := [], bits := [], sent := [], timer := 0, shift := x.reply, shiftStands := x.reply.isSome }

/-- The reply the transaction began with is taken: it was clocked out whole and the buffer still holds it (R167). -/
def Lane.taken (x : Lane) (clocked : Nat) : Bool :=
  match x.shift with
  | some r => x.shiftStands && r.body.length + 2 ≤ clocked
  | none => false

/-- The rise of LSEL after some complete bytes: they stand in the receive buffer, LDO has given a bit for each bit clocked, the lane
timer stops, and the reply may be taken (R163, R167, R169). -/
def Lane.rise (x : Lane) (bytes : List Byte) : Lane :=
  { x with phase := .idle
           rx := bytes.take Config.receiveMax
           bits := []
           sent := ldoBits x.shift (max (8 * bytes.length) x.bits.length)
           timer := 0
           reply := if x.taken bytes.length then none else x.reply
           shift := none
           shiftStands := false }

/-- A whole transaction's end: on a lane with none in progress its fall comes first (log 2); a lane that waits for the rise
takes nothing from it (R169, R170). -/
def Lane.finish (x : Lane) (bytes : List Byte) : Lane :=
  match x.phase with
  | .idle => x.fall.rise bytes
  | .inTransaction => x.rise bytes
  | .waitRise => { x with phase := .idle }

/-- A lane whose LSEL has come to a level while power-on is held: it takes nothing, and a LSEL that is low at the completion is waited
out (R170, R188; log 13). -/
def Lane.heldAt (x : Lane) (high : Bool) : Lane := { x with phase := if high then .idle else .waitRise }

/-- The end of a transaction of some complete bytes, where they are those of the transaction in progress (log 2). While power-on is
held only the rise of LSEL is seen (R188). -/
def State.heard (s : State) (l : LaneId) (bytes : List Byte) : State :=
  if s.pf.held then s.setLane l ((s.lane l).heldAt true)
  else if (s.lane l).agrees bytes then s.setLane l ((s.lane l).finish bytes) else s

/-- TRANSACTION_START: a fall of LSEL, which only a lane whose LSEL is high can have (R163, R167). While power-on is held it begins
no transaction (R188). -/
def State.transactionStart (s : State) (l : LaneId) : State :=
  if s.pf.held then s.setLane l ((s.lane l).heldAt false)
  else if (s.lane l).phase = .idle then s.setLane l (s.lane l).fall else s

/-- READ_ONLY_TRANSACTION: a transaction that carries no request (R163, R167). -/
def State.readOnly (s : State) (l : LaneId) (bytes : List Byte) : State := s.heard l bytes

/-- The lane reset of a timeout (R169). -/
def Lane.reset (x : Lane) : Lane :=
  { x with phase := .waitRise, rx := [], bits := [], timer := 0, shift := none, shiftStands := false, errors := countUp x.errors }

/-- LANE_TIMEOUT: the lane timer has run its 20 ms in a transaction without an edge of LCLK (R169). -/
def State.laneTimeout (s : State) (l : LaneId) : State :=
  if (s.lane l).phase = .inTransaction ∧ Config.laneTimeout ≤ (s.lane l).timer then (s.setLane l (s.lane l).reset).raise .laneError else s

/-! ### Replies (R166, R168) -/

/-- A reply placed in the buffer: it carries the collision flag, and the reply-lost flag if it overwrites a reply; the lane is
no longer in flight (R165, R166, R168). -/
def Lane.place (x : Lane) (code : ReplyCode) (body : List Byte) : Lane :=
  { x with reply := some { collision := x.collision, lost := x.reply.isSome, code := code, body := body }
           collision := false
           inFlight := false
           shiftStands := false }

/-- A reply placed on a lane. -/
def State.place (s : State) (l : LaneId) (code : ReplyCode) (body : List Byte) : State :=
  s.setLane l ((s.lane l).place code body)

/-! ### Requests (R164) -/

/-- The body of a request in the receive buffer: none when fewer than 2 bytes arrived, the length is above 60, or the body is
not complete (R164 check 2). Bytes after it are ignored (R163). -/
def requestBody : List Byte → Option (List Byte)
  | _ :: len :: rest =>
    if len.toNat ≤ Config.bodyMax ∧ len.toNat ≤ rest.length then some (rest.take len.toNat) else none
  | _ => none

/-- What an owner answers: its reply, at once. -/
structure Answer where
  state : State
  code : ReplyCode
  body : List Byte

/-- An answer without a body. -/
def answer (r : State × ReplyCode) : Answer := { state := r.1, code := r.2, body := [] }

/-- A transaction that carries a request ends (R163, R164, R167). `known` is check 3, `allowed` check 4, `need` the bytes that
check 5 asks for; then `own` judges the body. A lane that waits for the rise of LSEL carries no request, no lane does while
power-on is held (R188), and bytes that are not those of the transaction in progress are none (log 2). A request whose owner answers
later is left in flight by `own` itself, which then gives no answer. -/
def State.transact (s : State) (l : LaneId) (code : Byte) (rest : List Byte) (known allowed : Bool) (need : Nat)
    (own : List Byte → State → State × Option (ReplyCode × List Byte)) : State :=
  let s1 := s.heard l (code :: rest)
  if s.pf.held || (s.lane l).phase = .waitRise || !(s.lane l).agrees (code :: rest) then s1
  else if (s1.lane l).inFlight then s1.setLane l { s1.lane l with collision := true }
  else
    match requestBody (s1.lane l).rx with
    | none => s1.place l .badLength []
    | some body =>
      if !known then s1.place l .unknown []
      else if !allowed then s1.place l .refused []
      else if body.length < need then s1.place l .badLength []
      else
        match own body s1 with
        | (t, some (c, b)) => t.place l c b
        | (t, none) => t

/-- A request of the code table whose owner answers at once. -/
def State.request (s : State) (l : LaneId) (code : Byte) (rest : List Byte) (allowed : Bool) (need : Nat)
    (own : List Byte → State → Answer) : State :=
  s.transact l code rest true allowed need fun body t =>
    let a := own body t
    (a.state, some (a.code, a.body))

/-- The lanes the authority table admits (R171). -/
def onlyAut (l : LaneId) : Bool := l = .aut
def onlyCon (l : LaneId) : Bool := l = .con
def onlyAlr (l : LaneId) : Bool := l = .alr
def autOrCon (l : LaneId) : Bool := l = .aut || l = .con

end Sys2Proof.Machine
end

