-- ==== Sys2Proof/Machine/ProfileOps.lean ====
section
/-! DEFINITION. The profile store (chapter 11): the fields, their values on the wire, reading, writing with clamping, the loads,
and what a changed field causes. -/

namespace Sys2Proof.Machine

/-! ### Fields (R185) -/

/-- The fields of the profile, in code order. -/
inductive Field where
  | stationCode | regionList | duckDepth | duckAttack | duckRelease | holdGain | takeFade | preemptFade
  | reprise | afterAlert | silenceThreshold | silenceLimit | ceiling | ceilingOnReflect | buildDivisor | dumpSize
  | startTarget | attention | toneLevel | alertGain | airTests | wake | startState | startDelay
  | returnN | returnF | pollPeriod | roles | autoChangeover | holdLimit | ringTimeout | duckClasses
  deriving DecidableEq, Repr

/-- The fields of codes 0x01 to 0x20, in that order. -/
def Field.all : List Field :=
  [.stationCode, .regionList, .duckDepth, .duckAttack, .duckRelease, .holdGain, .takeFade, .preemptFade,
   .reprise, .afterAlert, .silenceThreshold, .silenceLimit, .ceiling, .ceilingOnReflect, .buildDivisor, .dumpSize,
   .startTarget, .attention, .toneLevel, .alertGain, .airTests, .wake, .startState, .startDelay,
   .returnN, .returnF, .pollPeriod, .roles, .autoChangeover, .holdLimit, .ringTimeout, .duckClasses]

/-- The field of a code; none outside 0x01 to 0x20. -/
def fieldOf (code : Byte) : Option Field := if code = 0#8 then none else Field.all[code.toNat - 1]?

/-- The size of a field in bytes; none for the region list, whose size is that of its count (R185, R187). -/
def Field.size : Field → Option Nat
  | .regionList => none
  | .duckDepth | .duckAttack | .duckRelease | .holdGain | .takeFade | .preemptFade | .reprise => some 2
  | .dumpSize | .startTarget | .toneLevel | .alertGain | .pollPeriod | .holdLimit => some 2
  | .silenceThreshold | .ceiling | .roles => some 4
  | .duckClasses => some 8
  | .stationCode | .afterAlert | .silenceLimit | .ceilingOnReflect | .buildDivisor | .attention | .airTests => some 1
  | .wake | .startState | .startDelay | .returnN | .returnF | .autoChangeover | .ringTimeout => some 1

/-- A set or clear field as a byte. -/
def setClear (b : Bool) : List Byte := byte1 (flagBit b 0)

/-- The value of a field as PROFILE-READ sends it (R185, R186). -/
def Field.value (p : Profile) : Field → List Byte
  | .stationCode => byte1 p.stationCode
  | .regionList => byte1 p.regions.length ++ p.regions.flatMap byte2
  | .duckDepth => byte2 p.duckDepth
  | .duckAttack => byte2 p.duckAttack
  | .duckRelease => byte2 p.duckRelease
  | .holdGain => byte2 p.holdGain
  | .takeFade => byte2 p.takeFade
  | .preemptFade => byte2 p.preemptFade
  | .reprise => byte2 p.reprise
  | .afterAlert => byte1 p.afterAlert.code
  | .silenceThreshold => byte4 p.silenceThreshold
  | .silenceLimit => byte1 p.silenceLimit
  | .ceiling => byte4 p.ceiling
  | .ceilingOnReflect => setClear p.ceilingOnReflect
  | .buildDivisor => byte1 p.buildDivisor
  | .dumpSize => byte2 p.dumpSize
  | .startTarget => byte2 p.startTarget
  | .attention => byte1 p.attention
  | .toneLevel => byte2 p.toneLevel
  | .alertGain => byte2 p.alertGain
  | .airTests => setClear p.airTests
  | .wake => byte1 p.wake.code
  | .startState => byte1 p.startState.code
  | .startDelay => byte1 p.startDelay
  | .returnN => byte1 p.returnN
  | .returnF => byte1 p.returnF
  | .pollPeriod => byte2 p.pollPeriod
  | .roles => [p.roles.u0, p.roles.u1, p.roles.u2, p.roles.u3].flatMap fun r => byte1 r.code
  | .autoChangeover => setClear p.autoChangeover
  | .holdLimit => byte2 p.holdLimit
  | .ringTimeout => byte1 p.ringTimeout
  | .duckClasses =>
    [p.duckClasses.pla, p.duckClasses.plb, p.duckClasses.mic, p.duckClasses.fbk, p.duckClasses.ln1, p.duckClasses.ln2,
     p.duckClasses.ln3, p.duckClasses.ln4].flatMap fun c => byte1 c.code

/-- The body of a PROFILE-READ reply (R186). -/
def Field.readBody (p : Profile) (code : Byte) (f : Field) : List Byte :=
  code :: byte1 (f.value p).length ++ f.value p

/-! ### Writing a value (R187) -/

/-- Bytes as a number, most significant first. -/
def numberOf (v : List Byte) : Nat := v.foldl (fun acc b => acc * 256 + b.toNat) 0

/-- The nearer end of a range, or the number itself. -/
def within (low high x : Nat) : Nat := max low (min high x)

/-- A value has its field's length (R187 check 3). -/
def Field.fits (f : Field) (v : List Byte) : Bool :=
  match f.size with
  | some n => v.length = n
  | none =>
    match v with
    | c :: codes => c.toNat ≤ 8 && codes.length = 2 * c.toNat
    | [] => false

/-- A build divisor as stored: the largest of the four not above the value, or 16 (R106). -/
def storeDivisor (x : Nat) : Nat := if x < 32 then 16 else if x < 64 then 32 else if x < 128 then 64 else 128

/-- A resume kind as stored: a code above the largest is the largest (R187). -/
def storeResume (x : Nat) : ResumeKind := if x = 0 then .goOn else if x = 1 then .next else .reprise

/-- A start state as stored. -/
def storeStart (x : Nat) : StartState := if x = 0 then .offAir else .onAir

/-- A role as stored. -/
def storeRole (b : Byte) : Role :=
  if b = 0#8 then .mainTx else if b = 1#8 then .standbyTx else if b = 2#8 then .siteControl else .unused

/-- A duck class as stored. -/
def storeClass (b : Byte) : DuckClass := if b = 0#8 then .ducked else if b = 1#8 then .ducker else .neither

/-- A profile copy with one field written from a value of the right length, clamped to the field's range (R187; bit 0 of a set
or clear field and bits 0 to 2 of the wake enables count, log 24). -/
def Field.write (v : List Byte) (p : Profile) : Field → Profile
  | .stationCode => { p with stationCode := within 0 255 (numberOf v) }
  | .regionList => { p with regions := words16 (v.getD 0 0#8).toNat (v.drop 1) }
  | .duckDepth => { p with duckDepth := within 0 16384 (numberOf v) }
  | .duckAttack => { p with duckAttack := within 0 10000 (numberOf v) }
  | .duckRelease => { p with duckRelease := within 0 10000 (numberOf v) }
  | .holdGain => { p with holdGain := within 0 16384 (numberOf v) }
  | .takeFade => { p with takeFade := within 0 10000 (numberOf v) }
  | .preemptFade => { p with preemptFade := within 0 10000 (numberOf v) }
  | .reprise => { p with reprise := within 0 30000 (numberOf v) }
  | .afterAlert => { p with afterAlert := storeResume (numberOf v) }
  | .silenceThreshold => { p with silenceThreshold := within 0 8388607 (numberOf v) }
  | .silenceLimit => { p with silenceLimit := within 2 120 (numberOf v) }
  | .ceiling => { p with ceiling := within 0 8388607 (numberOf v) }
  | .ceilingOnReflect => { p with ceilingOnReflect := bitAt (v.getD 0 0#8) 0 }
  | .buildDivisor => { p with buildDivisor := storeDivisor (numberOf v) }
  | .dumpSize => { p with dumpSize := within 0 4000 (numberOf v) }
  | .startTarget => { p with startTarget := within 0 4000 (numberOf v) }
  | .attention => { p with attention := within 1 25 (numberOf v) }
  | .toneLevel => { p with toneLevel := within 0 16384 (numberOf v) }
  | .alertGain => { p with alertGain := within 0 16384 (numberOf v) }
  | .airTests => { p with airTests := bitAt (v.getD 0 0#8) 0 }
  | .wake => { p with wake := wakeOf (v.getD 0 0#8) }
  | .startState => { p with startState := storeStart (numberOf v) }
  | .startDelay => { p with startDelay := within 0 2 (numberOf v) }
  | .returnN => { p with returnN := within 1 255 (numberOf v) }
  | .returnF => { p with returnF := within 0 15 (numberOf v) }
  | .pollPeriod => { p with pollPeriod := within 50 1000 (numberOf v) }
  | .roles => { p with roles := { u0 := storeRole (v.getD 0 0#8), u1 := storeRole (v.getD 1 0#8),
                                  u2 := storeRole (v.getD 2 0#8), u3 := storeRole (v.getD 3 0#8) } }
  | .autoChangeover => { p with autoChangeover := bitAt (v.getD 0 0#8) 0 }
  | .holdLimit => { p with holdLimit := within 1 3600 (numberOf v) }
  | .ringTimeout => { p with ringTimeout := within 10 120 (numberOf v) }
  | .duckClasses =>
    { p with duckClasses := { pla := storeClass (v.getD 0 0#8), plb := storeClass (v.getD 1 0#8),
                              mic := storeClass (v.getD 2 0#8), fbk := storeClass (v.getD 3 0#8),
                              ln1 := storeClass (v.getD 4 0#8), ln2 := storeClass (v.getD 5 0#8),
                              ln3 := storeClass (v.getD 6 0#8), ln4 := storeClass (v.getD 7 0#8) } }

/-- The profile store replaced. -/
def State.setPf (s : State) (p : ProfileStore) : State := { s with pf := p }

/-- A load of the working copy (R185, R188): the non-volatile copy when the marker stands, the factory values when not. -/
def ProfileStore.loaded (p : ProfileStore) : Profile := if p.valid then p.stored else factory

/-- A unit record with a role written by PROFILE-WRITE: a changed role starts the record anew (R158). -/
def SiteUnit.withRole (u : SiteUnit) (r : Role) : SiteUnit := if u.role = r then u else .initial r

/-- The unit table with written roles (R158). -/
def Link.withRoles (l : Link) (r : PerUnit Role) : Link :=
  { l with units := { u0 := l.units.u0.withRole r.u0, u1 := l.units.u1.withRole r.u1,
                      u2 := l.units.u2.withRole r.u2, u3 := l.units.u3.withRole r.u3 } }

/-- What the owner of a field does as its value in the working copy is written (R134, R158, R161); every other field is read
where it is used. -/
def State.fieldWritten (s : State) : Field → State
  | .roles => (s.setTl (s.tl.withRoles s.pf.working.roles)).lookChangeover
  | .autoChangeover => s.lookChangeover
  | .wake => s.wakeChanged
  | _ => s

/-- A write that passes the checks of R187: the working copy at once, and the non-volatile write begun with its marker cleared;
the copy it leaves is the stored one with this field, or the whole working copy when there was no marker. -/
def ProfileStore.begin (p : ProfileStore) (f : Field) (v : List Byte) : ProfileStore :=
  let w := f.write v p.working
  { p with working := w
           valid := false
           write := some { left := Config.writePeriods, image := if p.valid then f.write v p.stored else w } }

/-- PROFILE-WRITE judged by R187 from its body; no answer yet when it passes, and its lane is in flight (R165). -/
def State.profileWrite (l : LaneId) (body : List Byte) (s : State) : State × Option (ReplyCode × List Byte) :=
  match body with
  | code :: len :: value =>
    if value.length < len.toNat then (s, some (.badLength, []))
    else if s.pf.load.isSome then (s, some (.busy, []))
    else
      match fieldOf code with
      | none => (s, some (.unknown, []))
      | some f =>
        if f.fits (value.take len.toNat) then
          let s1 := (s.setPf (s.pf.begin f (value.take len.toNat))).fieldWritten f
          (s1.setLane l { s1.lane l with inFlight := true }, none)
        else (s, some (.badLength, []))
  | _ => (s, some (.badLength, []))

/-- PROFILE-READ judged by R186 from its field code. -/
def State.profileRead (s : State) (code : Byte) : Answer :=
  if s.pf.load.isSome then { state := s, code := .busy, body := [] }
  else
    match fieldOf code with
    | none => { state := s, code := .unknown, body := [] }
    | some f => { state := s, code := .done, body := f.readBody s.pf.working code }

/-- PROFILE_WRITE_COMPLETE: the non-volatile copy stands written, the marker is set, and DONE is placed on CON (R187). -/
def State.profileWriteComplete (s : State) : State :=
  match s.pf.write with
  | some w =>
    if w.left = 0 then (s.setPf { s.pf with stored := w.image, valid := true, write := none }).place .con .done [] else s
  | none => s

/-- Sample periods of a start delay (R188). -/
def startPeriods (code : Nat) : Nat := if code = 0 then 12000 else if code = 1 then 48000 else 192000

/-- The unit table with the roles of a loaded copy (R188). -/
def Link.loadRoles (l : Link) (r : PerUnit Role) : Link :=
  { l with units := { u0 := { l.units.u0 with role := r.u0 }, u1 := { l.units.u1 with role := r.u1 },
                      u2 := { l.units.u2 with role := r.u2 }, u3 := { l.units.u3 with role := r.u3 } } }

/-- PROFILE_LOAD_COMPLETE: the power-on load has run its 96 sample periods (R188 steps 2 and 3). The start now running keeps the
start state of this load, whatever is written during its delay. -/
def State.profileLoadComplete (s : State) : State :=
  if s.pf.load = some 0 then
    let p := s.pf.loaded
    let s1 := (s.setPf { s.pf with working := p, load := none }).raiseIf (!s.pf.valid) .profileDefaulted
    let s2 := (s1.setDu (s1.du.load p.startTarget)).setTl (s1.tl.loadRoles p.roles)
    { s2 with air := { s2.air with startTimer := some (startPeriods p.startDelay), startInto := p.startState } }
  else s

end Sys2Proof.Machine
end

