-- ==== Sys2Proof/Machine/Status.lean ====
section
/-! DEFINITION. What a master reads: the five status pages (R183), a log record (R184) and a done record (R173). -/

namespace Sys2Proof.Machine

/-- An absent value is sent as 0 (R183). -/
def orZero (x : Option Nat) : Nat := x.getD 0

/-- An absent air-clock value is sent as 0 (R183). -/
def clockOrZero (x : Option Clock) : List Byte := clockBytes (x.getD 0#32)

/-! ### Page 0 -/

/-- The position of the head: its deck's, or for a LIVE head the sample periods it has stood as head (R183). DESIGN CHOICE: 0 for a
LIVE head that has not halted the sequencer yet (log 42). -/
def State.headPosition (s : State) : Nat :=
  match s.sq.list with
  | [] => 0
  | h :: _ =>
    if h.kind = .live then
      match s.sq.liveStart with
      | some t => since t s.ev.clock
      | none => 0
    else
      match s.sq.boundDeck h.id with
      | some d => (s.deck d).position
      | none => 0

/-- The 7 bytes of a deck. -/
def deckBytes (k : Deck) : List Byte := byte1 k.state.code ++ byte2 (orZero k.item) ++ byte4 k.position

/-- The 19 bytes of the last-resume record. -/
def resumeBytes : Option LastResume → List Byte
  | some r =>
    byte1 (flagBit true 0 + flagBit r.item.isSome 1 + flagBit r.position.isSome 2) ++ byte1 r.cause.code ++
      byte1 r.takenBy.code ++ byte1 r.kind.code ++ clockBytes r.poppedAt ++ byte4 r.duration ++ byte1 r.delayMode.code ++
      byte2 (orZero r.item) ++ byte4 (orZero r.position)
  | none => bytesOf 19 0

/-- The top cause, top pushed air clock and top saved delay mode, 0 with no record on the stack. -/
def topBytes : List Context → List Byte
  | r :: _ => byte1 r.cause.code ++ clockBytes r.pushedAt ++ byte1 r.delayMode.code
  | [] => bytesOf 6 0

/-- Status page 0. -/
def State.page0 (s : State) : List Byte :=
  byte1 s.air.state.code ++ byte1 (s.pf.working.wake.code + flagBit s.air.signOnPending 3) ++ byte2 s.air.monitor.run ++
    byte1 s.ps.records.length ++ topBytes s.ps.records ++ byte1 s.sq.state.code ++
    byte2 (orZero (s.sq.list.head?.map (·.id))) ++ byte4 s.headPosition ++ deckBytes s.sq.deckA ++ deckBytes s.sq.deckB ++
    resumeBytes s.ps.lastResume ++ byte1 s.sq.done.length

/-! ### Page 1 -/

/-- The 11 bytes of a line. -/
def lineBytes (r : LineRec) : List Byte :=
  byte1 r.state.code ++ byte1 (flagBit r.seize 0 + flagBit r.holdLong 1 + flagBit r.holdStart.isSome 2) ++
    byte1 r.feed.code ++ clockOrZero r.holdStart ++ byte4 (orZero (r.ringTimer.map (·.total)))

/-- A place of the caller queue; an empty one is 0. -/
def queuePlace (q : List LineId) (i : Nat) : List Byte := byte1 (orZero (q[i]?.map lineNumber))

/-- Status page 1. -/
def State.page1 (s : State) : List Byte :=
  LineId.all.flatMap (fun n => lineBytes (s.line n)) ++ byte1 s.lc.queue.length ++
    [0, 1, 2, 3].flatMap (queuePlace s.lc.queue) ++ byte2 s.lc.missed

/-! ### Page 2 -/

/-- The phase, id and class of the on-air alert, 0 with none. -/
def onAirBytes : Option OnAirAlert → List Byte
  | some o => byte1 o.phase.code ++ byte4 o.id ++ byte1 o.cls.code
  | none => bytesOf 6 0

/-- Status page 2. -/
def State.page2 (s : State) : List Byte :=
  byte4 s.du.held ++ byte4 s.du.target ++ byte4 (orZero s.du.pendingTarget) ++ byte1 s.du.mode.code ++
    byte1 (flagBit s.du.pendingTarget.isSome 0 + flagBit s.al.armed 1 + flagBit s.alertActive 2) ++ onAirBytes s.al.onAir ++
    byte1 s.al.table.length ++ clockBytes s.al.recordCounter ++ clockBytes s.al.noticeCounter

/-! ### Page 3 -/

/-- The last status of a unit: its flags byte (bit 0: present), flags character and powers. -/
def lastBytes : Option UnitStatus → List Byte
  | some st => byte1 1 ++ [st.flags, st.forward, st.reflected]
  | none => bytesOf 4 0

/-- The 8 bytes of a unit. -/
def unitBytes (u : SiteUnit) : List Byte :=
  byte1 u.role.code ++ byte1 u.presence.code ++ byte1 u.misses ++ lastBytes u.last ++ [u.lastCode]

/-- Status page 3. -/
def State.page3 (s : State) : List Byte :=
  unitBytes s.tl.units.u0 ++ unitBytes s.tl.units.u1 ++ unitBytes s.tl.units.u2 ++ unitBytes s.tl.units.u3 ++
    byte1 s.tl.active.code ++
    byte1 (flagBit s.pb.ceilingLowered 0 + flagBit s.tl.reflectSeen 1 + flagBit s.tl.holder.isSome 2) ++
    byte1 s.tl.sendQueue.length

/-! ### Page 4 -/

/-- Status page 4. -/
def State.page4 (s : State) : List Byte :=
  [s.pb.clipCount, s.pb.ceilingHits, s.ps.overflow, s.sq.doneOverflow, s.tl.framing, s.tl.overrun, s.tl.stray, s.du.dumps,
   s.al.logOverwrites, s.cl.aut.errors, s.cl.con.errors, s.cl.alr.errors].flatMap byte2 ++ clockBytes s.ev.clock

/-- The page of a number; none above 4 (R183). -/
def State.page (s : State) (n : Byte) : Option (List Byte) :=
  match n.toNat with
  | 0 => some s.page0
  | 1 => some s.page1
  | 2 => some s.page2
  | 3 => some s.page3
  | 4 => some s.page4
  | _ => none

/-! ### Records -/

/-- The start air clock and the aired duration of a log record, 0 when absent. -/
def airingBytes : Option Airing → List Byte
  | some a => clockBytes a.start ++ byte4 a.ms
  | none => bytesOf 8 0

/-- The 22 bytes of a log record (R184). -/
def LogRecord.bytes (r : LogRecord) : List Byte :=
  byte2 r.number ++ byte4 r.id ++ byte1 r.cls.code ++ byte1 r.originator ++ byte1 r.outcome.code ++
    byte1 (flagBit r.airing.isSome 0) ++ clockBytes r.arrival ++ airingBytes r.airing

/-- The 12 bytes of a done record (R173). -/
def DoneRecord.bytes (r : DoneRecord) : List Byte :=
  byte2 r.item ++ byte1 (flagBit r.start.isSome 0 + r.outcome.code * 2) ++ clockOrZero r.start ++ byte4 r.aired ++ byte1 0

end Sys2Proof.Machine
end

