-- ==== Sys2Proof/Machine/Reset.lean ====
section
/-! DEFINITION. Power-on (R188) and the global reset (R189), block by block. -/

namespace Sys2Proof.Machine

/-! ### Power-on -/

/-- A lane after power-on: everything at its power-on value; a lane whose LSEL is low takes nothing before the next fall (R170;
log 13). -/
def Lane.powerOn (x : Lane) : Lane := { Lane.initial with phase := if x.phase = .idle then .idle else .waitRise }

/-- A function applied to every lane's value. -/
def mapLanes (f : Lane → Lane) (t : PerLane Lane) : PerLane Lane := { aut := f t.aut, con := f t.con, alr := f t.alr }

/-- POWER_ON on the levels it finds: RST, and the supply at or above its threshold. Every block takes its power-on value; the
non-volatile copy and its marker are not changed, and a write in progress is left unfinished (R187). With RST or the supply low power-on is
held, its outputs low or released with the blocks at those values; with both high it completes and the start begins (R188; log 33). -/
def State.powerOn (s : State) (rst supply : Bool) : State :=
  { State.reset with
    pending := s.pending
    cl := mapLanes Lane.powerOn s.cl
    pf := { ProfileStore.initial s.pf.stored s.pf.valid with held := !(rst && supply) } }

/-! ### Global reset -/

/-- Step 1: the on-air alert, then the pending ones in table order, logged ABORTED; the alert unit at its reset values, its log
and counters kept (R131). -/
def AlertUnit.globalReset (a : AlertUnit) (now : Clock) : AlertUnit :=
  let a1 :=
    match a.onAir with
    | some o => a.writeOnAir o .aborted now
    | none => a
  let a2 := a.table.foldl (fun acc p => acc.writePending p .aborted) a1
  { a2 with table := [], onAir := none, armed := true, p1 := 0#32, p2 := 0#32 }

/-- Step 2: empty status sets and default enables; the air clock runs on (R178, R182). -/
def EventUnit.globalReset (e : EventUnit) : EventUnit := { EventUnit.initial with clock := e.clock }

/-- Step 3: the working copy loaded, a power-on load ended (R189). -/
def ProfileStore.globalReset (p : ProfileStore) : ProfileStore := { p with working := p.loaded, load := none }

/-- The link at its reset values, from the loaded copy. The pairs gathered, the frame being sent and its bits on TXL_FWD are kept (R147;
log 37). -/
def Link.globalReset (l : Link) (p : Profile) : Link :=
  { Link.initial p with pairs := l.pairs, frame := l.frame, forward := l.forward }

/-- The air state block before its state is set: no sign-on pending, no start delay, the monitor at its reset values (R141,
R143). -/
def AirBlock.globalReset (a : AirBlock) (p : Profile) : AirBlock :=
  { a with signOnPending := false, startTimer := none, startInto := p.startState, monitor := .initial }

/-- A lane at a global reset (R170). -/
def Lane.globalReset (x : Lane) : Lane := x.powerOn

/-- Step 5, first half: the return from STANDBY to MAIN, in the emptied queue (R157). -/
def Link.returnToMain (l : Link) (was : Transmitter) : Link :=
  if was = .standby then (l.commandRole .standbyTx .carrierOff).commandRole .siteControl .goMain else l

/-- Steps 1 to 4 (R189). -/
def State.resetBlocks (s : State) : State :=
  let p := s.pf.loaded
  let s1 : State := { s with al := s.al.globalReset s.ev.clock, ev := s.ev.globalReset, pf := s.pf.globalReset }
  let s2 := s1.raiseIf (!s.pf.valid) .profileDefaulted
  { s2 with
    pb := .initial p
    sq := .initial
    ps := .initial
    lc := .initial
    du := .initial p
    air := s.air.globalReset p
    tl := s.tl.globalReset p
    cl := mapLanes Lane.globalReset s.cl }

/-- GLOBAL-RESET, in the order of R189 up to the reply. -/
def State.globalReset (s : State) : State :=
  let s1 := s.resetBlocks
  (s1.setTl (s1.tl.returnToMain s.tl.active)).enterStartState s1.air.startInto

end Sys2Proof.Machine
end

