-- ==== Sys2Proof/Machine/Settle.lean ====
section
/-! DEFINITION. The events of the part that a condition on its state makes due, taken together before a mix (log 6), and the
mixes of the word clock: MIX, BUILD_STEP, CATCH_UP_STEP and CLOCK_WRAP (log 7). -/

namespace Sys2Proof.Machine

/-- RELEASE_RAMP_END of one entry (R6): where a mix has not already ended the release, it ends here. -/
def State.releaseRampEnd (s : State) (src : Source) : State := s.updEntry src Entry.releaseEnd

/-- SEGUE_POINT with the break opportunity it gives (R47). -/
def State.seguePointEvent (s : State) : State := s.seguePoint.takeBreak

/-- ITEM_END with the break opportunity it may give (R47). -/
def State.itemEndEvent (s : State) (d : DeckId) : State := (s.itemEnd d).takeBreak

/-- The start and profile events. -/
def State.settleStart (s : State) : State := s.profileWriteComplete.profileLoadComplete.startDelayExpiry

/-- The ends of the release ramps. -/
def State.settleRoster (s : State) : State := s.updRoster fun _ e => e.releaseEnd

/-- The sequencer's points, a fade before a segue before an end. -/
def State.settleSequencer (s : State) : State :=
  let s1 := (s.fadeOutPoint .a).fadeOutPoint .b
  (s1.seguePointEvent.itemEndEvent .a).itemEndEvent .b

/-- The alert unit's phase ends and window expiries, the table in its order. -/
def State.settleAlert (s : State) : State :=
  let s1 := s.attentionEnd.messageTruncated.alertEnd
  (s1.al.table.map (·.id)).foldl State.windowExpiry s1

/-- One line's events. -/
def State.settleLine (s : State) (n : LineId) : State :=
  ((((s.ringBurst n).ringArmed n).ringExpiry n).loopLoss n).holdLong n

/-- The lines' events, in line order. -/
def State.settleLines (s : State) : State := LineId.all.foldl State.settleLine s

/-- The link's events: the close of a window whose last period has run, a poll, the frame whose POLL opens a window, and the take of
this sample period, so that a window covers the takes of 1,440 sample periods (R158). -/
def State.settleLink (s : State) : State := s.replyWindowClose.pollTimerExpiry.frameBoundary.assemblerTake

/-- The lanes' timeouts. -/
def State.settleLanes (s : State) : State := ((s.laneTimeout .aut).laneTimeout .con).laneTimeout .alr

/-- Everything still due from the sample period before, in a fixed order (log 6). -/
def State.settle (s : State) : State :=
  s.settleStart.settleRoster.settleSequencer.settleAlert.blockJudged.settleLines.settleLink.settleLanes

/-- MIX: what is due, then the mix and its sample period (R17). While power-on is held the part runs no mix (R188; log 33). -/
def State.mix (s : State) (f : InputFrame) : State := if s.pf.held then s else s.settle.mixPeriod f

/-- The next mix is a step of a mode: the unit runs, and its counter stands one below the divisor or higher (R94, R96, R97). -/
def State.stepDue (s : State) (m : DelayMode) : Bool :=
  let t := s.settle
  t.du.mode = m && !t.du.isHeld t.air.state && t.du.stepMix t.pf.working.buildDivisor

/-- BUILD_STEP: the MIX that is a build step (R96). -/
def State.buildStep (s : State) (f : InputFrame) : State := if s.stepDue .building then s.mix f else s

/-- CATCH_UP_STEP: the MIX that is a catch-up step (R97). -/
def State.catchUpStep (s : State) (f : InputFrame) : State := if s.stepDue .catching then s.mix f else s

/-- CLOCK_WRAP: the MIX at whose end the air clock turns to 0 (R182). -/
def State.clockWrap (s : State) (f : InputFrame) : State := if s.ev.clock = 0xFFFFFFFF#32 then s.mix f else s

end Sys2Proof.Machine
end

