-- ==== Sys2Proof/Machine/ExecStart.lean ====
section
/-! DEFINITION. The start commands (chapter 11): POWER_ON, PROFILE_LOAD_COMPLETE, START_DELAY_EXPIRY, GLOBAL_RESET; and the
answers every family of requests gives. -/

namespace Sys2Proof.Machine

/-- What a meaning answers: no command of the part faults or is refused by the model, so it is always a next state. -/
abbrev Result := Host.Outcome State Fault Refusal

/-- A request answered with a code and no body, from a state. -/
def State.reply (s : State) (c : ReplyCode) : Answer := { state := s, code := c, body := [] }

/-- A request answered DONE. -/
def State.done (s : State) : Answer := s.reply .done

/-- An answer with the break opportunity its changes gave, taken once they are complete (R47, R118). -/
def Answer.thenBreak (a : Answer) : Answer := { a with state := a.state.takeBreak }

/-- POWER_ON (R188). -/
def execPowerOn (s : State) (rst supply : Bool := true) : Result := .next (s.powerOn rst supply)

/-- PROFILE_LOAD_COMPLETE (R188). -/
def execProfileLoadComplete (s : State) : Result := .next s.profileLoadComplete

/-- START_DELAY_EXPIRY (R141, R188). -/
def execStartDelayExpiry (s : State) : Result := .next s.startDelayExpiry

/-- GLOBAL-RESET as its owner takes it (R189). -/
def ownGlobalReset (_body : List Byte) (s : State) : Answer := s.globalReset.done

/-- GLOBAL_RESET (R189). -/
def execGlobalReset (l : LaneId) (rest : List Byte) (s : State) : Result :=
  .next (s.request l 0x58#8 rest (onlyCon l) 0 ownGlobalReset)

end Sys2Proof.Machine
end

