-- ==== Sys2Proof/Machine/ExecClock.lean ====
section
/-! DEFINITION. The commands of the word clock (chapters 1, 5 and 10): MIX, RELEASE_RAMP_END, BUILD_STEP, CATCH_UP_STEP,
CLOCK_WRAP. -/

namespace Sys2Proof.Machine

/-- MIX (R17). -/
def execMix (f : InputFrame) (s : State) : Result := .next (s.mix f)

/-- RELEASE_RAMP_END (R6). -/
def execReleaseRampEnd (src : Source) (s : State) : Result := .next (s.releaseRampEnd src)

/-- BUILD_STEP (R96). -/
def execBuildStep (f : InputFrame) (s : State) : Result := .next (s.buildStep f)

/-- CATCH_UP_STEP (R97). -/
def execCatchUpStep (f : InputFrame) (s : State) : Result := .next (s.catchUpStep f)

/-- CLOCK_WRAP (R182). -/
def execClockWrap (f : InputFrame) (s : State) : Result := .next (s.clockWrap f)

end Sys2Proof.Machine
end

