-- ==== Sys2Proof/Machine/ExecSequencer.lean ====
section
/-! DEFINITION. The air sequencer's commands (chapter 2). -/

namespace Sys2Proof.Machine

/-! ### Events -/

/-- FADE_OUT_POINT (R38). -/
def execFadeOutPoint (d : DeckId) (s : State) : Result := .next (s.fadeOutPoint d)

/-- SEGUE_POINT (R35, R37, R47). -/
def execSeguePoint (s : State) : Result := .next s.seguePointEvent

/-- ITEM_END (R39). -/
def execItemEnd (d : DeckId) (s : State) : Result := .next (s.itemEndEvent d)

/-! ### Requests on the list -/

/-- The checks SEQ-APPEND and SEQ-INSERT share, in their order, and the item as stored (R26, R28). -/
def State.itemChecks (s : State) (i : ItemBytes) : Except ReplyCode Item :=
  if i.id = 0 then .error .badState
  else
    match i.kind with
    | none => .error .unknown
    | some k =>
      if Config.sequenceMax ≤ s.sq.list.length then .error .full
      else if (s.sq.item i.id).isSome then .error .duplicate
      else .ok (storeItem i.id k i.lengthMs i.segueMs i.fadeInMs i.fadeOutMs i.gain)

/-- SEQ-APPEND as its owner takes it (R28). -/
def ownSeqAppend (body : List Byte) (s : State) : Answer :=
  match itemBytes body with
  | none => s.reply .badLength
  | some b =>
    match s.itemChecks b with
    | .error c => s.reply c
    | .ok i => ((s.setSq { s.sq with list := s.sq.list ++ [i] }).review false).done.thenBreak

/-- SEQ_APPEND (R28). -/
def execSeqAppend (l : LaneId) (rest : List Byte) (s : State) : Result :=
  .next (s.request l 0x10#8 rest (onlyAut l) 18 ownSeqAppend)

/-- An item placed directly after the item of an id. -/
def insertAfter (id : Nat) (i : Item) : List Item → List Item
  | [] => []
  | x :: xs => if x.id = id then x :: i :: xs else x :: insertAfter id i xs

/-- The deck of the old index 1 that an insertion after the head releases (R29): CUEING or READY for it. -/
def State.releasedDeck (s : State) (after : Nat) : Option DeckId :=
  match s.sq.list with
  | h :: x :: _ =>
    if h.id = after then
      match s.sq.boundDeck x.id with
      | some d => if (s.deck d).state = .cueing ∨ (s.deck d).state = .ready then some d else none
      | none => none
    else none
  | _ => none

/-- A released deck is cued for the new index 1 (R29); a LIVE item is never bound, so its deck becomes FREE (log 18). -/
def State.recue (s : State) (d : Option DeckId) (i : Item) : State :=
  match d with
  | some d => if i.kind = .live then s.freeDeck d else s.bindDeck d i.id
  | none => s

/-- SEQ-INSERT as its owner takes it (R29). -/
def ownSeqInsert (body : List Byte) (s : State) : Answer :=
  match body with
  | a1 :: a0 :: item =>
    match itemBytes item with
    | none => s.reply .badLength
    | some b =>
      match s.itemChecks b with
      | .error c => s.reply c
      | .ok i =>
        if s.sq.list.any (·.id = word16 a1 a0) then
          let s1 := s.setSq { s.sq with list := insertAfter (word16 a1 a0) i s.sq.list }
          ((s1.recue (s.releasedDeck (word16 a1 a0)) i).review false).done.thenBreak
        else s.reply .unknown
  | _ => s.reply .badLength

/-- SEQ_INSERT (R29). -/
def execSeqInsert (l : LaneId) (rest : List Byte) (s : State) : Result :=
  .next (s.request l 0x11#8 rest (onlyAut l) 20 ownSeqInsert)

/-- A waiting item taken out of the list; one bound to a deck frees it and is reported REMOVED_CUED (R30). -/
def State.removeItem (s : State) (id : Nat) : State :=
  let s1 := s.setSq { s.sq with list := s.sq.list.filter (·.id ≠ id) }
  match s.sq.boundDeck id with
  | some d => (s1.addDone { item := id, start := none, aired := 0, outcome := .removedCued }).freeDeck d
  | none => s1

/-- SEQ-REMOVE as its owner takes it (R30). -/
def ownSeqRemove (body : List Byte) (s : State) : Answer :=
  match body with
  | i1 :: i0 :: _ =>
    if s.sq.list.any (·.id = word16 i1 i0) then
      if s.sq.list.head?.map (·.id) = some (word16 i1 i0) then s.reply .badState
      else ((s.removeItem (word16 i1 i0)).review false).done.thenBreak
    else s.reply .unknown
  | _ => s.reply .badLength

/-- SEQ_REMOVE (R30). -/
def execSeqRemove (l : LaneId) (rest : List Byte) (s : State) : Result :=
  .next (s.request l 0x12#8 rest (onlyAut l) 2 ownSeqRemove)

/-- SEQ-READY as its owner takes it (R34, R36). -/
def ownSeqReady (body : List Byte) (s : State) : Answer :=
  match body with
  | i1 :: i0 :: d :: _ =>
    match deckOf d with
    | none => s.reply .unknown
    | some d =>
      if (s.deck d).item = some (word16 i1 i0) then
        match (s.deck d).state with
        | .cueing => ((s.setDeck d { s.deck d with state := .ready }).review true).done.thenBreak
        | .ready => s.done
        | _ => s.reply .unknown
      else s.reply .unknown
  | _ => s.reply .badLength

/-- SEQ_READY (R34). -/
def execSeqReady (l : LaneId) (rest : List Byte) (s : State) : Result :=
  .next (s.request l 0x13#8 rest (onlyAut l) 3 ownSeqReady)

/-! ### Start, stop, skip, continue -/

/-- SEQ-START taken: the PAUSED decks resume, the sequencer is RUNNING, and the start rules are taken (R45). -/
def State.startSequence (s : State) : State :=
  let s1 := (s.resumeDeck .a).resumeDeck .b
  (s1.setSq (s1.sq.enter .running)).review false

/-- SEQ-START as its owner takes it (R45). -/
def ownSeqStart (_body : List Byte) (s : State) : Answer :=
  if s.sq.state = .running ∨ s.sq.state = .halted then s.done
  else if s.ps.records ≠ [] ∨ s.air.state ≠ .onAir ∨ s.sq.state ≠ .stopped then s.reply .badState
  else s.startSequence.done.thenBreak

/-- SEQ_START (R45). -/
def execSeqStart (l : LaneId) (rest : List Byte) (s : State) : Result :=
  .next (s.request l 0x14#8 rest (autOrCon l) 0 ownSeqStart)

/-- SEQ-STOP as its owner takes it (R44). -/
def ownSeqStop (_body : List Byte) (s : State) : Answer :=
  if s.ps.records ≠ [] ∨ s.sq.state = .preempted then s.reply .badState
  else if s.sq.state = .stopped then s.done
  else (s.setSq s.sq.stop).done.thenBreak

/-- SEQ_STOP (R44). -/
def execSeqStop (l : LaneId) (rest : List Byte) (s : State) : Result :=
  .next (s.request l 0x15#8 rest (autOrCon l) 0 ownSeqStop)

/-- The PLAYING head skipped: its length becomes its position plus its fade-out, and it fades from now; a head not longer than
that is left alone (R42). -/
def State.skipPlaying (s : State) (d : DeckId) (h : Item) (rest : List Item) : State :=
  let n := (s.deck d).position + h.fadeOut
  if h.length.any (· ≤ n) then s
  else
    let s1 := s.setSq { s.sq with list := { h with length := some n, segue := min h.segue n, skipped := true } :: rest }
    let s2 := (s1.setDeck d { s1.deck d with fadeTaken := true }).updEntry d.source (·.fadeOut h.fadeOut)
    if s2.headAtSegue then s2.takeHeadPoint d else s2

/-- A head that waits to start skipped: its deck FREE, its done record, and the next item the head (R43). -/
def State.skipWaiting (s : State) (h : Item) : State :=
  let s1 := s.addDone { item := h.id, start := none, aired := 0, outcome := .skipped }
  let s2 :=
    match s.sq.boundDeck h.id with
    | some d => s1.freeDeck d
    | none => s1
  s2.dropHead.review false

/-- SEQ-SKIP as its owner takes it (R42, R43; log 17). -/
def ownSeqSkip (_body : List Byte) (s : State) : Answer :=
  if s.sq.state ≠ .running then s.reply .badState
  else
    match s.sq.list, s.sq.playing with
    | [], _ => s.reply .nothing
    | h :: rest, some d => (s.skipPlaying d h rest).done.thenBreak
    | h :: _, none => (s.skipWaiting h).done.thenBreak

/-- SEQ_SKIP (R42, R43). -/
def execSeqSkip (l : LaneId) (rest : List Byte) (s : State) : Result :=
  .next (s.request l 0x16#8 rest (autOrCon l) 0 ownSeqSkip)

/-- The done record of a LIVE head at a SEQ-CONTINUE (R41). -/
def State.liveRecord (s : State) (h : Item) : DoneRecord where
  item := h.id
  start := s.sq.liveStart
  aired :=
    match s.sq.liveStart with
    | some t => since t s.ev.clock
    | none => 0
  outcome := .complete

/-- A halt ended: the LIVE head leaves, the sequencer is RUNNING, and the start that is now due is looked at (R41). -/
def State.continueSequence (s : State) : State :=
  let s1 :=
    match s.sq.list with
    | h :: _ => (s.addDone (s.liveRecord h)).dropHead
    | [] => s
  (s1.setSq (s1.sq.enter .running)).review false

/-- SEQ-CONTINUE as its owner takes it (R41). -/
def ownSeqContinue (_body : List Byte) (s : State) : Answer :=
  if s.sq.state = .halted then s.continueSequence.done.thenBreak else s.reply .badState

/-- SEQ_CONTINUE (R41). -/
def execSeqContinue (l : LaneId) (rest : List Byte) (s : State) : Result :=
  .next (s.request l 0x17#8 rest (onlyCon l) 0 ownSeqContinue)

/-- DONE-READ as its owner takes it (R49). -/
def ownDoneRead (_body : List Byte) (s : State) : Answer :=
  match s.sq.done with
  | [] => s.reply .nothing
  | r :: rest => { state := s.setSq { s.sq with done := rest }, code := .done, body := r.bytes }

/-- DONE_READ (R49). -/
def execDoneRead (l : LaneId) (rest : List Byte) (s : State) : Result :=
  .next (s.request l 0x18#8 rest (onlyAut l) 0 ownDoneRead)

end Sys2Proof.Machine
end

