-- ==== Sys2Proof/Machine/ExecRoster.lean ====
section
/-! DEFINITION. The roster requests: SOURCE_GAIN, SOURCE_ON, SOURCE_OFF, SOURCE_TAKE, SOURCE_RELEASE (R3, R10 to R13, R172). -/

namespace Sys2Proof.Machine

/-- A request of AUT on a CON-held entry is refused HELD (R13). -/
def State.heldFor (s : State) (l : LaneId) (src : Source) : Bool := l = .aut && (s.entry src).controller = .con

/-- SOURCE-GAIN as its owner takes it (R10, R13). -/
def ownSourceGain (l : LaneId) (body : List Byte) (s : State) : Answer :=
  match body with
  | c :: t1 :: t0 :: r1 :: r0 :: _ =>
    match sourceOf c with
    | none => s.reply .unknown
    | some src =>
      if s.heldFor l src then s.reply .held
      else (s.updEntry src (·.gain (min (word16 t1 t0) Config.unity) (rampSamples (word16 r1 r0)))).done
  | _ => s.reply .badLength

/-- SOURCE_GAIN (R10). -/
def execSourceGain (l : LaneId) (rest : List Byte) (s : State) : Result :=
  .next (s.request l 0x20#8 rest (autOrCon l) 5 (ownSourceGain l))

/-- The sources a lane may turn on and off: MIC and FBK from CON, FBK from AUT (R11). -/
def mayTurn (l : LaneId) (src : Source) : Bool := src = .fbk || (src = .mic && l = .con)

/-- The checks SOURCE-ON and SOURCE-OFF share, in their order (R11, R12). -/
def State.turnChecks (s : State) (l : LaneId) (src : Source) : Option ReplyCode :=
  if !mayTurn l src then some .badState else if s.heldFor l src then some .held else none

/-- SOURCE-ON as its owner takes it (R11). -/
def ownSourceOn (l : LaneId) (body : List Byte) (s : State) : Answer :=
  match body with
  | c :: r1 :: r0 :: _ =>
    match sourceOf c with
    | none => s.reply .unknown
    | some src =>
      match s.turnChecks l src with
      | some code => s.reply code
      | none =>
        if (s.entry src).state = .live then s.done
        else (s.updEntry src (·.setLive (rampSamples (word16 r1 r0)))).done
  | _ => s.reply .badLength

/-- SOURCE_ON (R11). -/
def execSourceOn (l : LaneId) (rest : List Byte) (s : State) : Result :=
  .next (s.request l 0x21#8 rest (autOrCon l) 3 (ownSourceOn l))

/-- SOURCE-OFF as its owner takes it (R12). -/
def ownSourceOff (l : LaneId) (body : List Byte) (s : State) : Answer :=
  match body with
  | c :: r1 :: r0 :: _ =>
    match sourceOf c with
    | none => s.reply .unknown
    | some src =>
      match s.turnChecks l src with
      | some code => s.reply code
      | none =>
        if (s.entry src).state = .off then s.done
        else (s.updEntry src (·.setReleasing (rampSamples (word16 r1 r0)))).done
  | _ => s.reply .badLength

/-- SOURCE_OFF (R12). -/
def execSourceOff (l : LaneId) (rest : List Byte) (s : State) : Result :=
  .next (s.request l 0x22#8 rest (autOrCon l) 3 (ownSourceOff l))

/-- The default controller of a source (R2). -/
def defaultController : Source → Controller
  | .pla => .aut
  | .plb => .aut
  | .mic => .con
  | .fbk => .aut
  | .ln1 => .con
  | .ln2 => .con
  | .ln3 => .con
  | .ln4 => .con

/-- The controller of an entry set, and nothing else of it (R3). -/
def State.setController (s : State) (src : Source) (c : Controller) : State :=
  s.updEntry src fun e => { e with controller := c }

/-- SOURCE-TAKE as its owner takes it (R172). -/
def ownSourceTake (body : List Byte) (s : State) : Answer :=
  match body with
  | c :: _ =>
    match sourceOf c with
    | none => s.reply .unknown
    | some src => (s.setController src .con).done
  | [] => s.reply .badLength

/-- SOURCE_TAKE (R172). -/
def execSourceTake (l : LaneId) (rest : List Byte) (s : State) : Result :=
  .next (s.request l 0x23#8 rest (onlyCon l) 1 ownSourceTake)

/-- SOURCE-RELEASE as its owner takes it (R172). -/
def ownSourceRelease (body : List Byte) (s : State) : Answer :=
  match body with
  | c :: _ =>
    match sourceOf c with
    | none => s.reply .unknown
    | some src => (s.setController src (defaultController src)).done
  | [] => s.reply .badLength

/-- SOURCE_RELEASE (R172). -/
def execSourceRelease (l : LaneId) (rest : List Byte) (s : State) : Result :=
  .next (s.request l 0x24#8 rest (onlyCon l) 1 ownSourceRelease)

end Sys2Proof.Machine
end

