-- ==== Sys2Proof/Machine/ExecStack.lean ====
section
/-! DEFINITION. The requests on the preemption stack: BREAK_IN (R54) and RESUME (R58). -/

namespace Sys2Proof.Machine

/-- BREAK-IN as its owner takes it (R54). -/
def ownBreakIn (_body : List Byte) (s : State) : Answer :=
  if s.alertActive ∨ s.air.state ≠ .onAir then s.reply .badState else (s.push .breakIn).done.thenBreak

/-- BREAK_IN (R54). -/
def execBreakIn (l : LaneId) (rest : List Byte) (s : State) : Result :=
  .next (s.request l 0x28#8 rest (onlyCon l) 0 ownBreakIn)

/-- A lane may pop a top cause: CON any but ALERT, AUT a FAILOVER or a REMOTE_FALLBACK (R58). -/
def mayResume (l : LaneId) (c : Cause) : Bool :=
  match l with
  | .con => c ≠ .alert
  | .aut => c = .failover || c = .remoteFallback
  | .alr => false

/-- Who a RESUME of a lane is taken by (R69). -/
def resumeBy : LaneId → ResumeBy
  | .aut => .aut
  | .con => .con
  | .alr => .alertUnit

/-- RESUME as its owner takes it (R58). -/
def ownResume (l : LaneId) (body : List Byte) (s : State) : Answer :=
  match body with
  | c :: _ =>
    match resumeOf c, s.topCause with
    | none, _ => s.reply .unknown
    | some _, none => s.reply .nothing
    | some k, some cause => if mayResume l cause then (s.pop (resumeBy l) k).done.thenBreak else s.reply .refused
  | [] => s.reply .badLength

/-- RESUME (R58). -/
def execResume (l : LaneId) (rest : List Byte) (s : State) : Result :=
  .next (s.request l 0x29#8 rest (autOrCon l) 1 (ownResume l))

end Sys2Proof.Machine
end

