-- ==== Sys2Proof/Machine/ExecLines.lean ====
section
/-! DEFINITION. The line controller's commands (chapter 4). -/

namespace Sys2Proof.Machine

/-- A line request by its line code; a code outside 1 to 4 is answered UNKNOWN (R72). -/
def onLine (own : LineId → State → Answer) (body : List Byte) (s : State) : Answer :=
  match body with
  | c :: _ =>
    match lineOf c with
    | none => s.reply .unknown
    | some n => own n s
  | [] => s.reply .badLength

/-- LINE-ANSWER of a line (R75). -/
def ownLineAnswer (n : LineId) (s : State) : Answer :=
  if (s.line n).state = .ringing then (s.enterLine n .screen).done else s.reply .badState

/-- LINE_ANSWER (R75). -/
def execLineAnswer (l : LaneId) (rest : List Byte) (s : State) : Result :=
  .next (s.request l 0x30#8 rest (onlyCon l) 1 (onLine ownLineAnswer))

/-- LINE-SCREEN of a line (R78); no pop offers it back (R66). -/
def ownLineScreen (n : LineId) (s : State) : Answer :=
  if (s.line n).state = .hold ∨ (s.line n).state = .ready then (((s.leaveQueue n).leaveOffers n).enterLine n .screen).done
  else s.reply .badState

/-- LINE_SCREEN (R78). -/
def execLineScreen (l : LaneId) (rest : List Byte) (s : State) : Result :=
  .next (s.request l 0x31#8 rest (onlyCon l) 1 (onLine ownLineScreen))

/-- LINE-HOLD of a line (R76). -/
def ownLineHold (n : LineId) (s : State) : Answer :=
  if (s.line n).state = .screen then (s.enterLine n .hold).done
  else if (s.line n).state = .onAir then ((s.enterLine n .hold).updEntry n.source (·.setReleasing s.takeFade)).done
  else s.reply .badState

/-- LINE_HOLD (R76). -/
def execLineHold (l : LaneId) (rest : List Byte) (s : State) : Result :=
  .next (s.request l 0x32#8 rest (onlyCon l) 1 (onLine ownLineHold))

/-- LINE-READY of a line, at the head of the queue or at its tail (R77); no pop offers it back (R66). -/
def ownLineReady (front : Bool) (n : LineId) (s : State) : Answer :=
  if (s.line n).state = .screen ∨ (s.line n).state = .hold then (((s.leaveOffers n).enterLine n .ready).joinQueue n front).done
  else s.reply .badState

/-- LINE_READY (R77); bit 0 of the front byte counts (R174). -/
def execLineReady (l : LaneId) (rest : List Byte) (s : State) : Result :=
  .next (s.request l 0x33#8 rest (onlyCon l) 2 fun body => onLine (ownLineReady (bitAt (body.getD 1 0#8) 0)) body)

/-- A line may be put on air by number: SCREEN, HOLD or READY (R79). -/
def LineState.mayAir : LineState → Bool
  | .screen => true
  | .hold => true
  | .ready => true
  | _ => false

/-- The line LINE-AIR names: its code, or NEXT, the head of the queue (R79). -/
def State.airLine (s : State) (c : Byte) : Except ReplyCode LineId :=
  if c = 0#8 then
    if s.alertActive then .error .badState
    else
      match s.lc.queue with
      | [] => .error .nothing
      | n :: _ => .ok n
  else
    match lineOf c with
    | none => .error .unknown
    | some n => if s.alertActive then .error .badState else .ok n

/-- A line put on air (R79, R83). -/
def State.putOnAir (s : State) (n : LineId) : State :=
  ((s.leaveQueue n).enterLine n .onAir).updEntry n.source (·.setLive s.takeFade)

/-- LINE-AIR as its owner takes it, its checks in order (R79). -/
def ownLineAir (body : List Byte) (s : State) : Answer :=
  match body with
  | c :: _ =>
    match s.airLine c with
    | .error code => s.reply code
    | .ok n =>
      if !(s.line n).state.mayAir then s.reply .badState
      else if Config.airLines ≤ s.lc.onAirCount then s.reply .full
      else (s.putOnAir n).done
  | [] => s.reply .badLength

/-- LINE_AIR (R79). -/
def execLineAir (l : LaneId) (rest : List Byte) (s : State) : Result :=
  .next (s.request l 0x34#8 rest (onlyCon l) 1 ownLineAir)

/-- LINE-DROP of a line (R80). -/
def ownLineDrop (n : LineId) (s : State) : Answer :=
  if (s.line n).state.seized then (s.dropLine n).done else s.reply .badState

/-- LINE_DROP (R80). -/
def execLineDrop (l : LaneId) (rest : List Byte) (s : State) : Result :=
  .next (s.request l 0x35#8 rest (onlyCon l) 1 (onLine ownLineDrop))

/-- RING_FILTER_ARMED (R71). -/
def execRingFilterArmed (n : LineId) (s : State) : Result := .next (s.ringArmed n)

/-- RING_BURST (R71, R73). -/
def execRingBurst (n : LineId) (s : State) : Result := .next (s.ringBurst n)

/-- RING_EXPIRY (R74). -/
def execRingExpiry (n : LineId) (s : State) : Result := .next (s.ringExpiry n)

/-- LOOP_LOSS (R81). -/
def execLoopLoss (n : LineId) (s : State) : Result := .next (s.loopLoss n)

/-- HOLD_LONG (R85). -/
def execHoldLong (n : LineId) (s : State) : Result := .next (s.holdLong n)

end Sys2Proof.Machine
end

