-- ==== Sys2Proof/Machine/ExecDelay.lean ====
section
/-! DEFINITION. The requests on the broadcast delay: DELAY_TARGET (R99) and DELAY_DUMP (R100, R101). -/

namespace Sys2Proof.Machine

/-- DELAY-TARGET as its owner takes it (R99). -/
def ownDelayTarget (body : List Byte) (s : State) : Answer :=
  match body with
  | b1 :: b0 :: _ => (s.setDu (s.du.setTarget (word16 b1 b0))).done
  | _ => s.reply .badLength

/-- DELAY_TARGET (R99). -/
def execDelayTarget (l : LaneId) (rest : List Byte) (s : State) : Result :=
  .next (s.request l 0x38#8 rest (onlyCon l) 2 ownDelayTarget)

/-- DELAY-DUMP as its owner takes it (R100, R101). -/
def ownDelayDump (_body : List Byte) (s : State) : Answer :=
  if s.du.dumpAmount s.pf.working.dumpSize = 0 then s.done
  else ((s.setDu (s.du.dump (s.du.dumpAmount s.pf.working.dumpSize))).raise .delayDump).done

/-- DELAY_DUMP (R100). -/
def execDelayDump (l : LaneId) (rest : List Byte) (s : State) : Result :=
  .next (s.request l 0x39#8 rest (onlyCon l) 0 ownDelayDump)

end Sys2Proof.Machine
end

