-- ==== Sys2Proof/Machine/ExecAlert.lean ====
section
/-! DEFINITION. The alert unit's commands (chapter 6). -/

namespace Sys2Proof.Machine

/-- ALERT-NOTICE as its owner takes it (R108, R109). -/
def ownAlertNotice (body : List Byte) (s : State) : Answer :=
  match readNotice body with
  | .error c => s.reply c
  | .ok n => answer (s.notice n)

/-- ALERT_NOTICE (R108, R109). -/
def execAlertNotice (l : LaneId) (rest : List Byte) (s : State) : Result :=
  .next (s.request l 0x40#8 rest (onlyAlr l) 13 ownAlertNotice)

/-- WINDOW_EXPIRY of the pending alert of an id (R114). -/
def execWindowExpiry (id : Nat) (s : State) : Result := .next (s.windowExpiry id)

/-- ATTENTION_END (R122). -/
def execAttentionEnd (s : State) : Result := .next s.attentionEnd

/-- MESSAGE_TRUNCATED (R123). -/
def execMessageTruncated (s : State) : Result := .next s.messageTruncated

/-- ALERT-AUDIO-END of an id (R123). -/
def State.audioEnd (s : State) (id : Nat) : Answer :=
  match s.al.onAir with
  | none => s.reply .unknown
  | some o =>
    if o.id ≠ id then s.reply .unknown
    else if o.phase = .message then (s.setOnAir (o.enter .closing)).done
    else s.reply .badState

/-- ALERT-AUDIO-END as its owner takes it (R123). -/
def ownAlertAudioEnd (body : List Byte) (s : State) : Answer :=
  match body with
  | i3 :: i2 :: i1 :: i0 :: _ => s.audioEnd (word32 i3 i2 i1 i0)
  | _ => s.reply .badLength

/-- ALERT_AUDIO_END (R123). -/
def execAlertAudioEnd (l : LaneId) (rest : List Byte) (s : State) : Result :=
  .next (s.request l 0x41#8 rest (onlyAlr l) 4 ownAlertAudioEnd)

/-- The on-air alert cancelled: CLOSING begins, the ending CANCELLED; in CLOSING nothing changes (R127). -/
def State.cancelOnAir (s : State) (o : OnAirAlert) : State :=
  match o.phase with
  | .closing => s
  | _ => s.setOnAir { o.enter .closing with ending := some .cancelled }

/-- A pending alert cancelled: out of the table, logged CANCELLED, and the first pending alert looked at (R127). -/
def State.cancelPending (s : State) (p : PendingAlert) : State :=
  (s.setAl ({ s.al with table := s.al.table.eraseP (·.id = p.id) }.writePending p .cancelled)).checkAlerts

/-- ALERT-CANCEL of an id: the pending table first, then the on-air alert (R127). -/
def State.cancel (s : State) (id : Nat) : Answer :=
  match s.al.table.find? (·.id = id), s.al.onAir with
  | some p, _ => (s.cancelPending p).done
  | none, some o => if o.id = id then (s.cancelOnAir o).done else s.reply .unknown
  | none, none => s.reply .unknown

/-- ALERT-CANCEL as its owner takes it (R127). -/
def ownAlertCancel (body : List Byte) (s : State) : Answer :=
  match body with
  | i3 :: i2 :: i1 :: i0 :: _ => s.cancel (word32 i3 i2 i1 i0)
  | _ => s.reply .badLength

/-- ALERT_CANCEL (R127). -/
def execAlertCancel (l : LaneId) (rest : List Byte) (s : State) : Result :=
  .next (s.request l 0x42#8 rest (onlyAlr l) 4 ownAlertCancel)

/-- ALERT-REARM as its owner takes it (R116). -/
def ownAlertRearm (_body : List Byte) (s : State) : Answer :=
  if s.al.armed then s.done else ((s.setAl { s.al with armed := true }).checkAlerts).done

/-- ALERT_REARM (R116). -/
def execAlertRearm (l : LaneId) (rest : List Byte) (s : State) : Result :=
  .next (s.request l 0x43#8 rest (onlyAlr l) 0 ownAlertRearm)

/-- ALERT_END (R124). -/
def execAlertEnd (s : State) : Result := .next s.alertEnd

/-- LOG-READ as its owner takes it (R129, R184). -/
def ownLogRead (body : List Byte) (s : State) : Answer :=
  match body with
  | i :: _ =>
    if 31 < i.toNat then s.reply .unknown
    else
      match s.al.log[i.toNat]? with
      | some r => { state := s, code := .done, body := r.bytes }
      | none => s.reply .nothing
  | [] => s.reply .badLength

/-- LOG_READ (R184). -/
def execLogRead (l : LaneId) (rest : List Byte) (s : State) : Result :=
  .next (s.request l 0x03#8 rest true 1 ownLogRead)

end Sys2Proof.Machine
end

