-- ==== Sys2Proof/Machine/ExecAir.lean ====
section
/-! DEFINITION. The commands of the air state block (chapter 7): SIGN_ON, SIGN_OFF, WAKE_ENABLE, BLOCK_JUDGED. -/

namespace Sys2Proof.Machine

/-- SIGN-ON as its owner takes it; CON needs no enable (R135). -/
def ownSignOn (l : LaneId) (_body : List Byte) (s : State) : Answer :=
  answer (s.signOn (l = .con || s.pf.working.wake.autSignOn))

/-- SIGN_ON (R135). -/
def execSignOn (l : LaneId) (rest : List Byte) (s : State) : Result :=
  .next (s.request l 0x48#8 rest (autOrCon l) 0 (ownSignOn l))

/-- SIGN-OFF as its owner takes it (R137). -/
def ownSignOff (_body : List Byte) (s : State) : Answer := answer s.signOff

/-- SIGN_OFF (R137, R138). -/
def execSignOff (l : LaneId) (rest : List Byte) (s : State) : Result :=
  .next (s.request l 0x49#8 rest (autOrCon l) 0 ownSignOff)

/-- WAKE-ENABLE as its owner takes it: the working copy alone, and what the change causes (R134). -/
def ownWakeEnable (body : List Byte) (s : State) : Answer :=
  match body with
  | b :: _ => (s.setPf { s.pf with working := { s.pf.working with wake := wakeOf b } }).wakeChanged.done
  | [] => s.reply .badLength

/-- WAKE_ENABLE (R134). -/
def execWakeEnable (l : LaneId) (rest : List Byte) (s : State) : Result :=
  .next (s.request l 0x4A#8 rest (onlyCon l) 1 ownWakeEnable)

/-- BLOCK_JUDGED (R143, R145, R146). -/
def execBlockJudged (s : State) : Result := .next s.blockJudged

end Sys2Proof.Machine
end

