-- ==== Sys2Proof/Machine/ExecLink.lean ====
section
/-! DEFINITION. The commands of the transmitter link (chapter 8) and CEILING_RESTORE (R22). -/

namespace Sys2Proof.Machine

/-- FRAME_BOUNDARY (R147). -/
def execFrameBoundary (s : State) : Result := .next s.frameBoundary

/-- POLL_TIMER_EXPIRY (R157). -/
def execPollTimerExpiry (s : State) : Result := .next s.pollTimerExpiry

/-- REPLY_WINDOW_CLOSE (R158). -/
def execReplyWindowClose (s : State) : Result := .next s.replyWindowClose

/-- RETURN_CHARACTER (R153, R154). -/
def execReturnCharacter (w : Waveform) (s : State) : Result := .next (s.returnCharacter w)

/-- ASSEMBLER_TAKE (R154 to R156). -/
def execAssemblerTake (s : State) : Result := .next s.assemblerTake

/-- The command to the site control unit that goes with a transmitter (R159). -/
def goCommand : Transmitter → SiteOp
  | .main => .goMain
  | .standby => .goStandby

/-- The carrier commands of a TX-SELECT while the carrier is up: off to the transmitter left, on to the one named (R159). -/
def Link.moveCarrier (l : Link) (left named : Transmitter) (up : Bool) : Link :=
  if up then (l.commandRole left.role .carrierOff).commandRole named.role .carrierOn else l

/-- TX-SELECT taken, in the order of R159. -/
def State.selectTransmitter (s : State) (t : Transmitter) : State :=
  let l1 := { s.tl with active := t : Link }.moveCarrier s.tl.active t s.air.state.carrierUp
  let l2 := l1.commandRole .siteControl (goCommand t)
  (s.setTl { l2 with reflectSeen := false }).raise .txChangeover

/-- The changeover condition would hold at once after a TX-SELECT (R159 check 4; log 36). -/
def State.wouldChangeOver (s : State) (t : Transmitter) : Bool := (s.setTl { s.tl with active := t }).changeoverHolds

/-- TX-SELECT of a transmitter, its checks in order (R159). -/
def State.txSelect (s : State) (t : Transmitter) : Answer :=
  if t = s.tl.active then s.done
  else if (s.tl.bearer t.role).isNone || s.wouldChangeOver t then s.reply .badState
  else (s.selectTransmitter t).done

/-- TX-SELECT as its owner takes it (R159). -/
def ownTxSelect (body : List Byte) (s : State) : Answer :=
  match body with
  | b :: _ =>
    match transmitterOf b with
    | none => s.reply .unknown
    | some t => s.txSelect t
  | [] => s.reply .badLength

/-- TX_SELECT (R159). -/
def execTxSelect (l : LaneId) (rest : List Byte) (s : State) : Result :=
  .next (s.request l 0x50#8 rest (onlyCon l) 1 ownTxSelect)

/-- CEILING-RESTORE as its owner takes it (R22). -/
def ownCeilingRestore (_body : List Byte) (s : State) : Answer := (s.setCeiling false).done

/-- CEILING_RESTORE (R22). -/
def execCeilingRestore (l : LaneId) (rest : List Byte) (s : State) : Result :=
  .next (s.request l 0x51#8 rest (onlyCon l) 0 ownCeilingRestore)

end Sys2Proof.Machine
end

