-- ==== Sys2Proof/Machine/ExecLanes.lean ====
section
/-! DEFINITION. The commands of the control lanes themselves (chapter 9) and of what they read: NOP, the status pages, the event
sets and the profile (chapters 10 and 11). -/

namespace Sys2Proof.Machine

/-! ### Transactions -/

/-- TRANSACTION_START (R163, R167). -/
def execTransactionStart (l : LaneId) (s : State) : Result := .next (s.transactionStart l)

/-- READ_ONLY_TRANSACTION (R163, R167). -/
def execReadOnlyTransaction (l : LaneId) (bytes : List Byte) (s : State) : Result := .next (s.readOnly l bytes)

/-- LANE_TIMEOUT (R169). -/
def execLaneTimeout (l : LaneId) (s : State) : Result := .next (s.laneTimeout l)

/-- NOP (R164). -/
def execNop (l : LaneId) (rest : List Byte) (s : State) : Result :=
  .next (s.request l 0x01#8 rest true 0 fun _ t => t.done)

/-- UNKNOWN_REQUEST_CODE: a request judged as far as check 3 (R164); byte 0 of 0x00 carries no request (R163). -/
def execUnknownRequestCode (l : LaneId) (code : Byte) (rest : List Byte) (s : State) : Result :=
  if code = 0#8 then .next (s.readOnly l (code :: rest))
  else .next (s.transact l code rest false true 0 fun _ t => (t, none))

/-! ### Status and events -/

/-- STATUS-READ as its owner takes it (R183). -/
def ownStatusRead (body : List Byte) (s : State) : Answer :=
  match body with
  | n :: _ =>
    match s.page n with
    | some p => { state := s, code := .done, body := p }
    | none => s.reply .unknown
  | [] => s.reply .badLength

/-- STATUS_READ (R183). -/
def execStatusRead (l : LaneId) (rest : List Byte) (s : State) : Result :=
  .next (s.request l 0x02#8 rest true 1 ownStatusRead)

/-- The event unit replaced. -/
def State.setEv (s : State) (e : EventUnit) : State := { s with ev := e }

/-- An enable set with kinds added or removed (R180). -/
def EventUnit.setEnable (e : EventUnit) (l : LaneId) (k : EventSet) (on : Bool) : EventUnit :=
  { e with enable := e.enable.set l (if on then e.enable.get l ||| k else e.enable.get l &&& ~~~k) }

/-- Kinds removed from a lane's status set (R179). -/
def EventUnit.clear (e : EventUnit) (l : LaneId) (k : EventSet) : EventUnit :=
  { e with status := e.status.set l (e.status.get l &&& ~~~k) }

/-- EVENT-ENABLE as its owner takes it (R180). -/
def ownEventEnable (l : LaneId) (body : List Byte) (s : State) : Answer :=
  match body with
  | k3 :: k2 :: k1 :: k0 :: on :: _ => (s.setEv (s.ev.setEnable l (eventSetOf k3 k2 k1 k0) (bitAt on 0))).done
  | _ => s.reply .badLength

/-- EVENT_ENABLE (R180). -/
def execEventEnable (l : LaneId) (rest : List Byte) (s : State) : Result :=
  .next (s.request l 0x04#8 rest true 5 (ownEventEnable l))

/-- EVENT-CLEAR as its owner takes it (R179). -/
def ownEventClear (l : LaneId) (body : List Byte) (s : State) : Answer :=
  match body with
  | k3 :: k2 :: k1 :: k0 :: _ => (s.setEv (s.ev.clear l (eventSetOf k3 k2 k1 k0))).done
  | _ => s.reply .badLength

/-- EVENT_CLEAR (R179). -/
def execEventClear (l : LaneId) (rest : List Byte) (s : State) : Result :=
  .next (s.request l 0x05#8 rest true 4 (ownEventClear l))

/-! ### Profile -/

/-- PROFILE-READ as its owner takes it (R186). -/
def ownProfileRead (body : List Byte) (s : State) : Answer :=
  match body with
  | c :: _ => s.profileRead c
  | [] => s.reply .badLength

/-- PROFILE_READ (R186). -/
def execProfileRead (l : LaneId) (rest : List Byte) (s : State) : Result :=
  .next (s.request l 0x59#8 rest (onlyCon l) 1 ownProfileRead)

/-- PROFILE_WRITE, admitted from CON while ENG is high (R171, R187). -/
def execProfileWrite (l : LaneId) (eng : Bool) (rest : List Byte) (s : State) : Result :=
  .next (s.transact l 0x5A#8 rest true (onlyCon l && eng) 2 (State.profileWrite l))

/-- PROFILE_WRITE_COMPLETE (R187). -/
def execProfileWriteComplete (s : State) : Result := .next s.profileWriteComplete

end Sys2Proof.Machine
end

