-- ==== Sys2Proof/Machine/Dispatch.lean ====
section
/-! DEFINITION. The dispatch: one arm per command, each a call of its meaning. -/

namespace Sys2Proof.Machine

/-- The effect of a command on everything but the queue. -/
def exec (i : Instr) (s : State) : Host.Outcome State Fault Refusal :=
  match i with
  | .powerOn rst supply => Sys2Proof.Machine.execPowerOn s rst supply
  | .profileLoadComplete => Sys2Proof.Machine.execProfileLoadComplete s
  | .startDelayExpiry => Sys2Proof.Machine.execStartDelayExpiry s
  | .globalReset lane rest => Sys2Proof.Machine.execGlobalReset lane rest s
  | .mix f => Sys2Proof.Machine.execMix f s
  | .releaseRampEnd src => Sys2Proof.Machine.execReleaseRampEnd src s
  | .buildStep f => Sys2Proof.Machine.execBuildStep f s
  | .catchUpStep f => Sys2Proof.Machine.execCatchUpStep f s
  | .fadeOutPoint d => Sys2Proof.Machine.execFadeOutPoint d s
  | .seguePoint => Sys2Proof.Machine.execSeguePoint s
  | .itemEnd d => Sys2Proof.Machine.execItemEnd d s
  | .seqAppend lane rest => Sys2Proof.Machine.execSeqAppend lane rest s
  | .seqInsert lane rest => Sys2Proof.Machine.execSeqInsert lane rest s
  | .seqRemove lane rest => Sys2Proof.Machine.execSeqRemove lane rest s
  | .seqReady lane rest => Sys2Proof.Machine.execSeqReady lane rest s
  | .seqStart lane rest => Sys2Proof.Machine.execSeqStart lane rest s
  | .seqStop lane rest => Sys2Proof.Machine.execSeqStop lane rest s
  | .seqSkip lane rest => Sys2Proof.Machine.execSeqSkip lane rest s
  | .seqContinue lane rest => Sys2Proof.Machine.execSeqContinue lane rest s
  | .doneRead lane rest => Sys2Proof.Machine.execDoneRead lane rest s
  | .sourceGain lane rest => Sys2Proof.Machine.execSourceGain lane rest s
  | .sourceOn lane rest => Sys2Proof.Machine.execSourceOn lane rest s
  | .sourceOff lane rest => Sys2Proof.Machine.execSourceOff lane rest s
  | .sourceTake lane rest => Sys2Proof.Machine.execSourceTake lane rest s
  | .sourceRelease lane rest => Sys2Proof.Machine.execSourceRelease lane rest s
  | .breakIn lane rest => Sys2Proof.Machine.execBreakIn lane rest s
  | .resume lane rest => Sys2Proof.Machine.execResume lane rest s
  | .lineAnswer lane rest => Sys2Proof.Machine.execLineAnswer lane rest s
  | .lineScreen lane rest => Sys2Proof.Machine.execLineScreen lane rest s
  | .lineHold lane rest => Sys2Proof.Machine.execLineHold lane rest s
  | .lineReady lane rest => Sys2Proof.Machine.execLineReady lane rest s
  | .lineAir lane rest => Sys2Proof.Machine.execLineAir lane rest s
  | .lineDrop lane rest => Sys2Proof.Machine.execLineDrop lane rest s
  | .ringFilterArmed n => Sys2Proof.Machine.execRingFilterArmed n s
  | .ringBurst n => Sys2Proof.Machine.execRingBurst n s
  | .ringExpiry n => Sys2Proof.Machine.execRingExpiry n s
  | .loopLoss n => Sys2Proof.Machine.execLoopLoss n s
  | .holdLong n => Sys2Proof.Machine.execHoldLong n s
  | .delayTarget lane rest => Sys2Proof.Machine.execDelayTarget lane rest s
  | .delayDump lane rest => Sys2Proof.Machine.execDelayDump lane rest s
  | .alertNotice lane rest => Sys2Proof.Machine.execAlertNotice lane rest s
  | .windowExpiry id => Sys2Proof.Machine.execWindowExpiry id s
  | .attentionEnd => Sys2Proof.Machine.execAttentionEnd s
  | .messageTruncated => Sys2Proof.Machine.execMessageTruncated s
  | .alertAudioEnd lane rest => Sys2Proof.Machine.execAlertAudioEnd lane rest s
  | .alertCancel lane rest => Sys2Proof.Machine.execAlertCancel lane rest s
  | .alertRearm lane rest => Sys2Proof.Machine.execAlertRearm lane rest s
  | .alertEnd => Sys2Proof.Machine.execAlertEnd s
  | .logRead lane rest => Sys2Proof.Machine.execLogRead lane rest s
  | .signOn lane rest => Sys2Proof.Machine.execSignOn lane rest s
  | .signOff lane rest => Sys2Proof.Machine.execSignOff lane rest s
  | .wakeEnable lane rest => Sys2Proof.Machine.execWakeEnable lane rest s
  | .blockJudged => Sys2Proof.Machine.execBlockJudged s
  | .frameBoundary => Sys2Proof.Machine.execFrameBoundary s
  | .pollTimerExpiry => Sys2Proof.Machine.execPollTimerExpiry s
  | .replyWindowClose => Sys2Proof.Machine.execReplyWindowClose s
  | .returnCharacter w => Sys2Proof.Machine.execReturnCharacter w s
  | .assemblerTake => Sys2Proof.Machine.execAssemblerTake s
  | .txSelect lane rest => Sys2Proof.Machine.execTxSelect lane rest s
  | .ceilingRestore lane rest => Sys2Proof.Machine.execCeilingRestore lane rest s
  | .transactionStart lane => Sys2Proof.Machine.execTransactionStart lane s
  | .readOnlyTransaction lane bytes => Sys2Proof.Machine.execReadOnlyTransaction lane bytes s
  | .laneTimeout lane => Sys2Proof.Machine.execLaneTimeout lane s
  | .nop lane rest => Sys2Proof.Machine.execNop lane rest s
  | .statusRead lane rest => Sys2Proof.Machine.execStatusRead lane rest s
  | .eventEnable lane rest => Sys2Proof.Machine.execEventEnable lane rest s
  | .eventClear lane rest => Sys2Proof.Machine.execEventClear lane rest s
  | .clockWrap f => Sys2Proof.Machine.execClockWrap f s
  | .profileRead lane rest => Sys2Proof.Machine.execProfileRead lane rest s
  | .profileWrite lane eng rest => Sys2Proof.Machine.execProfileWrite lane eng rest s
  | .profileWriteComplete => Sys2Proof.Machine.execProfileWriteComplete s
  | .unknownRequestCode lane code rest => Sys2Proof.Machine.execUnknownRequestCode lane code rest s

end Sys2Proof.Machine
end

