-- ==== Sys2Proof/Safety.lean ====
section
/-! DEFINITION. What counts as a safe run, in the terms the statements use: the words in which they speak of a request and its
reply, and the invariants that every step keeps. -/

namespace Sys2Proof.Machine

/-! ### Requests and replies -/

/-- A lane takes a request: it does not wait for a rise of LSEL, no request of it is in flight, no bit of the transaction has been
clocked by mixes, so that its command brings it whole, and power-on is not held (R163, R166, R169, R188; log 2). -/
def State.listens (s : State) (l : LaneId) : Prop :=
  (s.lane l).phase ≠ .waitRise ∧ (s.lane l).inFlight = false ∧ (s.lane l).bits = [] ∧ s.pf.held = false

/-- The bytes of a transaction after byte 0 carry a body: the length byte, the body, and bytes that are ignored (R163, R173). -/
def carries (rest body : List Byte) : Prop :=
  body.length ≤ 60 ∧ ∃ more, rest = BitVec.ofNat 8 body.length :: (body ++ more)

/-- A lane asks: it takes the request whose bytes after byte 0 are `rest`, and they carry `body`. -/
def State.asks (s : State) (l : LaneId) (rest body : List Byte) : Prop := s.listens l ∧ carries rest body

/-- The lanes once a transaction of those complete bytes has ended on a lane. -/
def State.lanesHeard (s : State) (l : LaneId) (bytes : List Byte) : PerLane Lane := s.cl.set l ((s.lane l).finish bytes)

/-- The lanes once that transaction has ended and its request has been answered (R167, R168). -/
def State.replied (s : State) (l : LaneId) (bytes : List Byte) (c : ReplyCode) (body : List Byte) : PerLane Lane :=
  s.cl.set l (((s.lane l).finish bytes).place c body)

/-- A command's answer is a state. -/
def completes (c : Instr) (s t : State) : Prop := exec c s = .next t

/-- A request is answered with a code and an empty body, and nothing but its lane changes. -/
def turnedAway (i : Instr) (s : State) (l : LaneId) (bytes : List Byte) (c : ReplyCode) : Prop :=
  completes i s { s with cl := s.replied l bytes c [] }

/-- No pending alert waits for a break opportunity, and none is signalled. -/
def State.noBreakTaken (s : State) : Prop := s.al.table = [] ∧ s.sq.breakSignal = false

/-- A break opportunity has still to be given: one stands signalled, or the head has reached its segue point while RUNNING and the
point has not been taken (R47; log 43). -/
def State.breakDue (s : State) : Prop :=
  s.sq.breakSignal = true ∨ s.sq.state = .running ∧ s.headAtSegue = true ∧ s.sq.segueTaken = false

/-- A push of a FAILOVER or a REMOTE_FALLBACK leaves no alert on the air: it gives no break opportunity, or none that gives the air
(R47, R118). -/
def State.pushGivesNoAir (s : State) : Prop :=
  ¬ s.breakDue ∨ s.al.armed = false ∨ s.air.state = .alertWake ∨
    ∀ p, s.al.table.head? = some p → p.due = true

/-- The log record of a pending alert, its number given when it is written (R128). -/
def PendingAlert.record (p : PendingAlert) (out : LogOutcome) : LogRecord :=
  { number := 0, id := p.id, cls := p.cls, originator := p.originator, outcome := out, arrival := p.arrival, airing := none }

/-- The log record of the on-air alert that ends at an air clock, with its start and its duration in milliseconds (R128). -/
def OnAirAlert.record (x : OnAirAlert) (now : Clock) (out : LogOutcome) : LogRecord :=
  { number := 0, id := x.id, cls := x.cls, originator := x.originator, outcome := out, arrival := x.arrival
    airing := some { start := x.start, ms := (now - x.start).toNat / 48 } }

/-- The alert unit once records have been written in their order: each takes the number the record counter stands at, modulo 65,536,
and is counted; the log keeps the newest 32, newest first, and each one lost is counted (R128, R129). -/
def AlertUnit.logged (a : AlertUnit) (rs : List LogRecord) : AlertUnit :=
  { a with
    log := ((rs.mapIdx fun k r => { r with number := (a.recordCounter.toNat + k) % 65536 : LogRecord }).reverse ++ a.log).take 32
    recordCounter := a.recordCounter + BitVec.ofNat 32 rs.length
    logOverwrites := countUp^[rs.length - (32 - a.log.length)] a.logOverwrites }

/-- The characters with which a command to the bearer of a role enters the queue; none where no unit bears it (R150). -/
def Link.charsTo (l : Link) (r : Role) (op : SiteOp) : List SiteChar :=
  ((l.bearer r).map fun u => ({ unit := u, op := op } : SiteCommand).chars).getD []

/-- An item is the stored form of its 18 bytes (R26, R174): times in samples, every value clamped, and a LIVE item without them. -/
def Item.storedFrom (i : Item) (i1 i0 k p l3 l2 l1 l0 g3 g2 g1 g0 fi1 fi0 fo1 fo0 v1 v0 : Byte) : Prop :=
  i.id = word16 i1 i0 ∧ i.skipped = false ∧
    i.kind = (if k.toNat = 0 then .music else if k.toNat = 1 then .speech else if k.toNat = 2 then .spot else .live) ∧
    (k.toNat = 3 → i.length = none ∧ i.segue = 0 ∧ i.fadeIn = 0 ∧ i.fadeOut = 0 ∧ i.gain = 0) ∧
    (k.toNat < 3 →
      i.length = (if p.getLsbD 0 then some (max 1 (min (word32 l3 l2 l1 l0) 3600000) * 48) else none) ∧
      i.segue = min (if p.getLsbD 1 then word32 g3 g2 g1 g0 * 48 else 0)
        (i.length.getD (if p.getLsbD 1 then word32 g3 g2 g1 g0 * 48 else 0)) ∧
      i.fadeIn = min (word16 fi1 fi0) 10000 * 48 ∧
      i.fadeOut = min (min (word16 fo1 fo0) 10000 * 48) (i.length.getD (min (word16 fo1 fo0) 10000 * 48)) ∧
      i.gain = min (word16 v1 v0) 16384)

/-- An entry restored at a pop from its saved entry, over the saved remaining count and the preempt fade in samples; one that the
console has taken since the push is left (R64, R65). -/
def Entry.restoredFrom (x : Entry) (e : EntrySnapshot) (fade : Nat) : Entry :=
  let len := min (e.remaining + fade) 480000
  let y : Entry := { x with target := e.target, faded := e.faded && decide (e.target = 0) }
  if x.controller = .con ∧ e.controller ≠ .con then x
  else
    match e.state with
    | .live => { y with state := .live, remaining := len, current := if len = 0 then e.target else x.current }
    | .releasing => { y with state := .releasing, remaining := len, current := if len = 0 then 0 else x.current }
    | .off => y.setReleasing len

/-- What every push does, from a state to a state, and what none touches (R52, R53, R46): the record on top of the newest seven, an
eighth one lost counted, and no line marked in it as gone since (log 9); the decks paused where they stand; a segue point that the head
has reached taken (log 43); the list, the tail, the done list, the caller queue, the rest of the bus,
the profile, the output slots, the enables and the air clock as they were. -/
def State.pushesTo (s t : State) (r : Context) : Prop :=
  t.ps = { s.ps with records := r :: s.ps.records.take 7
                     overflow := if s.ps.records.length < 8 then s.ps.overflow else countUp s.ps.overflow } ∧
  r.pushedAt = s.ev.clock ∧ r.delayMode = s.du.mode ∧ (∀ n, r.gone.get n = false) ∧
  (∀ d, t.deck d = { s.deck d with
    state := if (s.deck d).state = .playing ∨ (s.deck d).state = .tailing then .paused else (s.deck d).state }) ∧
  t.sq.list = s.sq.list ∧ t.sq.tail = s.sq.tail ∧ t.sq.done = s.sq.done ∧ t.sq.doneOverflow = s.sq.doneOverflow ∧
  t.sq.liveStart = s.sq.liveStart ∧ t.sq.segueTaken = (s.sq.segueTaken || (s.sq.state = .running && s.headAtSegue)) ∧
  t.lc.queue = s.lc.queue ∧ t.lc.missed = s.lc.missed ∧ t.pb = { s.pb with roster := t.pb.roster } ∧ t.pf = s.pf ∧ t.ap = s.ap ∧
  t.ev.enable = s.ev.enable ∧ t.ev.clock = s.ev.clock

/-- A pending alert has taken the air of a station, from a state to a state, leaving a table (R117, R120 to R122): ATTENTION begins
with both accumulators at 0, an ALERT record stands on the stack, every entry is OFF, no line is ON_AIR and every seized one has the
alert feed, no deck runs, the sequencer is PREEMPTED, the delay FROZEN, and PREEMPT and ALERT_START are raised. -/
def State.givesAirTo (s t : State) (p : PendingAlert) (table : List PendingAlert) : Prop :=
  t.al = { s.al with
    table := table
    onAir := some { id := p.id, cls := p.cls, originator := p.originator, audio := p.audio, maxDuration := p.maxDuration
                    arrival := p.arrival, start := s.ev.clock, phase := .attention, count := 0
                    attention := s.pf.working.attention * 48000, ending := none }
    p1 := 0#32
    p2 := 0#32 } ∧
  (∃ r, s.pushesTo t r ∧ r.cause = .alert ∧ r.onAirLines = [LineId.l1, .l2, .l3, .l4].filter (fun n => (s.line n).state = .onAir)) ∧
  (∀ src, t.entry src = { s.entry src with state := .off, current := 0, remaining := 0 }) ∧
  (∀ n, (s.line n).state ≠ .onAir → t.line n = { s.line n with feed := if (s.line n).state.seized then .alert else .hold }) ∧
  (∀ n, (s.line n).state = .onAir → (t.line n).state = .hold ∧ (t.line n).seize = true ∧ (t.line n).feed = .alert ∧
    (t.line n).holdStart = some s.ev.clock ∧ (t.line n).holdLong = false) ∧
  t.sq.state = .preempted ∧ t.du = { s.du with mode := .frozen, step := 0 } ∧
  ∀ l, t.ev.status.get l &&& EventKind.preempt.set ≠ 0#29 ∧ t.ev.status.get l &&& EventKind.alertStart.set ≠ 0#29

/-- A push of a FAILOVER or a REMOTE_FALLBACK, from a state to a state (R56, R57): a record of that cause on the stack, FBK set LIVE toward
16384 and every other entry releasing over the preempt fade, lines off the air in HOLD, decks paused, the sequencer PREEMPTED, PREEMPT
raised. -/
def State.fallsBackTo (s t : State) (c : Cause) : Prop :=
  (∃ r, s.pushesTo t r ∧ r.cause = c ∧ r.seqState = s.sq.state) ∧
  t.entry .fbk = { s.entry .fbk with target := 16384 : Entry }.setLive (min s.pf.working.preemptFade 10000 * 48) ∧
  (∀ src, src ≠ .fbk → t.entry src = (s.entry src).setReleasing (min s.pf.working.preemptFade 10000 * 48)) ∧
  (∀ n, (s.line n).state ≠ .onAir → t.line n = s.line n) ∧
  (∀ n, (s.line n).state = .onAir → (t.line n).state = .hold ∧ (t.line n).seize = true ∧
    (t.line n).holdStart = some s.ev.clock ∧ (t.line n).holdLong = false) ∧
  t.sq.state = .preempted ∧ t.al = s.al ∧ t.du = s.du ∧ ∀ l, t.ev.status.get l &&& EventKind.preempt.set ≠ 0#29

/-- The whole sign-off of R138 with no alert pending, from a state to a state: OFF_AIR, every entry OFF, the decks paused and the
sequencer STOPPED, a segue point that the head has reached taken (log 43), every seized line dropped and the queue empty, the store flushed, AIR_STATE and CARRIER-OFF, the silence run at 0. -/
def State.signsOffTo (s t : State) : Prop :=
  t.air = { s.air with state := .offAir, monitor := { s.air.monitor with run := 0 } } ∧
  (∀ src, t.entry src = { s.entry src with state := .off, current := 0, remaining := 0 }) ∧
  t.pb.duck = s.pb.duck ∧ t.pb.ceilingLowered = s.pb.ceilingLowered ∧ t.pb.clipCount = s.pb.clipCount ∧
  t.pb.ceilingHits = s.pb.ceilingHits ∧
  t.sq = { s.sq with
    deckA := if s.sq.deckA.state = .playing ∨ s.sq.deckA.state = .tailing then { s.sq.deckA with state := .paused }
             else s.sq.deckA
    deckB := if s.sq.deckB.state = .playing ∨ s.sq.deckB.state = .tailing then { s.sq.deckB with state := .paused }
             else s.sq.deckB
    state := .stopped
    segueTaken := s.sq.segueTaken || (s.sq.state = .running && s.headAtSegue) } ∧
  (∀ n, (s.line n).seize = false → t.line n = s.line n) ∧
  (∀ n, (s.line n).seize = true →
    t.line n = { s.line n with state := .idle, seize := false, ringTimer := none, holdStart := none, holdLong := false
                               feed := .hold, loopLow := 0 }) ∧
  t.lc.queue = [] ∧ t.lc.missed = s.lc.missed ∧
  t.du = { s.du with store := [], lastOut := { l := 0, r := 0 }, step := 0
                     mode := if 0 < s.du.target then .building else .idle } ∧
  t.tl = s.tl.commandRole s.tl.active.role .carrierOff ∧
  t.ev = (if s.lc.queue = [] then s.ev else s.ev.raise .queueChange).raise .airState ∧
  t.al = s.al ∧ t.ps = s.ps ∧ t.pf = s.pf ∧ t.ap = s.ap

/-- A profile field that is a number: its code, its size in bytes, its lowest and highest value, and its place in a copy (R185). -/
structure NumberField where
  code : Byte
  size : Nat
  low : Nat
  high : Nat
  put : Profile → Nat → Profile

/-- The profile fields that are numbers, in code order (R185). -/
def numberFields : List NumberField :=
  [⟨0x01#8, 1, 0, 255, fun p x => { p with stationCode := x }⟩, ⟨0x03#8, 2, 0, 16384, fun p x => { p with duckDepth := x }⟩,
   ⟨0x04#8, 2, 0, 10000, fun p x => { p with duckAttack := x }⟩, ⟨0x05#8, 2, 0, 10000, fun p x => { p with duckRelease := x }⟩,
   ⟨0x06#8, 2, 0, 16384, fun p x => { p with holdGain := x }⟩, ⟨0x07#8, 2, 0, 10000, fun p x => { p with takeFade := x }⟩,
   ⟨0x08#8, 2, 0, 10000, fun p x => { p with preemptFade := x }⟩, ⟨0x09#8, 2, 0, 30000, fun p x => { p with reprise := x }⟩,
   ⟨0x0B#8, 4, 0, 8388607, fun p x => { p with silenceThreshold := x }⟩, ⟨0x0C#8, 1, 2, 120, fun p x => { p with silenceLimit := x }⟩,
   ⟨0x0D#8, 4, 0, 8388607, fun p x => { p with ceiling := x }⟩, ⟨0x10#8, 2, 0, 4000, fun p x => { p with dumpSize := x }⟩,
   ⟨0x11#8, 2, 0, 4000, fun p x => { p with startTarget := x }⟩, ⟨0x12#8, 1, 1, 25, fun p x => { p with attention := x }⟩,
   ⟨0x13#8, 2, 0, 16384, fun p x => { p with toneLevel := x }⟩, ⟨0x14#8, 2, 0, 16384, fun p x => { p with alertGain := x }⟩,
   ⟨0x18#8, 1, 0, 2, fun p x => { p with startDelay := x }⟩, ⟨0x19#8, 1, 1, 255, fun p x => { p with returnN := x }⟩,
   ⟨0x1A#8, 1, 0, 15, fun p x => { p with returnF := x }⟩, ⟨0x1B#8, 2, 50, 1000, fun p x => { p with pollPeriod := x }⟩,
   ⟨0x1E#8, 2, 1, 3600, fun p x => { p with holdLimit := x }⟩, ⟨0x1F#8, 1, 10, 120, fun p x => { p with ringTimeout := x }⟩]

/-- A role code as stored: one above the largest is the largest (R185, R187). -/
def roleStored (b : Byte) : Role :=
  if b = 0#8 then .mainTx else if b = 1#8 then .standbyTx else if b = 2#8 then .siteControl else .unused

/-- A duck class code as stored: one above the largest is the largest (R185, R187). -/
def classStored (b : Byte) : DuckClass := if b = 0#8 then .ducked else if b = 1#8 then .ducker else .neither

/-- A value of the right length for the field of a code, and what it makes of a profile copy, clamped (R185, R187): a number at the
nearer end of its range, an enumerated code above the largest as the largest, the build divisor as the largest of its four not above
the value, or 16 (R106), of a set or clear field bit 0, and of the wake enables bits 0 to 2 (R174, R175; log 24). -/
def fieldWrites (c : Byte) (v : List Byte) (f : Profile → Profile) : Prop :=
  (∃ e ∈ numberFields, c = e.code ∧ v.length = e.size ∧
    f = fun p => e.put p (max e.low (min e.high (v.foldl (fun a b => a * 256 + b.toNat) 0)))) ∨
  (∃ n rs, c = 0x02#8 ∧ v = n :: rs.flatMap (bytesOf 2) ∧ n.toNat = rs.length ∧ rs.length ≤ 8 ∧ (∀ r ∈ rs, r < 65536) ∧
    f = fun p => { p with regions := rs }) ∨
  (∃ b, v = [b] ∧
    (c = 0x0A#8 ∧ f = (fun p => { p with afterAlert := if b = 0#8 then .goOn else if b = 1#8 then .next else .reprise }) ∨
     c = 0x0E#8 ∧ f = (fun p => { p with ceilingOnReflect := b.getLsbD 0 }) ∨
     c = 0x0F#8 ∧ f = (fun p => { p with
       buildDivisor := if 128 ≤ b.toNat then 128 else if 64 ≤ b.toNat then 64 else if 32 ≤ b.toNat then 32 else 16 }) ∨
     c = 0x15#8 ∧ f = (fun p => { p with airTests := b.getLsbD 0 }) ∨
     c = 0x16#8 ∧ f = (fun p => { p with
       wake := { autSignOn := b.getLsbD 0, remoteSignOn := b.getLsbD 1, alertWake := b.getLsbD 2 } }) ∨
     c = 0x17#8 ∧ f = (fun p => { p with startState := if b = 0#8 then .offAir else .onAir }) ∨
     c = 0x1D#8 ∧ f = (fun p => { p with autoChangeover := b.getLsbD 0 }))) ∨
  (∃ b0 b1 b2 b3, c = 0x1C#8 ∧ v = [b0, b1, b2, b3] ∧
    f = fun p => { p with roles := { u0 := roleStored b0, u1 := roleStored b1, u2 := roleStored b2, u3 := roleStored b3 } }) ∨
  (∃ b0 b1 b2 b3 b4 b5 b6 b7, c = 0x20#8 ∧ v = [b0, b1, b2, b3, b4, b5, b6, b7] ∧
    f = fun p => { p with
      duckClasses := { pla := classStored b0, plb := classStored b1, mic := classStored b2, fbk := classStored b3
                       ln1 := classStored b4, ln2 := classStored b5, ln3 := classStored b6, ln4 := classStored b7 } })

/-- What R161 asks of the unit table: the main unit LOST or faulted, and the standby unit PRESENT. -/
def Link.mainDown (l : Link) : Prop :=
  ∃ m b, l.bearer .mainTx = some m ∧ l.bearer .standbyTx = some b ∧ (l.units.get b).presence = .present ∧
    ((l.units.get m).presence = .lost ∨ ∃ st, (l.units.get m).last = some st ∧ st.flags.getLsbD 1 = true)

/-- Nothing is due from the sample period before (log 6), and power-on is not held. -/
def State.settled (s : State) : Prop := s.settle = s ∧ s.pf.held = false

/-- Power-on is held: every block stands at its power-on value around the non-volatile copy, and a lane shows only the level of its LSEL
(R188; log 33). -/
def State.isHeld (s : State) : Prop :=
  (∀ l, s.lane l = { Lane.initial with phase := (s.lane l).phase } ∧ (s.lane l).phase ≠ .inTransaction) ∧
    s = { State.reset with
      pending := s.pending
      cl := s.cl
      pf := { working := factory, stored := s.pf.stored, valid := s.pf.valid, load := some 96, write := none, held := true } }

/-- A run of commands that ends with its queue taken, as far as it goes: no command stops the part. -/
def SafeRun : Nat → State → Prop
  | 0, _ => True
  | k + 1, s => ∃ t, step s = .next t ∧ SafeRun k t

/-! ### Invariants -/

/-- A property of states that every step keeps. -/
def Kept (inv : State → Prop) : Prop := ∀ s t : State, inv s → step s = .next t → inv t

/-- The notice count identity of R130: the notices counted are logged, pending or on air, modulo 2^32. -/
def AlertUnit.balanced (a : AlertUnit) : Prop :=
  a.noticeCounter = a.recordCounter + BitVec.ofNat 32 (a.table.length + a.onAir.toList.length)

/-- The notice count identity, of a state. -/
def State.noticesBalance (s : State) : Prop := s.al.balanced

/-- No collection outgrows its place: the stack 8 records, the done list 8, the pending table 8, the alert log 32, the site send
queue 16 characters, the return FIFO 4 (R48, R50, R112, R128, R150, R154). -/
def State.collectionsFit (s : State) : Prop :=
  s.ps.records.length ≤ 8 ∧ s.sq.done.length ≤ 8 ∧ s.al.table.length ≤ 8 ∧ s.al.log.length ≤ 32 ∧
    s.tl.sendQueue.length ≤ 16 ∧ s.tl.fifo.length ≤ 4

/-- The air sequence holds at most 32 items, and no two items of the list and the tail slot share an id (R27). -/
def State.sequenceSound (s : State) : Prop :=
  s.sq.list.length ≤ 32 ∧ ((s.sq.list ++ s.sq.tail.toList).map (·.id)).Nodup

/-- A deck record is what its state says (R31): FREE exactly without an item, position 0 while FREE, CUEING or READY; PLAYING with the
head, TAILING with the item of the tail slot, PAUSED with either, CUEING or READY with an item of the list; never with a LIVE item. -/
def State.deckBound (s : State) (d : DeckId) : Prop :=
  ((s.deck d).item = none ↔ (s.deck d).state = .free) ∧
    ((s.deck d).state = .free ∨ (s.deck d).state = .cueing ∨ (s.deck d).state = .ready → (s.deck d).position = 0) ∧
    ∀ id, (s.deck d).item = some id →
      ((s.deck d).state = .playing → s.sq.list.head?.map (·.id) = some id) ∧
      ((s.deck d).state = .tailing → s.sq.tail.map (·.id) = some id) ∧
      ((s.deck d).state = .paused → s.sq.list.head?.map (·.id) = some id ∨ s.sq.tail.map (·.id) = some id) ∧
      ((s.deck d).state = .cueing ∨ (s.deck d).state = .ready → id ∈ s.sq.list.map (·.id)) ∧
      ∀ i ∈ s.sq.list ++ s.sq.tail.toList, i.id = id → i.kind ≠ .live

/-- The decks and the items (R27, R31): each deck is what its state says, no item is on both decks, and the item of the tail slot is on
one. With it, what makes it stand from step to step: RUNNING and HALTED need an empty stack, a HALTED head is LIVE (R40), also where
the bottom record saved the halt, and every record above the bottom saved STOPPED or PREEMPTED (R46). -/
def State.decksSound (s : State) : Prop :=
  s.sequenceSound ∧ (∀ d, s.deckBound d) ∧ (∀ id, ¬ (s.sq.deckA.item = some id ∧ s.sq.deckB.item = some id)) ∧
    (∀ i, s.sq.tail = some i → s.sq.deckA.item = some i.id ∨ s.sq.deckB.item = some i.id) ∧
    (s.sq.state = .running ∨ s.sq.state = .halted → s.ps.records = []) ∧
    (s.sq.state = .halted ∨ s.ps.records.getLast?.map (·.seqState) = some .halted →
      ∃ h, s.sq.list.head? = some h ∧ h.kind = .live) ∧
    ∀ r ∈ s.ps.records.dropLast, r.seqState = .stopped ∨ r.seqState = .preempted

/-- A profile copy gives a delay target in range (R185). -/
def Profile.targetInRange (p : Profile) : Prop := p.startTarget ≤ 4000

/-- Every profile copy the store holds or is writing gives a delay target in range. -/
def ProfileStore.targetsInRange (p : ProfileStore) : Prop :=
  p.working.targetInRange ∧ p.stored.targetInRange ∧ ∀ w, p.write = some w → w.image.targetInRange

/-- The delay keeps its limits: T and the pending target within 4,000 blocks, the store within its capacity, and while BUILDING
fewer pairs than T (R91, R92, R96). -/
def State.delaySound (s : State) : Prop :=
  s.pf.targetsInRange ∧ s.du.target ≤ 1920000 ∧ (∀ t, s.du.pendingTarget = some t → t ≤ 1920000) ∧
    s.du.store.length ≤ 1920000 ∧ (s.du.mode = .building → s.du.store.length < s.du.target)

/-- What a line record shows follows its state: seize, the feed select, the ring timer (R70, R84). -/
def LineRec.sound (r : LineRec) (alert : Bool) : Prop :=
  r.seize = r.state.seized ∧ r.feed = r.state.feedIn alert ∧ (r.ringTimer.isSome ↔ r.state = .ringing)

/-- The lines: the caller queue holds exactly the READY lines, each once; every record is sound; at most two lines are ON_AIR,
and none while an alert phase is active, when the ALERT record stands on top of the stack (R82, R83, R84, R88). -/
def State.linesSound (s : State) : Prop :=
  s.lc.queue.Nodup ∧ (∀ n, n ∈ s.lc.queue ↔ (s.line n).state = .ready) ∧ (∀ n, (s.line n).sound s.alertActive) ∧
    s.lc.onAirCount ≤ 2 ∧ (s.alertActive = true → s.lc.onAirCount = 0 ∧ s.topCause = some .alert)

/-- A roster entry lies within its ranges (R1, R8, R9). -/
def Entry.inRange (e : Entry) : Prop := e.target ≤ 16384 ∧ e.current ≤ 16384 ∧ e.remaining ≤ 480000

/-- An item's gain and fades lie within their ranges (R26). -/
def Item.inRange (i : Item) : Prop := i.gain ≤ 16384 ∧ i.fadeIn ≤ 480000 ∧ i.fadeOut ≤ 480000

/-- Every fader of the roster, of every saved roster and of every item lies within its range (R8, R9). -/
def State.levelsInRange (s : State) : Prop :=
  (∀ src, (s.entry src).inRange) ∧ (∀ i ∈ s.sq.list ++ s.sq.tail.toList, i.inRange) ∧
    ∀ r ∈ s.ps.records, ∀ src, (r.roster.get src).target ≤ 16384

/-- Between steps no break opportunity stands signalled: it is given or lost in the step that signals it (R47; log 9). -/
def State.noSignalStands (s : State) : Prop := s.sq.breakSignal = false

end Sys2Proof.Machine
end

