-- ==== Sys2Proof/Certificates/Slice0/Obligations.lean ====
section
/-! DEFINITION. The statements for the provers: what the numbered rules of the spec say of each command and of the whole part. A
statement about an event of the part says also that the command changes nothing while the event is not due (log 5). -/

open Sys2Proof Sys2Proof.Machine

/-! ### The machine -/

/-- A step is the command at the front of the queue run on the state with the queue's rest; an empty queue idles (the model's
queue, log 1). -/
def Obligations.StepRunsTheFrontCommand : Prop :=
  ∀ (c : Instr) (s : State),
    step { s with pending := c :: s.pending } = exec c s ∧ (s.pending = [] → step s = .next s)

/-- No command touches the queue of waiting commands (log 1).

The non-volatile copy is written by the completion of a PROFILE_WRITE alone, commanded or taken at a mix (log 6): through the 576
sample periods of the write it keeps its contents, and at their end it is the image (log 26). The marker changes only at a PROFILE_WRITE and
at the end of a write, which sets it (R187). No reset and no WAKE_ENABLE reaches either, and a mix with no write due leaves both. -/
def Obligations.QueueAndStoredCopyAreLeftAlone : Prop :=
  (∀ (c : Instr) (s t : State), completes c s t → t.pending = s.pending) ∧
  (∀ (c : Instr) (s t : State), completes c s t →
     (∀ f, c ≠ .mix f ∧ c ≠ .buildStep f ∧ c ≠ .catchUpStep f ∧ c ≠ .clockWrap f) → c ≠ .profileWriteComplete →
       t.pf.stored = s.pf.stored ∧ ((∀ l e r, c ≠ .profileWrite l e r) → t.pf.valid = s.pf.valid)) ∧
  (∀ (c : Instr) (s t : State), completes c s t → (∀ w, s.pf.write = some w → w.left ≠ 0) →
     t.pf.stored = s.pf.stored ∧ ((∀ l e r, c ≠ .profileWrite l e r) → t.pf.valid = s.pf.valid)) ∧
  (∀ (f : InputFrame) (s : State) (w : StoreWrite), s.pf.held = false → s.pf.write = some w → w.left = 0 →
     ∃ t, completes (.mix f) s t ∧ t.pf.stored = w.image ∧ t.pf.valid = true ∧ t.pf.write = none)

/-- The air clock is 0 at power-on, advances by one at every MIX, and is changed by no command that is no mix (R182). While power-on is
held it stands (R188; log 33). -/
def Obligations.AirClockAdvancesByMixesAlone : Prop :=
  ∀ (c : Instr) (s t : State), completes c s t →
    (∀ rst supply, c = .powerOn rst supply → t.ev.clock = 0#32) ∧
      (∀ f, c = .mix f → t.ev.clock = if s.pf.held then s.ev.clock else s.ev.clock + 1#32) ∧
      ((∀ rst supply, c ≠ .powerOn rst supply) → (∀ f, c ≠ .mix f ∧ c ≠ .buildStep f ∧ c ≠ .catchUpStep f ∧ c ≠ .clockWrap f) →
        t.ev.clock = s.ev.clock)

/-! ### Reset and start -/

/-- What the spec gives for power-on, register by register. The non-volatile copy of a part as delivered is the model's choice
(log 12) and is not part of this statement. -/
def Obligations.ResetHoldsThePowerOnValues : Prop :=
  (∀ src : Source, (State.reset.entry src).state = .off ∧ (State.reset.entry src).current = 0 ∧
      (State.reset.entry src).remaining = 0 ∧ (State.reset.entry src).target = 16384 ∧ (State.reset.entry src).bound = none ∧
      ((State.reset.entry src).controller = .aut ↔ src = .pla ∨ src = .plb ∨ src = .fbk)) ∧
    State.reset.pb.duck.present = 16384 ∧ State.reset.pb.duck.aim = 16384 ∧ State.reset.pb.duck.remaining = 0 ∧
    State.reset.pb.ceilingLowered = false ∧ State.reset.pb.clipCount = 0 ∧ State.reset.pb.ceilingHits = 0 ∧
    State.reset.sq.list = [] ∧ State.reset.sq.tail = none ∧ State.reset.sq.state = .stopped ∧ State.reset.sq.done = [] ∧
    (∀ d : DeckId, (State.reset.deck d).state = .free ∧ (State.reset.deck d).item = none ∧
      (State.reset.deck d).position = 0 ∧ (State.reset.deck d).startedAt = none) ∧
    State.reset.ps.records = [] ∧ State.reset.ps.overflow = 0 ∧ State.reset.ps.lastResume = none ∧
    (∀ n : LineId, (State.reset.line n).state = .idle ∧ (State.reset.line n).seize = false ∧
      (State.reset.line n).ringTimer = none ∧ (State.reset.line n).holdStart = none ∧ (State.reset.line n).feed = .hold) ∧
    State.reset.lc.queue = [] ∧ State.reset.lc.missed = 0 ∧
    State.reset.du.store = [] ∧ State.reset.du.target = 0 ∧ State.reset.du.pendingTarget = none ∧
    State.reset.du.mode = .idle ∧ State.reset.du.dumps = 0 ∧
    State.reset.al.table = [] ∧ State.reset.al.onAir = none ∧ State.reset.al.armed = true ∧ State.reset.al.log = [] ∧
    State.reset.al.recordCounter = 0#32 ∧ State.reset.al.noticeCounter = 0#32 ∧
    State.reset.air.state = .starting ∧ State.reset.air.signOnPending = false ∧ State.reset.air.monitor.run = 0 ∧
    State.reset.tl.sendQueue = [] ∧ State.reset.tl.holder = none ∧ State.reset.tl.active = .main ∧
    State.reset.tl.frameNumber = 0 ∧ State.reset.tl.turn = .u0 ∧ State.reset.tl.window = none ∧ State.reset.tl.fifo = [] ∧
    (∀ l : LaneId, (State.reset.lane l).rx = [] ∧ (State.reset.lane l).reply = none ∧
      (State.reset.lane l).inFlight = false ∧ (State.reset.lane l).collision = false ∧ (State.reset.lane l).errors = 0 ∧
      State.reset.ev.status.get l = 0#29 ∧ State.reset.attention l = false) ∧
    State.reset.ev.clock = 0#32 ∧ State.reset.pf.working = factory ∧ State.reset.pf.valid = false ∧
    State.reset.pf.load = some 96 ∧ State.reset.pf.held = false

/-- Every invariant stated below holds right after reset. -/
def Obligations.InvariantsHoldAtReset : Prop :=
  State.reset.noticesBalance ∧ State.reset.collectionsFit ∧ State.reset.sequenceSound ∧ State.reset.delaySound ∧
    State.reset.linesSound ∧ State.reset.levelsInRange ∧ State.reset.noSignalStands ∧ State.reset.decksSound

/-- POWER_ON from any state: every block at its power-on value, but the non-volatile copy with its marker, and a lane whose LSEL
is low waits for its rise (R170, R188; log 13). With RST low, or the supply below its threshold, power-on is then held; with both high it
is complete, at air clock 0 and STARTING (R188).

While it is held (R188) no frame is formed, RUN and SEIZE are low, the attention lines and LDO are released and no output pair is given; the
lanes take no transaction, and of a lane only the level of LSEL is followed: a fall leaves the lane waiting for the rise, and the rise, with
whatever came before it, leaves it as it is at power-on. Every other command but POWER_ON changes nothing, which is the model's choice for
a mix and for the return line (log 33). -/
def Obligations.PowerOnTakesEveryBlock : Prop :=
  (∀ (s : State) (rst supply : Bool) (t : State),
     t = { State.reset with
       pending := s.pending
       pf := { working := factory, stored := s.pf.stored, valid := s.pf.valid, load := some 96, write := none
               held := !(rst && supply) }
       cl := { aut := { Lane.initial with phase := if s.cl.aut.phase = .idle then .idle else .waitRise }
               con := { Lane.initial with phase := if s.cl.con.phase = .idle then .idle else .waitRise }
               alr := { Lane.initial with phase := if s.cl.alr.phase = .idle then .idle else .waitRise } } } →
     completes (.powerOn rst supply) s t ∧ (rst = false ∨ supply = false → t.isHeld) ∧
     (rst = true → supply = true → t.pf.held = false ∧ t.ev.clock = 0#32 ∧ t.air.state = .starting)) ∧
  (∀ s : State, s.isHeld →
     s.tl.frame = [] ∧ s.tl.forward = [] ∧ s.ap.airMonitor = { l := 0, r := 0 } ∧ (∀ d, s.runLine d = false) ∧
     (∀ n, (s.line n).seize = false) ∧ (∀ l, s.attention l = false ∧ (s.lane l).ldo = none) ∧
     (∀ l, completes (.transactionStart l) s { s with cl := s.cl.set l { Lane.initial with phase := .waitRise } }) ∧
     (∀ (i : Instr) (l : LaneId) (bytes : List Byte), encodeTransaction i = some (l, bytes) →
       completes i s { s with cl := s.cl.set l { Lane.initial with phase := .idle } }) ∧
     (∀ i : Instr, encodeTransaction i = none → (∀ l, i ≠ .transactionStart l) → (∀ rst supply, i ≠ .powerOn rst supply) →
       completes i s s))

/-- PROFILE_LOAD_COMPLETE at the end of the 96 sample periods: the working copy, PROFILE_DEFAULTED without a marker, T and its
mode, the unit roles, the start-delay timer, and the start state the part will enter, which a PROFILE_WRITE during the start delay no
longer reaches (R188). Before that end it changes nothing (log 5).

START_DELAY_EXPIRY with no alert pending and the main transmitter well: that start state, AIR_STATE, and the carrier command
for the active transmitter (R133, R141). Before the expiry it changes nothing (log 5). -/
def Obligations.StartLoadsTheProfileAndTakesTheAir : Prop :=
  (∀ s : State,
     (s.pf.load ≠ some 0 → completes .profileLoadComplete s s) ∧
     ∀ p : Profile, s.pf.load = some 0 → p = (if s.pf.valid then s.pf.stored else factory) → s.du = .initial factory →
       completes .profileLoadComplete s
         { s with
           pf := { s.pf with working := p, load := none }
           ev := if s.pf.valid then s.ev else s.ev.raise .profileDefaulted
           du := { s.du with target := p.startTarget * 480, mode := if p.startTarget = 0 then .idle else .building }
           tl := { s.tl with units := { u0 := { s.tl.units.u0 with role := p.roles.u0 }
                                        u1 := { s.tl.units.u1 with role := p.roles.u1 }
                                        u2 := { s.tl.units.u2 with role := p.roles.u2 }
                                        u3 := { s.tl.units.u3 with role := p.roles.u3 } } }
           air := { s.air with
             startTimer := some (if p.startDelay = 0 then 12000 else if p.startDelay = 1 then 48000 else 192000)
             startInto := p.startState } }) ∧
  (∀ s : State,
     (s.air.startTimer ≠ some 0 → completes .startDelayExpiry s s) ∧
     (s.air.startTimer = some 0 → s.al.table = [] → s.tl.mainFailed = false → s.air.startInto = .onAir →
       completes .startDelayExpiry s
         { s with air := { s.air with state := .onAir, startTimer := none }
                  ev := s.ev.raise .airState
                  tl := s.tl.commandRole s.tl.active.role .carrierOn }) ∧
     (s.air.startTimer = some 0 → s.al.table = [] → s.air.startInto = .offAir →
       completes .startDelayExpiry s
         { s with air := { s.air with state := .offAir, startTimer := none }
                  ev := s.ev.raise .airState
                  tl := s.tl.commandRole s.tl.active.role .carrierOff }))

/-- GLOBAL_RESET from CON (R189 and the global-reset values of every block), block by block, `p` being the copy it loads. The on-air
alert, then the pending ones in table order, are logged ABORTED, and the log and its counters go on (R131). The link is emptied but for
the pairs gathered, the frame being sent and its last bits (R147; log 37), with its unit table, poll timer, turn, receiver and counts anew; the return
to MAIN and the carrier command of the start state are queued (R133, R157). Every lane is reset, and CON holds the DONE (R170). -/
def Obligations.GlobalResetTakesEveryBlock : Prop :=
  ∀ (s : State) (rest body : List Byte) (p : Profile) (l : Link) (q : List SiteChar) (set : EventSet), s.asks .con rest body →
    s.collectionsFit → p = (if s.pf.valid then s.pf.stored else factory) → l = .initial p →
    q = (if s.tl.active = .standby then l.charsTo .standbyTx .carrierOff ++ l.charsTo .siteControl .goMain else []) ++
      l.charsTo .mainTx (if p.startState = .onAir then .carrierOn else .carrierOff) →
    set = (if s.pf.valid then EventKind.airState.set else EventKind.profileDefaulted.set ||| EventKind.airState.set) →
    completes (.globalReset .con rest) s
      { pending := s.pending
        pb := .initial p
        ap := s.ap
        sq := .initial
        ps := .initial
        lc := .initial
        du := .initial p
        al := { s.al.logged (s.al.onAir.toList.map (·.record s.ev.clock .aborted) ++ s.al.table.map (·.record .aborted)) with
                table := [], onAir := none, armed := true, p1 := 0#32, p2 := 0#32 }
        air := { state := p.startState.air, signOnPending := false, startTimer := none, startInto := p.startState
                 monitor := { phase := 0, peak := 0, clean := true, run := 0, due := false } }
        tl := { pairs := s.tl.pairs, frame := s.tl.frame, forward := s.tl.forward, frameNumber := 0, sendQueue := q, holder := none
                selected := none
                receiver := { n := p.returnN, f := p.returnF, prev := true, place := 0 }
                fifo := [], assembler := none, took := false, window := none
                units := { u0 := { role := p.roles.u0, presence := .unknown, misses := 0, last := none, lastCode := 0#8 }
                           u1 := { role := p.roles.u1, presence := .unknown, misses := 0, last := none, lastCode := 0#8 }
                           u2 := { role := p.roles.u2, presence := .unknown, misses := 0, last := none, lastCode := 0#8 }
                           u3 := { role := p.roles.u3, presence := .unknown, misses := 0, last := none, lastCode := 0#8 } }
                active := .main, reflectSeen := false, pollTimer := p.pollPeriod * 48, turn := .u0
                framing := 0, overrun := 0, stray := 0 }
        cl := { aut := { Lane.initial with phase := if s.cl.aut.phase = .idle then .idle else .waitRise }
                con := { Lane.initial with reply := some { collision := false, lost := false, code := .done, body := [] } }
                alr := { Lane.initial with phase := if s.cl.alr.phase = .idle then .idle else .waitRise } }
        ev := { status := { aut := set, con := set, alr := set }, enable := defaultEnables, clock := s.ev.clock }
        pf := { s.pf with working := p, load := none } } ∧
    (p.roles = { u0 := .mainTx, u1 := .standbyTx, u2 := .siteControl, u3 := .unused } →
      q = (if s.tl.active = .standby then
            [{ marker := true, data := 0xA1#8 }, { marker := false, data := 0x03#8 },
             { marker := true, data := 0xA2#8 }, { marker := false, data := 0x05#8 }] else []) ++
          [{ marker := true, data := 0xA0#8 },
           { marker := false, data := if p.startState = .onAir then 0x02#8 else 0x03#8 }])

/-! ### The word clock -/

/-- MIX completes in every state but a held power-on: the air clock advances, the output pair lies within the ceiling in force, is 0 off
air and at the start, and joins the pairs of the next frame (R17, R22, R23, R147, R182).

With nothing due, no alert on the air and the station ON_AIR or in ALERT_WAKE, the output pair is D, the pair the delay unit gives at that
mix, each channel clamped to plus or minus the ceiling in force (R23); a pair in which a channel is clamped counts one ceiling hit,
saturating, and any other pair none (R25). -/
def Obligations.MixOutputStaysWithinTheCeiling : Prop :=
  (∀ (f : InputFrame) (s : State), s.pf.held = false → ∃ t, completes (.mix f) s t ∧ t.ev.clock = s.ev.clock + 1#32 ∧
    (∀ c : Nat, c = (if t.pb.ceilingLowered then (t.pf.working.ceiling * 11598 + 8192) / 16384 else t.pf.working.ceiling) →
      t.ap.airMonitor.l.natAbs ≤ c ∧ t.ap.airMonitor.r.natAbs ≤ c) ∧
    (t.air.state = .offAir ∨ t.air.state = .starting → t.ap.airMonitor = { l := 0, r := 0 }) ∧
    t.tl.pairs.getLast? = some t.ap.airMonitor) ∧
  (∀ (f : InputFrame) (s : State) (c : Nat), s.settled → s.al.onAir = none → s.air.state = .onAir ∨ s.air.state = .alertWake →
    c = (if s.pb.ceilingLowered then (s.pf.working.ceiling * 11598 + 8192) / 16384 else s.pf.working.ceiling) →
    ∃ t, completes (.mix f) s t ∧
      t.ap.airMonitor = { l := max (-c) (min c t.du.lastOut.l), r := max (-c) (min c t.du.lastOut.r) } ∧
      t.pb.ceilingHits =
        (if (c < t.du.lastOut.l.natAbs ∨ c < t.du.lastOut.r.natAbs) ∧ s.pb.ceilingHits < 65535 then s.pb.ceilingHits + 1
         else s.pb.ceilingHits))

/-- MIX with nothing due sums the sources that are up. A gain is the fader after its step, times E after its step for a DUCKED source,
rounded, and through the pan law for a line (R18). The accumulators sum each channel times its gain, an OFF source giving 0 (R19). P is
half added, shifted by 14 and saturated; a pair in which a channel is clamped counts one clip and raises CLIP (R20, R25), which two
sources at unity can do. A seized line hears, by its feed select, the accumulators without its own voice, the mono sum at the hold gain,
or the talkback input; a line not seized hears 0 (R21). -/
def Obligations.MixSumsTheSources : Prop :=
  ∀ (f : InputFrame) (s : State), s.settled → ∃ t, completes (.mix f) s t ∧
    ∀ (g : Source → Int) (accL accR x y : Int),
      (∀ src (u : Nat), u = (if s.pf.working.duckClasses.get src = .ducked then
            ((t.entry src).current * t.pb.duck.present + 8192) / 16384 else (t.entry src).current) →
          g src = (if (t.entry src).state = .off then 0
            else if src = .ln1 ∨ src = .ln2 ∨ src = .ln3 ∨ src = .ln4 then ((u * 11585 + 8192) / 16384 : Nat) else u)) →
      accL = f.plaL.toInt * g .pla + f.plbL.toInt * g .plb + f.micL.toInt * g .mic + f.fbkL.toInt * g .fbk +
        f.line.l1.toInt * g .ln1 + f.line.l2.toInt * g .ln2 + f.line.l3.toInt * g .ln3 + f.line.l4.toInt * g .ln4 →
      accR = f.plaR.toInt * g .pla + f.plbR.toInt * g .plb + f.micR.toInt * g .mic + f.fbkR.toInt * g .fbk +
        f.line.l1.toInt * g .ln1 + f.line.l2.toInt * g .ln2 + f.line.l3.toInt * g .ln3 + f.line.l4.toInt * g .ln4 →
      x = (accL + 8192) >>> (14 : Nat) → y = (accR + 8192) >>> (14 : Nat) →
      t.ap.cue = { l := max (-8388608) (min 8388607 x), r := max (-8388608) (min 8388607 y) } ∧
      ((-8388608 ≤ x ∧ x ≤ 8388607 ∧ -8388608 ≤ y ∧ y ≤ 8388607) → t.pb.clipCount = s.pb.clipCount) ∧
      (¬ (-8388608 ≤ x ∧ x ≤ 8388607 ∧ -8388608 ≤ y ∧ y ≤ 8388607) →
        t.pb.clipCount = (if s.pb.clipCount < 65535 then s.pb.clipCount + 1 else s.pb.clipCount) ∧
          ∀ l, t.ev.status.get l &&& EventKind.clip.set ≠ 0#29) ∧
      ∀ (n : LineId) (own : Int), own = (f.line.get n).toInt * g n.source →
        ((s.line n).seize = true → (s.line n).feed = .mixMinus →
          t.ap.feeds.get n = max (-8388608) (min 8388607 (((accL - own) + (accR - own) + 16384) >>> (15 : Nat)))) ∧
        ((s.line n).seize = true → (s.line n).feed = .hold →
          t.ap.feeds.get n =
            (max (-8388608) (min 8388607 ((accL + accR + 16384) >>> (15 : Nat))) * s.pf.working.holdGain + 8192) >>> (14 : Nat)) ∧
        ((s.line n).seize = true → (s.line n).feed = .screen → t.ap.feeds.get n = f.tb.toInt) ∧
        ((s.line n).seize = false → t.ap.feeds.get n = 0)

/-- MIX while an alert is on the air, with nothing due, the station ON_AIR or in ALERT_WAKE: the alert-mix sample is the two-tone
sample in ATTENTION, the alert input times the alert gain in MESSAGE, and 0 in CLOSING (R24, R125). The output pair is that sample
on both channels, clamped to the ceiling in force, and a clamp counts one ceiling hit (R23, R25). A seized line whose feed select is
alert hears the sample unclamped, and a line not seized hears 0 (R21). The tone accumulators step in ATTENTION alone (R125), and the
phase count goes on by one (R121). -/
def Obligations.MixOfAnAlert : Prop :=
  ∀ (f : InputFrame) (s : State) (o : OnAirAlert) (x : Int), s.settled → s.al.onAir = some o →
    s.air.state = .onAir ∨ s.air.state = .alertWake →
    x = (if o.phase = .attention then
           max (-8388608) (min 8388607 ((sine (s.al.p1.toNat / 4194304) * s.pf.working.toneLevel +
             sine (s.al.p2.toNat / 4194304) * s.pf.working.toneLevel + 16384) >>> (15 : Nat)))
         else if o.phase = .message then
           max (-8388608) (min 8388607 ((f.alr.toInt * s.pf.working.alertGain + 8192) >>> (14 : Nat)))
         else 0) →
    ∃ t, completes (.mix f) s t ∧
      (∀ c : Nat, c = (if s.pb.ceilingLowered then (s.pf.working.ceiling * 11598 + 8192) / 16384 else s.pf.working.ceiling) →
        t.ap.airMonitor = { l := max (-c) (min c x), r := max (-c) (min c x) } ∧
        t.pb.ceilingHits =
          (if c < x.natAbs ∧ s.pb.ceilingHits < 65535 then s.pb.ceilingHits + 1 else s.pb.ceilingHits)) ∧
      (∀ n, (s.line n).seize = true → (s.line n).feed = .alert → t.ap.feeds.get n = x) ∧
      (∀ n, (s.line n).seize = false → t.ap.feeds.get n = 0) ∧
      t.al = { s.al with
               onAir := some { o with count := o.count + 1 }
               p1 := if o.phase = .attention then s.al.p1 + 57266231#32 else s.al.p1
               p2 := if o.phase = .attention then s.al.p2 + 91625969#32 else s.al.p2 }

/-- One ramp step at a MIX with nothing due: a fraction one over n of the way, truncated toward zero, toward the target while
LIVE and toward 0 while RELEASING; the last step lands on the aim (R8), and the last step of a release makes the entry OFF at the end of
that mix (R6). RELEASE_RAMP_END makes a RELEASING entry whose ramp stands at its end OFF, and nothing else (R6, R7); any other entry is
left as it is (logs 5 and 6).

The duck envelope at a MIX (R14, R15): while its condition and the depth stand it goes on by the ramp law; a changed condition retargets
it, down to the depth over the attack length or up to 16384 over the release length; a changed depth below E retargets it over the
attack length, and one at or above E is E at once. A length of 0 puts E at its aim (R9). -/
def Obligations.RampsAreSteppedAndEnd : Prop :=
  (∀ (f : InputFrame) (s : State) (src : Source) (aim : Nat), s.settled → 0 < (s.entry src).remaining →
     ((s.entry src).state = .live ∧ aim = (s.entry src).target ∨ (s.entry src).state = .releasing ∧ aim = 0) →
     ∃ t, completes (.mix f) s t ∧ (t.entry src).remaining = (s.entry src).remaining - 1 ∧
       ((t.entry src).current : Int) =
         (s.entry src).current + ((aim : Int) - (s.entry src).current).tdiv (s.entry src).remaining ∧
       ((s.entry src).remaining = 1 → (t.entry src).current = aim) ∧
       (t.entry src).state = (if (s.entry src).state = .releasing ∧ (s.entry src).remaining = 1 then .off
         else (s.entry src).state) ∧
       (t.entry src).target = (s.entry src).target) ∧
  (∀ (s : State) (src : Source),
     ((s.entry src).state = .releasing → (s.entry src).remaining = 0 →
       completes (.releaseRampEnd src) s
         { s with pb := { s.pb with roster := s.pb.roster.set src { s.entry src with state := .off, current := 0, remaining := 0 } } }) ∧
     (¬ ((s.entry src).state = .releasing ∧ (s.entry src).remaining = 0) → completes (.releaseRampEnd src) s s)) ∧
  (∀ (f : InputFrame) (s : State) (d : Duck) (on : Bool) (depth attack release : Nat) (go : Nat → Nat → Nat → Nat), s.settled →
     d = s.pb.duck → depth = s.pf.working.duckDepth → attack = min s.pf.working.duckAttack 10000 * 48 →
     release = min s.pf.working.duckRelease 10000 * 48 →
     (on = true ↔ ∃ src, s.pf.working.duckClasses.get src = .ducker ∧ (s.entry src).state = .live ∧ 0 < (s.entry src).target) →
     (∀ e aim n, go e aim n = if n = 0 then e else ((e : Int) + ((aim : Int) - e).tdiv n).toNat) →
     ∃ t, completes (.mix f) s t ∧
       (on = d.engaged → (d.engaged = true → depth = d.aim) → (d.engaged = false → depth ≤ d.present) →
         t.pb.duck = { d with present := go d.present d.aim d.remaining, remaining := d.remaining - 1 }) ∧
       (on ≠ d.engaged → (d.engaged = true → depth = d.aim) → (d.engaged = false → depth ≤ d.present) →
         ∀ aim n : Nat, aim = (if on then depth else 16384) →
           n = (if aim < d.present then attack else if d.present < aim then release else 0) →
           t.pb.duck = { present := if n = 0 then aim else go d.present aim n, aim := aim, remaining := n - 1, engaged := on }) ∧
       (on = true → d.engaged = true → depth ≠ d.aim →
         (depth < d.present →
           t.pb.duck = { present := if attack = 0 then depth else go d.present depth attack, aim := depth
                         remaining := attack - 1, engaged := true }) ∧
         (d.present ≤ depth → t.pb.duck = { present := depth, aim := depth, remaining := 0, engaged := true })) ∧
       (on = false → d.engaged = false → d.present < depth →
         t.pb.duck = { d with present := go depth d.aim d.remaining, remaining := d.remaining - 1 }))

/-- A MIX with nothing due, by mode. STEADY on the air: the oldest pair is D, P joins the store, and T pairs stay held (R95). IDLE on the
air: D is P. FROZEN: nothing is taken or stored, and D is 0 (R103). Held, off the air or starting: D is P and the store stays (R98).
BUILDING or CATCHING at a mix that is no step: the exchange of STEADY, with the step counter one further (R94, R95).

BUILD_STEP and CATCH_UP_STEP with nothing due (R94, R96, R97): a build step holds one pair more and repeats the last output
pair; a catch-up step skips the oldest pair and plays the second; the mode follows from H and T (R93). In another mode neither
is due, and nothing changes (log 7).

CLOCK_WRAP: the MIX at whose end the air clock turns from 4,294,967,295 to 0 raises CLOCK_WRAP in every status set (R182);
at any other value it is not that mix, and nothing changes (log 7).

A MIX with nothing due advances the counts of its sample period: the position of a PLAYING or TAILING deck by one, no other's (R31); the
ring filter by RING_n and the loop-low count by LOOP_n, each to the count that makes its event due (R71); the ring gap and total of a
RINGING line (R74); the block phase of the monitor, its peak and clean mark, with the run at 0 while it is held (R143, R144); and the start
timer, the poll timer, the reply window, the load and the write by one period (R157, R158, R187, R188). Nothing else of those blocks
changes, but the pairs, TXL_FWD's bits and the model's take mark of the link (log 9). -/
def Obligations.MixesMoveTheDelayAndTheClock : Prop :=
  (∀ (f : InputFrame) (s : State) (x : Pair) (xs : List Pair), s.settled → s.du.mode = .steady → s.du.store = x :: xs →
     s.du.store.length = s.du.target → s.air.state = .onAir →
     ∃ t, completes (.mix f) s t ∧ t.du.lastOut = x ∧ t.du.store = xs ++ [t.ap.cue] ∧ t.du.mode = .steady ∧
       t.du.target = s.du.target) ∧
  (∀ (f : InputFrame) (s : State), s.settled →
     ∃ t, completes (.mix f) s t ∧
       (s.du.mode = .frozen → t.du = { s.du with lastOut := { l := 0, r := 0 }, step := 0 }) ∧
       (s.du.mode ≠ .frozen → s.air.state = .starting ∨ s.air.state = .offAir →
         t.du = { s.du with lastOut := t.ap.cue, step := 0 }) ∧
       (s.air.state = .onAir ∨ s.air.state = .alertWake →
         (s.du.mode = .idle → s.du.store = [] → s.du.target = 0 → t.du = { s.du with lastOut := t.ap.cue, step := 0 }) ∧
         ((s.du.mode = .building ∧ s.du.store.length < s.du.target ∨ s.du.mode = .catching ∧ s.du.target < s.du.store.length) →
           s.du.step + 1 < s.pf.working.buildDivisor → ∀ (x : Pair) (xs : List Pair), s.du.store ++ [t.ap.cue] = x :: xs →
             t.du = { s.du with lastOut := x, store := xs, step := s.du.step + 1 }))) ∧
  (∀ (f : InputFrame) (s : State), s.settled → s.air.state = .onAir ∨ s.air.state = .alertWake →
     (s.du.mode ≠ .building → completes (.buildStep f) s s) ∧
     (s.du.mode ≠ .catching → completes (.catchUpStep f) s s) ∧
     (s.du.mode = .building → s.pf.working.buildDivisor ≤ s.du.step + 1 → s.du.store.length < s.du.target →
       ∃ t, completes (.buildStep f) s t ∧ t.du.store = s.du.store ++ [t.ap.cue] ∧ t.du.lastOut = s.du.lastOut ∧
         t.du.step = 0 ∧ t.du.mode = if s.du.store.length + 1 = s.du.target then .steady else .building) ∧
     (s.du.mode = .catching → s.pf.working.buildDivisor ≤ s.du.step + 1 → s.du.target < s.du.store.length →
       ∃ t, completes (.catchUpStep f) s t ∧ t.du.store = (s.du.store ++ [t.ap.cue]).drop 2 ∧
         some t.du.lastOut = (s.du.store ++ [t.ap.cue])[1]? ∧ t.du.step = 0 ∧
         t.du.mode = if s.du.store.length = s.du.target + 1 then (if s.du.target = 0 then .idle else .steady) else .catching)) ∧
  (∀ (f : InputFrame) (s : State),
     (s.ev.clock ≠ 4294967295#32 → completes (.clockWrap f) s s) ∧
     (s.ev.clock = 4294967295#32 → s.pf.held = false → ∃ t, completes (.clockWrap f) s t ∧ completes (.mix f) s t ∧ t.ev.clock = 0#32 ∧
       ∀ l, t.ev.status.get l &&& EventKind.clockWrap.set ≠ 0#29)) ∧
  (∀ (f : InputFrame) (s : State) (count : Nat → Nat → Nat) (m : Monitor), s.settled →
     (∀ most x, count most x = if x < most then x + 1 else x) → m = s.air.monitor →
     ∃ t, completes (.mix f) s t ∧ t.sq = { s.sq with deckA := t.sq.deckA, deckB := t.sq.deckB } ∧
       (∀ d, t.deck d = { s.deck d with
         position := if (s.deck d).state = .playing ∨ (s.deck d).state = .tailing then (s.deck d).position + 1
                     else (s.deck d).position }) ∧
       t.lc = { s.lc with lines := t.lc.lines } ∧
       (∀ n, t.line n = { s.line n with
         ringLevel := if f.ring.get n = decide ((s.line n).ringStage = .countingHigh) then count 4800 (s.line n).ringLevel else 0
         loopLow := if (s.line n).seize = true ∧ f.loop.get n = false then count 19200 (s.line n).loopLow else 0
         ringTimer := (s.line n).ringTimer.map fun x => { gap := x.gap + 1, total := x.total + 1 } }) ∧
       (s.air.state = .onAir → s.al.onAir = none → s.fallbackOnTop = false →
         t.air.monitor = { m with phase := if m.phase = 479 then 0 else m.phase + 1, due := m.due || decide (m.phase = 479)
                                  peak := max m.peak (max t.du.lastOut.l.natAbs t.du.lastOut.r.natAbs) }) ∧
       (s.air.state ≠ .onAir ∨ s.al.onAir ≠ none ∨ s.fallbackOnTop = true →
         t.air.monitor = { m with phase := if m.phase = 479 then 0 else m.phase + 1, due := m.due || decide (m.phase = 479), run := 0, clean := false }) ∧
       t.air = { s.air with startTimer := s.air.startTimer.map (· - 1), monitor := t.air.monitor } ∧
       t.tl = { s.tl with
         pairs := s.tl.pairs ++ [t.ap.airMonitor], forward := t.tl.forward, took := false
         pollTimer := s.tl.pollTimer - 1, window := s.tl.window.map fun w => { w with left := w.left - 1 } } ∧
       t.pf = { s.pf with load := s.pf.load.map (· - 1), write := s.pf.write.map fun w => { w with left := w.left - 1 } } ∧
       t.ps = s.ps)

/-! ### Roster requests -/

/-- SOURCE_GAIN, every form (R10): from AUT or CON, on an entry that AUT may move, the target clamped to 16384 and the ramp to
10,000 ms; LIVE restarts the ramp, at once for a length of 0, OFF and RELEASING take the target alone. A code that names no source
is answered UNKNOWN, and AUT on a CON-held entry HELD, with nothing changed. The mark that a target is a fade-out's 0, the model's own,
is cleared with the new target (log 9). -/
def Obligations.SourceGainRetargets : Prop :=
  ∀ (s : State) (l : LaneId) (rest more : List Byte) (c t1 t0 r1 r0 : Byte),
    s.asks l rest (c :: t1 :: t0 :: r1 :: r0 :: more) → l ≠ .alr →
    (sourceOf c = none → turnedAway (.sourceGain l rest) s l (0x20#8 :: rest) .unknown) ∧
    ∀ (src : Source) (target len : Nat), sourceOf c = some src → target = min (word16 t1 t0) 16384 →
      len = min (word16 r1 r0) 10000 * 48 →
      (l = .aut ∧ (s.entry src).controller = .con → turnedAway (.sourceGain l rest) s l (0x20#8 :: rest) .held) ∧
      (¬ (l = .aut ∧ (s.entry src).controller = .con) →
        completes (.sourceGain l rest) s
          { s with
            pb := { s.pb with
              roster := s.pb.roster.set src
                (if (s.entry src).state = .live then
                  { s.entry src with target := target, remaining := len, faded := false
                                     current := if len = 0 then target else (s.entry src).current }
                 else { s.entry src with target := target, faded := false }) }
            cl := s.replied l (0x20#8 :: rest) .done [] })

/-- SOURCE_ON, every form, its checks in their order (R11): UNKNOWN, BAD_STATE for a source the lane may not turn, HELD for AUT on
a CON-held FBK; a LIVE entry is left as it is; an OFF or RELEASING one rises from 0 over the ramp, at once for a ramp of 0.

SOURCE_OFF, every form, with the checks of SOURCE_ON (R12): an OFF entry is left as it is; a ramp of 0, or a fader already at
0, takes the entry OFF at once; any other releases it over the ramp from where its fader stands, its target kept (R6). -/
def Obligations.SourcesAreTurnedOnAndOff : Prop :=
  (∀ (s : State) (l : LaneId) (rest more : List Byte) (c r1 r0 : Byte), s.asks l rest (c :: r1 :: r0 :: more) → l ≠ .alr →
     (sourceOf c = none → turnedAway (.sourceOn l rest) s l (0x21#8 :: rest) .unknown) ∧
     ∀ (src : Source) (len : Nat), sourceOf c = some src → len = min (word16 r1 r0) 10000 * 48 →
       (¬ (src = .fbk ∨ src = .mic ∧ l = .con) → turnedAway (.sourceOn l rest) s l (0x21#8 :: rest) .badState) ∧
       (src = .fbk → l = .aut → (s.entry src).controller = .con →
         turnedAway (.sourceOn l rest) s l (0x21#8 :: rest) .held) ∧
       (src = .fbk ∨ src = .mic ∧ l = .con → ¬ (l = .aut ∧ (s.entry src).controller = .con) →
         ((s.entry src).state = .live → turnedAway (.sourceOn l rest) s l (0x21#8 :: rest) .done) ∧
         ((s.entry src).state ≠ .live →
           completes (.sourceOn l rest) s
             { s with
               pb := { s.pb with
                 roster := s.pb.roster.set src
                   { s.entry src with state := .live, remaining := len
                                      current := if len = 0 then (s.entry src).target else 0 } }
               cl := s.replied l (0x21#8 :: rest) .done [] }))) ∧
  (∀ (s : State) (l : LaneId) (rest more : List Byte) (c r1 r0 : Byte), s.asks l rest (c :: r1 :: r0 :: more) → l ≠ .alr →
     (sourceOf c = none → turnedAway (.sourceOff l rest) s l (0x22#8 :: rest) .unknown) ∧
     ∀ (src : Source) (len : Nat), sourceOf c = some src → len = min (word16 r1 r0) 10000 * 48 →
       (¬ (src = .fbk ∨ src = .mic ∧ l = .con) → turnedAway (.sourceOff l rest) s l (0x22#8 :: rest) .badState) ∧
       (src = .fbk → l = .aut → (s.entry src).controller = .con →
         turnedAway (.sourceOff l rest) s l (0x22#8 :: rest) .held) ∧
       (src = .fbk ∨ src = .mic ∧ l = .con → ¬ (l = .aut ∧ (s.entry src).controller = .con) →
         ((s.entry src).state = .off → turnedAway (.sourceOff l rest) s l (0x22#8 :: rest) .done) ∧
         ((s.entry src).state ≠ .off →
           completes (.sourceOff l rest) s
             { s with
               pb := { s.pb with
                 roster := s.pb.roster.set src
                   (if len = 0 ∨ (s.entry src).current = 0 then
                     { s.entry src with state := .off, current := 0, remaining := 0 }
                    else { s.entry src with state := .releasing, remaining := len }) }
               cl := s.replied l (0x22#8 :: rest) .done [] })))

/-- SOURCE_TAKE and SOURCE_RELEASE write the controller of the named entry, CON or its default, and nothing else of it; a code that
names no source is answered UNKNOWN (R3, R172). -/
def Obligations.TakeAndReleaseWriteTheController : Prop :=
  ∀ (s : State) (rest more : List Byte) (c : Byte), s.asks .con rest (c :: more) →
    (sourceOf c = none → turnedAway (.sourceTake .con rest) s .con (0x23#8 :: rest) .unknown ∧
      turnedAway (.sourceRelease .con rest) s .con (0x24#8 :: rest) .unknown) ∧
    ∀ src : Source, sourceOf c = some src →
      completes (.sourceTake .con rest) s
        { s with pb := { s.pb with roster := s.pb.roster.set src { s.entry src with controller := .con } }
                 cl := s.replied .con (0x23#8 :: rest) .done [] } ∧
      ∀ k : Controller, (k = .aut ↔ src = .pla ∨ src = .plb ∨ src = .fbk) →
        completes (.sourceRelease .con rest) s
          { s with pb := { s.pb with roster := s.pb.roster.set src { s.entry src with controller := k } }
                   cl := s.replied .con (0x24#8 :: rest) .done [] }

/-! ### Preemption stack -/

/-- BREAK_IN (R51 to R54): turned away BAD_STATE while an alert phase is active or the air state is not ON_AIR; otherwise a record
of the state as it stands on top of the stack, the decks PAUSED and the sequencer STOPPED, the decks' entries releasing and MIC
rising over the preempt fade, PREEMPT raised, and STACK_OVERFLOW with the bottom record lost when 8 stood. The model's own marks: the
record has no line marked as gone (log 9), and a segue point that the head has reached is taken with the push (log 43). -/
def Obligations.BreakInPushes : Prop :=
  ∀ (s : State) (rest body : List Byte), s.asks .con rest body →
    (s.al.onAir ≠ none ∨ s.air.state ≠ .onAir → turnedAway (.breakIn .con rest) s .con (0x28#8 :: rest) .badState) ∧
    ∀ (fade : Nat) (r : Context) (a b m : Entry), s.al.onAir = none → s.air.state = .onAir → s.noBreakTaken →
      fade = min s.pf.working.preemptFade 10000 * 48 →
      r.cause = .breakIn → r.pushedAt = s.ev.clock → r.seqState = s.sq.state → r.delayMode = s.du.mode →
      r.deckA = (if s.sq.deckA.state = .free then none else
        s.sq.deckA.item.map fun i => { item := i, state := s.sq.deckA.state, position := s.sq.deckA.position }) →
      r.deckB = (if s.sq.deckB.state = .free then none else
        s.sq.deckB.item.map fun i => { item := i, state := s.sq.deckB.state, position := s.sq.deckB.position }) →
      (∀ src, r.roster.get src = { state := (s.entry src).state, target := (s.entry src).target
                                   remaining := (s.entry src).remaining, controller := (s.entry src).controller
                                   faded := (s.entry src).faded }) →
      r.onAirLines = [LineId.l1, .l2, .l3, .l4].filter (fun n => (s.line n).state = .onAir) → (∀ n, r.gone.get n = false) →
      a = (s.entry .pla).setReleasing fade → b = (s.entry .plb).setReleasing fade → m = (s.entry .mic).setLive fade →
      completes (.breakIn .con rest) s
        { s with
          ps := { s.ps with records := r :: s.ps.records.take 7
                            overflow := if s.ps.records.length < 8 then s.ps.overflow else countUp s.ps.overflow }
          sq := { s.sq with
            deckA := if s.sq.deckA.state = .playing ∨ s.sq.deckA.state = .tailing then { s.sq.deckA with state := .paused }
                     else s.sq.deckA
            deckB := if s.sq.deckB.state = .playing ∨ s.sq.deckB.state = .tailing then { s.sq.deckB with state := .paused }
                     else s.sq.deckB
            state := .stopped
            segueTaken := s.sq.segueTaken || (s.sq.state = .running && s.headAtSegue) }
          pb := { s.pb with roster := ((s.pb.roster.set .pla a).set .plb b).set .mic m }
          ev := (if s.ps.records.length < 8 then s.ev else s.ev.raise .stackOverflow).raise .preempt
          cl := s.replied .con (0x28#8 :: rest) .done [] }

/-- RESUME's checks in their order (R58): a kind code above 2 is UNKNOWN, an empty stack NOTHING; a top ALERT is REFUSED to CON,
and any top cause but FAILOVER and REMOTE_FALLBACK to AUT. A turned-away RESUME changes nothing.

A RESUME that is taken pops exactly the top record (R58, R60, R69): the records under it stay, the last-resume record is filled,
RESUMED is raised, the reply is DONE; MIC is restored from the record over its remaining ramp and the preempt fade, unless the
console has taken it since (R64, R65).

A RESUME with CONTINUE of a FAILOVER or a REMOTE_FALLBACK that saved a RUNNING sequencer with its head on a deck and one line on the air
(R63, R64, R66, R87): the deck PLAYING from its position and the sequencer RUNNING; the deck's entry, MIC and FBK restored; the line, in
HOLD, ON_AIR again with its mix-minus feed, its hold period ended and its entry restored; the queue as it was. A line that was
re-screened, queued or dropped since the push, as the record's mark says (log 9), is in HOLD again but is not offered (R66, R88): it and
its entry stay. The model's choices here: a line that was aired and held again since, and neither re-screened, queued nor dropped, is
offered (log 40); an entry saved RELEASING is RELEASING over the restore length also where its fader stands at 0 (log 34); the entry of
the other deck, FREE at the push and so without a saved deck entry, is left alone (log 20). -/
def Obligations.ResumePopsTheTopRecord : Prop :=
  (∀ (s : State) (l : LaneId) (rest more : List Byte) (k : Byte), s.asks l rest (k :: more) → l ≠ .alr →
     (2 < k.toNat → turnedAway (.resume l rest) s l (0x29#8 :: rest) .unknown) ∧
     (k.toNat ≤ 2 → s.ps.records = [] → turnedAway (.resume l rest) s l (0x29#8 :: rest) .nothing) ∧
     (k.toNat ≤ 2 → ∀ (r : Context) (rs : List Context), s.ps.records = r :: rs →
       (l = .con ∧ r.cause = .alert ∨ l = .aut ∧ (r.cause = .breakIn ∨ r.cause = .alert)) →
       turnedAway (.resume l rest) s l (0x29#8 :: rest) .refused)) ∧
  (∀ (s : State) (l : LaneId) (rest more : List Byte) (k : Byte) (r : Context) (rs : List Context) (e : EntrySnapshot)
     (len : Nat), s.asks l rest (k :: more) → k.toNat ≤ 2 → s.ps.records = r :: rs → s.noBreakTaken →
     (l = .con ∧ r.cause ≠ .alert ∨ l = .aut ∧ (r.cause = .failover ∨ r.cause = .remoteFallback)) →
     e = r.roster.mic → len = min (e.remaining + min s.pf.working.preemptFade 10000 * 48) 480000 →
     ∃ t, completes (.resume l rest) s t ∧ t.ps.records = rs ∧ t.ps.overflow = s.ps.overflow ∧
       (∃ x, t.ps.lastResume = some x ∧ x.cause = r.cause ∧ (x.takenBy = .con ↔ l = .con) ∧ x.poppedAt = s.ev.clock ∧
         x.duration = (s.ev.clock - r.pushedAt).toNat ∧ x.delayMode = r.delayMode ∧ (k.toNat = 0 → x.kind = .goOn)) ∧
       (∀ n, t.ev.status.get n &&& EventKind.resumed.set ≠ 0#29) ∧
       t.cl = s.replied l (0x29#8 :: rest) .done [] ∧ t.du = s.du ∧ t.al = s.al ∧ t.air = s.air ∧ t.tl = s.tl ∧ t.pf = s.pf ∧
       t.ap = s.ap ∧ (r.cause = .breakIn → t.lc = s.lc) ∧
       ((s.entry .mic).controller = .con → e.controller ≠ .con → t.entry .mic = s.entry .mic) ∧
       (¬ ((s.entry .mic).controller = .con ∧ e.controller ≠ .con) → e.state = .live →
         t.entry .mic = { s.entry .mic with state := .live, target := e.target, remaining := len
                                            current := if len = 0 then e.target else (s.entry .mic).current
                                            faded := e.faded && decide (e.target = 0) }) ∧
       (¬ ((s.entry .mic).controller = .con ∧ e.controller ≠ .con) → e.state = .off →
         t.entry .mic =
           { s.entry .mic with target := e.target, faded := e.faded && decide (e.target = 0) : Entry }.setReleasing len)) ∧
  (∀ (s : State) (l : LaneId) (rest more : List Byte) (k : Byte) (r : Context) (rs : List Context) (d : DeckId) (h : Item)
     (n : LineId) (fade pos : Nat) (x : Option DeckSnapshot) (ros : PerSource Entry), s.asks l rest (k :: more) → l ≠ .alr → k.toNat = 0 →
     s.ps.records = r :: rs → r.cause = .failover ∨ r.cause = .remoteFallback → s.noBreakTaken →
     fade = min s.pf.working.preemptFade 10000 * 48 →
     r.seqState = .running → s.sq.state = .preempted → s.sq.list = [h] → s.sq.tail = none → h.kind ≠ .live →
     (s.deck d).state = .paused → (s.deck d).item = some h.id → s.deck d.other = Deck.initial →
     h.segueReached (s.deck d).position = false → x = some { item := h.id, state := .playing, position := pos } →
     r.deckA = (if d = .a then x else none) → r.deckB = (if d = .b then x else none) →
     r.onAirLines = [n] → s.al.onAir = none → s.lc.onAirCount = 0 → (s.line n).state = .hold → (s.line n).seize = true →
     (s.line n).ringTimer = none →
     ros = ((s.pb.roster.set d.source ((s.entry d.source).restoredFrom (r.roster.get d.source) fade)).set .mic
       ((s.entry .mic).restoredFrom r.roster.mic fade)).set .fbk ((s.entry .fbk).restoredFrom r.roster.fbk fade) →
     ∃ t, completes (.resume l rest) s t ∧ t.ps.records = rs ∧ t.ps.overflow = s.ps.overflow ∧
       (∃ y, t.ps.lastResume = some y ∧ y.cause = r.cause ∧ y.poppedAt = s.ev.clock ∧ y.kind = .goOn) ∧
       t.sq = { (s.sq.setDeck d { s.deck d with state := .playing }) with state := .running } ∧
       (r.gone.get n = false →
         t.lc = { s.lc with
           lines := s.lc.lines.set n { s.line n with state := .onAir, holdStart := none, holdLong := false, feed := .mixMinus } } ∧
         t.pb = { s.pb with roster := ros.set n.source ((s.entry n.source).restoredFrom (r.roster.get n.source) fade) }) ∧
       (r.gone.get n = true → t.lc = s.lc ∧ t.pb = { s.pb with roster := ros }) ∧
       t.ev = s.ev.raise .resumed ∧ t.cl = s.replied l (0x29#8 :: rest) .done [] ∧ t.du = s.du ∧ t.al = s.al ∧ t.air = s.air ∧
       t.tl = s.tl ∧ t.pf = s.pf ∧ t.ap = s.ap)

/-- NEXT and REPRISE on a head that stands alone on a PAUSED deck (R61, R62). NEXT to a saved RUNNING abandons it: its record
ABANDONED with its position, its deck FREE, its entry OFF. REPRISE takes its deck back by the reprise amount, not below 0. The last-resume
record has the kind applied, the head's id, and for REPRISE the new position (R69).

The deck entry of a reprised head that was saved LIVE is restored toward its saved target (R64), or, where that was the 0 of a fade-out begun
(log 21) and the new position lies before the fade-out point, toward its item gain (R62). An entry that the console has taken since is
left (R65). -/
def Obligations.NextAbandonsAndRepriseRepositions : Prop :=
  ∀ (s : State) (rest more : List Byte) (k : Byte) (r : Context) (rs : List Context) (d : DeckId) (h : Item),
    s.asks .con rest (k :: more) → s.ps.records = r :: rs → r.cause ≠ .alert → s.noBreakTaken →
    s.sq.list = [h] → s.sq.tail = none → h.kind ≠ .live → s.deck d.other = Deck.initial →
    (s.deck d).state = .paused → (s.deck d).item = some h.id →
    (k.toNat = 1 → r.seqState = .running →
      ∃ t, completes (.resume .con rest) s t ∧ t.sq.list = [] ∧ t.sq.state = .running ∧ t.deck d = Deck.initial ∧
        (t.entry d.source).state = .off ∧ (t.entry d.source).current = 0 ∧ (t.entry d.source).bound = none ∧
        t.sq.done = (if s.sq.done.length < 8 then s.sq.done else s.sq.done.drop 1) ++
          [{ item := h.id, start := (s.deck d).startedAt, aired := (s.deck d).position, outcome := .abandoned }] ∧
        ∃ y, t.ps.lastResume = some y ∧ y.cause = r.cause ∧ y.kind = .next ∧ y.item = some h.id ∧ y.position = none) ∧
    (k.toNat = 2 → ∀ (pos : Nat) (e : EntrySnapshot), pos = (s.deck d).position - s.pf.working.reprise * 48 →
      e = r.roster.get d.source →
      ∃ t, completes (.resume .con rest) s t ∧ t.sq.list = [h] ∧ t.sq.state = r.seqState ∧
        (t.deck d).position = pos ∧ (t.deck d).item = some h.id ∧
        (∃ y, t.ps.lastResume = some y ∧ y.cause = r.cause ∧ y.kind = .reprise ∧ y.item = some h.id ∧ y.position = some pos) ∧
        ((s.entry d.source).controller = .con → e.controller ≠ .con → t.entry d.source = s.entry d.source) ∧
        (∀ (x : DeckSnapshot) (aim len : Nat), (if d = .a then r.deckA else r.deckB) = some x → x.item = h.id →
          ¬ ((s.entry d.source).controller = .con ∧ e.controller ≠ .con) → e.state = .live →
          len = min (e.remaining + min s.pf.working.preemptFade 10000 * 48) 480000 →
          aim = (if e.target = 0 ∧ e.faded = true ∧ h.fadeReached pos = false then h.gain else e.target) →
          t.entry d.source = { s.entry d.source with state := .live, target := aim, remaining := len
                                                     current := if len = 0 then aim else (s.entry d.source).current
                                                     faded := e.faded && decide (aim = 0) }))

/-! ### Air sequencer -/

/-- FADE_OUT_POINT (R38): at a fade-out point reached and not yet taken, on a PLAYING or TAILING deck, a LIVE entry AUT holds is
retargeted to 0 over the fade-out; a CON-held entry is left (R13). With no such point due, nothing changes (log 5).

ITEM_END of the tail (R39): its record, SKIPPED when its mark is set and COMPLETE otherwise, joins the done list, which keeps 8
(R48); its deck is FREE, its entry OFF and unbound, the tail slot empty, ITEM_DONE raised. Before the end nothing changes.

ITEM_END of the PLAYING head (R37, R39): the same, and the head leaves the list. With nothing behind it the sequencer stays RUNNING; a
LIVE item behind it becomes the head and halts the sequencer, with its start time and SEQ_HALTED (R40). -/
def Obligations.FadeOutPointsAndItemEnds : Prop :=
  (∀ (s : State) (d : DeckId) (i : Item) (n : Nat), s.sq.itemOn d = some i → i.length = some n →
     ((s.deck d).fadeTaken = true ∨ i.fadeOut = 0 ∨ (s.deck d).position < n - i.fadeOut ∨ (s.deck d).run = false →
       completes (.fadeOutPoint d) s s) ∧
     (i.fadeOut ≠ 0 → n - i.fadeOut ≤ (s.deck d).position → (s.deck d).fadeTaken = false →
       ((s.deck d).state = .playing ∨ (s.deck d).state = .tailing) →
       ((s.entry d.source).controller = .con →
         completes (.fadeOutPoint d) s (s.setDeck d { s.deck d with fadeTaken := true })) ∧
       ((s.entry d.source).controller = .aut → (s.entry d.source).state = .live →
         completes (.fadeOutPoint d) s
           ((s.setDeck d { s.deck d with fadeTaken := true }).setEntry d.source
             { s.entry d.source with target := 0, remaining := i.fadeOut, faded := true })))) ∧
  (∀ (s : State) (d : DeckId) (i : Item) (n : Nat), s.noBreakTaken → s.sq.list = [] → s.sq.tail = some i →
     (s.deck d).state = .tailing → (s.deck d).item = some i.id → i.length = some n →
     ((s.deck d).position < n → completes (.itemEnd d) s s) ∧
     (n ≤ (s.deck d).position →
       completes (.itemEnd d) s
         { ((s.setDeck d Deck.initial).setEntry d.source
             { s.entry d.source with state := .off, current := 0, remaining := 0, bound := none }) with
           sq := { (s.setDeck d Deck.initial).sq with
             tail := none
             done := (if s.sq.done.length < 8 then s.sq.done else s.sq.done.drop 1) ++
               [{ item := i.id, start := (s.deck d).startedAt, aired := (s.deck d).position
                  outcome := if i.skipped then .skipped else .complete }]
             doneOverflow := if s.sq.done.length < 8 then s.sq.doneOverflow else countUp s.sq.doneOverflow }
           ev := s.ev.raise .itemDone })) ∧
  (∀ (s : State) (d : DeckId) (h : Item) (tl : List Item) (n : Nat) (q : Sequencer), s.noBreakTaken → s.sq.state = .running →
     s.sq.list = h :: tl → s.sq.tail = none → (s.deck d).state = .playing → (s.deck d).item = some h.id →
     s.deck d.other = Deck.initial → h.length = some n → n ≤ (s.deck d).position → (∀ i ∈ tl, i.id ≠ h.id) →
     q = { (s.setDeck d Deck.initial).sq with
       list := tl, segueTaken := false, liveStart := none
       done := (if s.sq.done.length < 8 then s.sq.done else s.sq.done.drop 1) ++
         [{ item := h.id, start := (s.deck d).startedAt, aired := (s.deck d).position
            outcome := if h.skipped then .skipped else .complete }]
       doneOverflow := if s.sq.done.length < 8 then s.sq.doneOverflow else countUp s.sq.doneOverflow } →
     (tl = [] →
       completes (.itemEnd d) s
         { s.setEntry d.source { s.entry d.source with state := .off, current := 0, remaining := 0, bound := none } with
           sq := q, ev := s.ev.raise .itemDone }) ∧
     (∀ i : Item, tl = [i] → i.kind = .live →
       completes (.itemEnd d) s
         { s.setEntry d.source { s.entry d.source with state := .off, current := 0, remaining := 0, bound := none } with
           sq := { q with state := .halted, liveStart := some s.ev.clock }
           ev := (s.ev.raise .itemDone).raise .seqHalted }))

/-- SEGUE_POINT (R35): the head at its segue point, before its end, with the next item on a READY deck. The next item starts: its
deck PLAYING from 0 at the present air clock, its entry LIVE to the item gain over the fade-in; the old head is the tail; and
SEQ_ADVANCE is raised.

A LIVE next item halts the sequencer there (R40): the old head is the tail and goes on TAILING, the LIVE item is the head with its start
time, HALTED, SEQ_HALTED raised. A segue point that is not due changes nothing: the head is before it, or it has been taken (R35, R37;
log 5). -/
def Obligations.SeguePointStartsTheNextItem : Prop :=
  (∀ (s : State) (d : DeckId) (h n : Item) (rest : List Item) (len : Nat), s.sequenceSound → s.noBreakTaken →
     s.sq.state = .running → s.sq.list = h :: n :: rest → s.sq.tail = none →
     (s.deck d).state = .playing → (s.deck d).item = some h.id → h.length = some len →
     len - h.segue ≤ (s.deck d).position → (s.deck d).position < len → s.sq.segueTaken = false →
     n.kind ≠ .live → (s.deck d.other).state = .ready → (s.deck d.other).item = some n.id →
     n.fadeReached 0 = false → n.segueReached 0 = false →
     completes .seguePoint s
       { (((s.setDeck d { s.deck d with state := .tailing }).setDeck d.other
             { state := .playing, item := some n.id, position := 0, startedAt := some s.ev.clock, fadeTaken := false }).setEntry
           d.other.source
             (if (s.entry d.other.source).controller = .con then
               { s.entry d.other.source with
                 state := .live, current := (s.entry d.other.source).target, remaining := 0, faded := false }
              else ({ s.entry d.other.source with target := n.gain, faded := false : Entry }.setLive n.fadeIn))) with
         sq := { ((s.setDeck d { s.deck d with state := .tailing }).setDeck d.other
             { state := .playing, item := some n.id, position := 0, startedAt := some s.ev.clock, fadeTaken := false }).sq with
           list := n :: rest, tail := some h, liveStart := none }
         ev := s.ev.raise .seqAdvance }) ∧
  (∀ (s : State) (d : DeckId) (h n : Item) (len : Nat), s.noBreakTaken →
     s.sq.state = .running → s.sq.list = [h, n] → s.sq.tail = none → h.id ≠ n.id →
     (s.deck d).state = .playing → (s.deck d).item = some h.id → s.deck d.other = Deck.initial → h.length = some len →
     len - h.segue ≤ (s.deck d).position → (s.deck d).position < len → s.sq.segueTaken = false → n.kind = .live →
     completes .seguePoint s
       { s with
         sq := { (s.setDeck d { s.deck d with state := .tailing }).sq with
           list := [n], tail := some h, state := .halted, liveStart := some s.ev.clock }
         ev := s.ev.raise .seqHalted }) ∧
  (∀ s : State, s.noSignalStands → (s.headAtSegue = false ∨ s.sq.segueTaken = true) → completes .seguePoint s s)

/-- The stored form of an item's 18 bytes (R26): times in samples, every value clamped, and a LIVE item without them.

SEQ_APPEND to an empty sequence with both decks FREE: the item becomes the head and is cued on deck A at once, CUEING with its
entry bound, and CUE_REQUEST is raised (R28, R31, R33). -/
def Obligations.SeqAppendStoresAndCues : Prop :=
  (∀ (s : State) (rest more : List Byte) (i1 i0 k p l3 l2 l1 l0 g3 g2 g1 g0 fi1 fi0 fo1 fo0 v1 v0 : Byte),
     s.asks .aut rest ([i1, i0, k, p, l3, l2, l1, l0, g3, g2, g1, g0, fi1, fi0, fo1, fo0, v1, v0] ++ more) →
     s.noBreakTaken → s.sq.state ≠ .running → s.sq.deckA.state ≠ .free → s.sq.deckB.state ≠ .free →
     (word16 i1 i0 = 0 → turnedAway (.seqAppend .aut rest) s .aut (0x10#8 :: rest) .badState) ∧
     (word16 i1 i0 ≠ 0 → 3 < k.toNat → turnedAway (.seqAppend .aut rest) s .aut (0x10#8 :: rest) .unknown) ∧
     (word16 i1 i0 ≠ 0 → k.toNat ≤ 3 → 32 ≤ s.sq.list.length →
       turnedAway (.seqAppend .aut rest) s .aut (0x10#8 :: rest) .full) ∧
     (word16 i1 i0 ≠ 0 → k.toNat ≤ 3 → s.sq.list.length < 32 →
       word16 i1 i0 ∈ (s.sq.list ++ s.sq.tail.toList).map (·.id) →
       turnedAway (.seqAppend .aut rest) s .aut (0x10#8 :: rest) .duplicate) ∧
     ∀ i : Item, word16 i1 i0 ≠ 0 → k.toNat ≤ 3 → s.sq.list.length < 32 →
       word16 i1 i0 ∉ (s.sq.list ++ s.sq.tail.toList).map (·.id) →
       i.storedFrom i1 i0 k p l3 l2 l1 l0 g3 g2 g1 g0 fi1 fi0 fo1 fo0 v1 v0 →
       completes (.seqAppend .aut rest) s
         { s with sq := { s.sq with list := s.sq.list ++ [i] }, cl := s.replied .aut (0x10#8 :: rest) .done [] }) ∧
  (∀ (s : State) (rest more : List Byte) (i1 i0 k p l3 l2 l1 l0 g3 g2 g1 g0 fi1 fi0 fo1 fo0 v1 v0 : Byte),
     s.asks .aut rest ([i1, i0, k, p, l3, l2, l1, l0, g3, g2, g1, g0, fi1, fi0, fo1, fo0, v1, v0] ++ more) →
     s.noBreakTaken → s.sq.list = [] → s.sq.tail = none → s.sq.deckA = Deck.initial → s.sq.deckB = Deck.initial →
     word16 i1 i0 ≠ 0 → k.toNat < 3 →
     ∃ (t : State) (i : Item), completes (.seqAppend .aut rest) s t ∧ t.sq.list = [i] ∧
       i.storedFrom i1 i0 k p l3 l2 l1 l0 g3 g2 g1 g0 fi1 fi0 fo1 fo0 v1 v0 ∧
       t.sq.state = s.sq.state ∧ t.sq.deckB = Deck.initial ∧ t.sq.tail = none ∧ t.sq.done = s.sq.done ∧
       t.sq.deckA = { state := .cueing, item := some i.id, position := 0, startedAt := none, fadeTaken := false } ∧
       t.pb = { s.pb with roster := s.pb.roster.set .pla { s.entry .pla with bound := some i.id } } ∧
       t.ev = s.ev.raise .cueRequest ∧ t.cl = s.replied .aut (0x10#8 :: rest) .done [] ∧
       t.ap = s.ap ∧ t.ps = s.ps ∧ t.lc = s.lc ∧ t.du = s.du ∧ t.al = s.al ∧ t.air = s.air ∧ t.tl = s.tl ∧ t.pf = s.pf)

/-- SEQ_INSERT (R29): its checks are those of SEQ_APPEND in their order, then a named id outside the list is UNKNOWN. The item, stored
as SEQ_APPEND stores it (R26), stands directly after the named one. Behind the head, the deck that was cued for the old index 1 is
CUEING for the new item, with its entry bound and CUE_REQUEST raised; a LIVE item, which no deck is bound to, leaves that deck FREE
(log 18). Behind any other item no deck changes.

SEQ_REMOVE (R30): an id outside the list is UNKNOWN and the head BAD_STATE; an unbound item leaves without a record; a bound one
frees its deck and is recorded REMOVED_CUED, without a start and with 0 samples. -/
def Obligations.SeqInsertAndRemoveEditTheList : Prop :=
  (∀ (s : State) (rest more : List Byte) (a1 a0 i1 i0 k p l3 l2 l1 l0 g3 g2 g1 g0 fi1 fi0 fo1 fo0 v1 v0 : Byte),
     s.asks .aut rest ([a1, a0, i1, i0, k, p, l3, l2, l1, l0, g3, g2, g1, g0, fi1, fi0, fo1, fo0, v1, v0] ++ more) →
     (word16 i1 i0 = 0 → turnedAway (.seqInsert .aut rest) s .aut (0x11#8 :: rest) .badState) ∧
     (word16 i1 i0 ≠ 0 → 3 < k.toNat → turnedAway (.seqInsert .aut rest) s .aut (0x11#8 :: rest) .unknown) ∧
     (word16 i1 i0 ≠ 0 → k.toNat ≤ 3 → 32 ≤ s.sq.list.length →
       turnedAway (.seqInsert .aut rest) s .aut (0x11#8 :: rest) .full) ∧
     (word16 i1 i0 ≠ 0 → k.toNat ≤ 3 → s.sq.list.length < 32 →
       word16 i1 i0 ∈ (s.sq.list ++ s.sq.tail.toList).map (·.id) →
       turnedAway (.seqInsert .aut rest) s .aut (0x11#8 :: rest) .duplicate) ∧
     (word16 i1 i0 ≠ 0 → k.toNat ≤ 3 → s.sq.list.length < 32 →
       word16 i1 i0 ∉ (s.sq.list ++ s.sq.tail.toList).map (·.id) → word16 a1 a0 ∉ s.sq.list.map (·.id) →
       turnedAway (.seqInsert .aut rest) s .aut (0x11#8 :: rest) .unknown)) ∧
  (∀ (s : State) (rest more : List Byte) (a1 a0 i1 i0 k p l3 l2 l1 l0 g3 g2 g1 g0 fi1 fi0 fo1 fo0 v1 v0 : Byte) (i : Item),
     s.asks .aut rest ([a1, a0, i1, i0, k, p, l3, l2, l1, l0, g3, g2, g1, g0, fi1, fi0, fo1, fo0, v1, v0] ++ more) →
     s.noBreakTaken → s.sequenceSound → s.sq.state ≠ .running → s.sq.deckA.state ≠ .free → s.sq.deckB.state ≠ .free →
     word16 i1 i0 ≠ 0 → k.toNat ≤ 3 → s.sq.list.length < 32 → word16 i1 i0 ∉ (s.sq.list ++ s.sq.tail.toList).map (·.id) →
     i.storedFrom i1 i0 k p l3 l2 l1 l0 g3 g2 g1 g0 fi1 fi0 fo1 fo0 v1 v0 →
     (∀ (pre : List Item) (x : Item) (post : List Item), s.sq.list = pre ++ x :: post → x.id = word16 a1 a0 →
       (pre ≠ [] ∨ ∀ y, post.head? = some y → s.sq.deckA.item ≠ some y.id ∧ s.sq.deckB.item ≠ some y.id) →
       completes (.seqInsert .aut rest) s
         { s with sq := { s.sq with list := pre ++ x :: i :: post }, cl := s.replied .aut (0x11#8 :: rest) .done [] }) ∧
     (∀ (h y : Item) (post : List Item) (d : DeckId), s.sq.list = h :: y :: post → h.id = word16 a1 a0 →
       (s.deck d).item = some y.id → (s.deck d.other).item ≠ some y.id →
       ((s.deck d).state = .cueing ∨ (s.deck d).state = .ready) →
       (i.kind ≠ .live →
         completes (.seqInsert .aut rest) s
           { ((s.setDeck d { state := .cueing, item := some i.id, position := 0, startedAt := none
                             fadeTaken := false }).setEntry d.source { s.entry d.source with bound := some i.id }) with
             sq := { (s.setDeck d { state := .cueing, item := some i.id, position := 0, startedAt := none
                                    fadeTaken := false }).sq with list := h :: i :: y :: post }
             ev := s.ev.raise .cueRequest
             cl := s.replied .aut (0x11#8 :: rest) .done [] }) ∧
       (i.kind = .live → (s.deck d.other).item = some h.id →
         completes (.seqInsert .aut rest) s
           { ((s.setDeck d Deck.initial).setEntry d.source { s.entry d.source with bound := none }) with
             sq := { (s.setDeck d Deck.initial).sq with list := h :: i :: y :: post }
             cl := s.replied .aut (0x11#8 :: rest) .done [] }))) ∧
  (∀ (s : State) (rest more : List Byte) (i1 i0 : Byte), s.asks .aut rest (i1 :: i0 :: more) → s.noBreakTaken →
     s.sq.state ≠ .running → s.sq.deckA.state ≠ .free → s.sq.deckB.state ≠ .free →
     (word16 i1 i0 ∉ s.sq.list.map (·.id) → turnedAway (.seqRemove .aut rest) s .aut (0x12#8 :: rest) .unknown) ∧
     (∀ (h : Item) (tl : List Item), s.sq.list = h :: tl →
       (h.id = word16 i1 i0 → turnedAway (.seqRemove .aut rest) s .aut (0x12#8 :: rest) .badState) ∧
       (h.id ≠ word16 i1 i0 → word16 i1 i0 ∈ tl.map (·.id) →
         s.sq.deckA.item ≠ some (word16 i1 i0) → s.sq.deckB.item ≠ some (word16 i1 i0) →
         completes (.seqRemove .aut rest) s
           { s with sq := { s.sq with list := h :: tl.filter (fun i => i.id ≠ word16 i1 i0) }
                    cl := s.replied .aut (0x12#8 :: rest) .done [] })) ∧
     (∀ (h x : Item) (d : DeckId), s.sq.list = [h, x] → x.id = word16 i1 i0 → h.id ≠ x.id →
       (s.deck d).item = some x.id → (s.deck d.other).item = some h.id →
       completes (.seqRemove .aut rest) s
         { ((s.setDeck d Deck.initial).setEntry d.source { s.entry d.source with bound := none }) with
           sq := { (s.setDeck d Deck.initial).sq with
             list := [h]
             done := (if s.sq.done.length < 8 then s.sq.done else s.sq.done.drop 1) ++
               [{ item := x.id, start := none, aired := 0, outcome := .removedCued }]
             doneOverflow := if s.sq.done.length < 8 then s.sq.doneOverflow else countUp s.sq.doneOverflow }
           ev := s.ev.raise .itemDone
           cl := s.replied .aut (0x12#8 :: rest) .done [] }))

/-- SEQ_READY with the sequencer not RUNNING (R34): a CUEING deck with that item is READY; a READY one is left, answered DONE; every
other case is UNKNOWN.

SEQ_READY that completes a waiting start (R34, R36): RUNNING with no deck PLAYING and the head CUEING; the head starts at once with
SEQ_ADVANCE and LATE_START. -/
def Obligations.SeqReadyAndTheLateStart : Prop :=
  (∀ (s : State) (rest more : List Byte) (i1 i0 c : Byte), s.asks .aut rest (i1 :: i0 :: c :: more) → s.noBreakTaken →
     s.sq.state ≠ .running → s.sq.deckA.state ≠ .free → s.sq.deckB.state ≠ .free →
     (1 < c.toNat → turnedAway (.seqReady .aut rest) s .aut (0x13#8 :: rest) .unknown) ∧
     ∀ d : DeckId, c.toNat = (if d = .a then 0 else 1) →
       ((s.deck d).item ≠ some (word16 i1 i0) ∨ (s.deck d).run = true ∨ (s.deck d).state = .paused →
         turnedAway (.seqReady .aut rest) s .aut (0x13#8 :: rest) .unknown) ∧
       ((s.deck d).item = some (word16 i1 i0) → (s.deck d).state = .ready →
         turnedAway (.seqReady .aut rest) s .aut (0x13#8 :: rest) .done) ∧
       ((s.deck d).item = some (word16 i1 i0) → (s.deck d).state = .cueing →
         completes (.seqReady .aut rest) s
           { s.setDeck d { s.deck d with state := .ready } with cl := s.replied .aut (0x13#8 :: rest) .done [] })) ∧
  (∀ (s : State) (rest more : List Byte) (i1 i0 c : Byte) (d : DeckId) (h : Item),
     s.asks .aut rest (i1 :: i0 :: c :: more) → s.noBreakTaken → c.toNat = (if d = .a then 0 else 1) →
     s.sq.state = .running → s.sq.list = [h] → h.kind ≠ .live → h.id = word16 i1 i0 → s.sq.tail = none →
     (s.deck d).state = .cueing → (s.deck d).item = some h.id → s.deck d.other = Deck.initial →
     h.fadeReached 0 = false → (s.entry d.source).controller = .aut →
     ∃ t, completes (.seqReady .aut rest) s t ∧ t.sq.list = [h] ∧ t.sq.tail = none ∧ t.sq.state = .running ∧
       t.deck d = { state := .playing, item := some h.id, position := 0, startedAt := some s.ev.clock, fadeTaken := false } ∧
       t.deck d.other = Deck.initial ∧
       t.pb = { s.pb with roster := s.pb.roster.set d.source ({ s.entry d.source with target := h.gain, faded := false : Entry }.setLive h.fadeIn) } ∧
       t.ev = (s.ev.raise .seqAdvance).raise .lateStart ∧ t.cl = s.replied .aut (0x13#8 :: rest) .done [] ∧
       t.sq.done = s.sq.done ∧ t.ap = s.ap ∧ t.ps = s.ps ∧ t.lc = s.lc ∧ t.du = s.du ∧ t.al = s.al ∧ t.air = s.air ∧
       t.tl = s.tl ∧ t.pf = s.pf)

/-- SEQ_START (R45): DONE and nothing while RUNNING or HALTED; BAD_STATE with a record on the stack or off the air; otherwise RUNNING,
and a head PAUSED alone plays on from its position, its OFF entry set LIVE over the item's fade-in toward the target it holds; a segue
point that lies behind it is taken (R47).

SEQ_STOP (R44): BAD_STATE with a record on the stack, DONE and nothing while STOPPED; while RUNNING or HALTED the sequencer is
STOPPED, every PLAYING or TAILING deck PAUSED at its position, a segue point that the head has reached taken with the stop (R47;
log 43), and nothing else changes. -/
def Obligations.SeqStartAndStop : Prop :=
  (∀ (s : State) (l : LaneId) (rest body : List Byte), s.asks l rest body → l ≠ .alr → s.noBreakTaken →
     (s.sq.state = .running ∨ s.sq.state = .halted → turnedAway (.seqStart l rest) s l (0x14#8 :: rest) .done) ∧
     (s.sq.state = .stopped ∨ s.sq.state = .preempted → s.ps.records ≠ [] ∨ s.air.state ≠ .onAir →
       turnedAway (.seqStart l rest) s l (0x14#8 :: rest) .badState) ∧
     (s.sq.state = .stopped → s.ps.records = [] → s.air.state = .onAir →
       (s.sq.list = [] → s.sq.deckA = Deck.initial → s.sq.deckB = Deck.initial →
         completes (.seqStart l rest) s
           { s with sq := { s.sq with state := .running }, cl := s.replied l (0x14#8 :: rest) .done [] }) ∧
       ∀ (d : DeckId) (h : Item), s.sq.list = [h] → s.sq.tail = none → h.kind ≠ .live → (s.deck d).state = .paused →
         (s.deck d).item = some h.id → s.deck d.other = Deck.initial → (s.entry d.source).state = .off →
         (s.entry d.source).controller = .aut →
         completes (.seqStart l rest) s
           { ((s.setDeck d { s.deck d with state := .playing }).setEntry d.source ((s.entry d.source).setLive h.fadeIn)) with
             sq := { (s.setDeck d { s.deck d with state := .playing }).sq with
               state := .running, segueTaken := s.sq.segueTaken || h.segueReached (s.deck d).position }
             cl := s.replied l (0x14#8 :: rest) .done [] })) ∧
  (∀ (s : State) (l : LaneId) (rest body : List Byte), s.asks l rest body → l ≠ .alr → s.noBreakTaken →
     (s.ps.records ≠ [] → turnedAway (.seqStop l rest) s l (0x15#8 :: rest) .badState) ∧
     (s.ps.records = [] → s.sq.state = .stopped → turnedAway (.seqStop l rest) s l (0x15#8 :: rest) .done) ∧
     (s.ps.records = [] → s.sq.state = .running ∨ s.sq.state = .halted →
       completes (.seqStop l rest) s
         { s with
           sq := { s.sq with
             deckA := if s.sq.deckA.state = .playing ∨ s.sq.deckA.state = .tailing then { s.sq.deckA with state := .paused }
                      else s.sq.deckA
             deckB := if s.sq.deckB.state = .playing ∨ s.sq.deckB.state = .tailing then { s.sq.deckB with state := .paused }
                      else s.sq.deckB
             state := .stopped
             segueTaken := s.sq.segueTaken || (s.sq.state = .running && s.headAtSegue) }
           cl := s.replied l (0x15#8 :: rest) .done [] }))

/-- SEQ_SKIP (R42, R43): BAD_STATE outside RUNNING and NOTHING with an empty list (log 17); a PLAYING head not longer than its position
plus its fade-out is left; a longer one is given that length and its skipped mark, and fades out from now. A head that waits to start leaves
with a SKIPPED record, without a start and with 0 samples: from a deck on which it is CUEING or READY, which becomes FREE with its entry's
bound item cleared, alone or with an item behind it that is CUEING on the other deck and then waits; or alone and without a deck.

SEQ_CONTINUE (R41): BAD_STATE outside HALTED; a halt on the only item ends: its record COMPLETE with the sample periods it stood as
head, the list empty, the sequencer RUNNING with nothing to start. An item behind it on a READY deck starts at once: PLAYING from 0 at the
present air clock, its entry LIVE to the item gain over the fade-in, SEQ_ADVANCE raised and no LATE_START. -/
def Obligations.SeqSkipAndContinue : Prop :=
  (∀ (s : State) (l : LaneId) (rest body : List Byte), s.asks l rest body → l ≠ .alr → s.noBreakTaken →
     (s.sq.state ≠ .running → turnedAway (.seqSkip l rest) s l (0x16#8 :: rest) .badState) ∧
     (s.sq.state = .running → s.sq.list = [] → turnedAway (.seqSkip l rest) s l (0x16#8 :: rest) .nothing) ∧
     (∀ (d : DeckId) (h : Item) (tl : List Item) (n : Nat), s.sq.state = .running → s.sq.list = h :: tl →
       (s.deck d).state = .playing → (s.deck d.other).state ≠ .playing → n = (s.deck d).position + h.fadeOut →
       ((∃ len, h.length = some len ∧ len ≤ n) → turnedAway (.seqSkip l rest) s l (0x16#8 :: rest) .done) ∧
       ((h.length = none ∨ ∃ len, h.length = some len ∧ n < len) → h.segue < h.fadeOut →
         (s.entry d.source).state = .live → (s.entry d.source).controller = .aut →
         completes (.seqSkip l rest) s
           { ((s.setDeck d { s.deck d with fadeTaken := true }).setEntry d.source
               { s.entry d.source with target := 0, remaining := h.fadeOut, faded := true }) with
             sq := { (s.setDeck d { s.deck d with fadeTaken := true }).sq with
               list := { h with length := some n, skipped := true } :: tl }
             cl := s.replied l (0x16#8 :: rest) .done [] })) ∧
     (∀ (d : DeckId) (h : Item) (tl : List Item), s.sq.state = .running → s.sq.list = h :: tl →
       (s.deck d).item = some h.id → ((s.deck d).state = .cueing ∨ (s.deck d).state = .ready) →
       (s.deck d.other).state ≠ .playing → (s.deck d.other).item ≠ some h.id →
       (tl = [] ∨ ∃ n, tl = [n] ∧ n.kind ≠ .live ∧ (s.deck d.other).state = .cueing ∧ (s.deck d.other).item = some n.id) →
       completes (.seqSkip l rest) s
         { ((s.setDeck d Deck.initial).setEntry d.source { s.entry d.source with bound := none }) with
           sq := { (s.setDeck d Deck.initial).sq with
             list := tl, segueTaken := false, liveStart := none
             done := (if s.sq.done.length < 8 then s.sq.done else s.sq.done.drop 1) ++
               [{ item := h.id, start := none, aired := 0, outcome := .skipped }]
             doneOverflow := if s.sq.done.length < 8 then s.sq.doneOverflow else countUp s.sq.doneOverflow }
           ev := s.ev.raise .itemDone
           cl := s.replied l (0x16#8 :: rest) .done [] }) ∧
     (∀ h : Item, s.sq.state = .running → s.sq.list = [h] → s.sq.deckA.run = false → s.sq.deckB.run = false →
       s.sq.deckA.item ≠ some h.id → s.sq.deckB.item ≠ some h.id →
       completes (.seqSkip l rest) s
         { s with
           sq := { s.sq with
             list := [], segueTaken := false, liveStart := none
             done := (if s.sq.done.length < 8 then s.sq.done else s.sq.done.drop 1) ++
               [{ item := h.id, start := none, aired := 0, outcome := .skipped }]
             doneOverflow := if s.sq.done.length < 8 then s.sq.doneOverflow else countUp s.sq.doneOverflow }
           ev := s.ev.raise .itemDone
           cl := s.replied l (0x16#8 :: rest) .done [] })) ∧
  (∀ (s : State) (rest body : List Byte), s.asks .con rest body → s.noBreakTaken →
     (s.sq.state ≠ .halted → turnedAway (.seqContinue .con rest) s .con (0x17#8 :: rest) .badState) ∧
     ∀ (h : Item) (t0 : Clock) (q : Sequencer), s.sq.state = .halted → s.sq.liveStart = some t0 →
       q = { s.sq with
         list := s.sq.list.drop 1, segueTaken := false, liveStart := none, state := .running
         done := (if s.sq.done.length < 8 then s.sq.done else s.sq.done.drop 1) ++
           [{ item := h.id, start := some t0, aired := (s.ev.clock - t0).toNat, outcome := .complete }]
         doneOverflow := if s.sq.done.length < 8 then s.sq.doneOverflow else countUp s.sq.doneOverflow } →
       (s.sq.list = [h] →
         completes (.seqContinue .con rest) s
           { s with sq := q, ev := s.ev.raise .itemDone, cl := s.replied .con (0x17#8 :: rest) .done [] }) ∧
       (∀ (n : Item) (d : DeckId), s.sq.list = [h, n] → s.sq.tail = none → n.kind ≠ .live → (s.deck d).state = .ready →
         (s.deck d).item = some n.id → s.deck d.other = Deck.initial → n.fadeReached 0 = false → n.segueReached 0 = false →
         completes (.seqContinue .con rest) s
           { s.setEntry d.source
               (if (s.entry d.source).controller = .con then
                 { s.entry d.source with
                   state := .live, current := (s.entry d.source).target, remaining := 0, faded := false }
                else ({ s.entry d.source with target := n.gain, faded := false : Entry }.setLive n.fadeIn)) with
             sq := q.setDeck d
               { state := .playing, item := some n.id, position := 0, startedAt := some s.ev.clock, fadeTaken := false }
             ev := (s.ev.raise .itemDone).raise .seqAdvance
             cl := s.replied .con (0x17#8 :: rest) .done [] }))

/-- DONE_READ (R49): the oldest record leaves the list and is returned in 12 bytes; an empty list is answered NOTHING.

LOG_READ (R129, R184): from any lane, the record at that place from the newest, in 22 bytes; NOTHING past the records held, UNKNOWN
past 31. Nothing but the lane changes. -/
def Obligations.RecordsAreReadOut : Prop :=
  (∀ (s : State) (rest body : List Byte), s.asks .aut rest body →
     (s.sq.done = [] → turnedAway (.doneRead .aut rest) s .aut (0x18#8 :: rest) .nothing) ∧
     ∀ (r : DoneRecord) (rs : List DoneRecord), s.sq.done = r :: rs →
       completes (.doneRead .aut rest) s
         { s with
           sq := { s.sq with done := rs }
           cl := s.replied .aut (0x18#8 :: rest) .done
             (bytesOf 2 r.item ++ bytesOf 1 ((if r.start.isSome then 1 else 0) + 2 * r.outcome.code) ++
               bytesOf 4 (r.start.getD 0#32).toNat ++ bytesOf 4 r.aired ++ [0#8]) }) ∧
  (∀ (s : State) (l : LaneId) (rest more : List Byte) (i : Byte), s.asks l rest (i :: more) →
     (31 < i.toNat → turnedAway (.logRead l rest) s l (0x03#8 :: rest) .unknown) ∧
     (i.toNat ≤ 31 → s.al.log.length ≤ i.toNat → turnedAway (.logRead l rest) s l (0x03#8 :: rest) .nothing) ∧
     (∀ r : LogRecord, i.toNat ≤ 31 → s.al.log[i.toNat]? = some r →
       completes (.logRead l rest) s
         { s with
           cl := s.replied l (0x03#8 :: rest) .done
             (bytesOf 2 r.number ++ bytesOf 4 r.id ++ bytesOf 1 r.cls.code ++ bytesOf 1 r.originator ++
               bytesOf 1 r.outcome.code ++ bytesOf 1 (if r.airing.isSome then 1 else 0) ++ bytesOf 4 r.arrival.toNat ++
               bytesOf 4 ((r.airing.map (·.start)).getD 0#32).toNat ++ bytesOf 4 ((r.airing.map (·.ms)).getD 0)) }))

/-! ### Telephone lines -/

/-- LINE_ANSWER (R75): a RINGING line becomes SCREEN with seize on, the loop-low count at 0, no ring timer, and its feed select screen,
or alert while an alert phase is active; in any other state it is BAD_STATE, and a code outside 1 to 4 is UNKNOWN (R72).

LINE_SCREEN (R78): a line in HOLD or READY becomes SCREEN; its hold period ends; a READY line leaves the caller queue, the others in
their order, and QUEUE_CHANGE is raised. In any other state it is BAD_STATE. Every record on the stack marks the line as gone, so that
no pop offers it back (R66, R88; the mark is the model's own, log 9). -/
def Obligations.LineAnswerAndScreen : Prop :=
  (∀ (s : State) (rest more : List Byte) (c : Byte), s.asks .con rest (c :: more) →
     (lineOf c = none → turnedAway (.lineAnswer .con rest) s .con (0x30#8 :: rest) .unknown) ∧
     ∀ n : LineId, lineOf c = some n →
       ((s.line n).state ≠ .ringing → turnedAway (.lineAnswer .con rest) s .con (0x30#8 :: rest) .badState) ∧
       ((s.line n).state = .ringing → (s.line n).sound s.alertActive →
         completes (.lineAnswer .con rest) s
           { s with
             lc := { s.lc with
               lines := s.lc.lines.set n
                 { s.line n with state := .screen, seize := true, loopLow := 0, ringTimer := none, holdStart := none
                                 holdLong := false, feed := if s.al.onAir.isSome then .alert else .screen } }
             cl := s.replied .con (0x30#8 :: rest) .done [] })) ∧
  (∀ (s : State) (rest more : List Byte) (c : Byte), s.asks .con rest (c :: more) → s.linesSound →
     (lineOf c = none → turnedAway (.lineScreen .con rest) s .con (0x31#8 :: rest) .unknown) ∧
     ∀ n : LineId, lineOf c = some n →
       ((s.line n).state ≠ .hold → (s.line n).state ≠ .ready →
         turnedAway (.lineScreen .con rest) s .con (0x31#8 :: rest) .badState) ∧
       ((s.line n).state = .hold ∨ (s.line n).state = .ready →
         completes (.lineScreen .con rest) s
           { s with
             lc := { s.lc with
               queue := s.lc.queue.filter (· ≠ n)
               lines := s.lc.lines.set n
                 { s.line n with state := .screen, holdStart := none, holdLong := false
                                 feed := if s.al.onAir.isSome then .alert else .screen } }
             ps := { s.ps with records := s.ps.records.map fun r => { r with gone := r.gone.set n true } }
             ev := if (s.line n).state = .ready then s.ev.raise .queueChange else s.ev
             cl := s.replied .con (0x31#8 :: rest) .done [] }))

/-- LINE_HOLD (R76, R83): a line in SCREEN or ON_AIR becomes HOLD and its hold period begins; from ON_AIR its entry is set RELEASING over
the take fade. In any other state it is BAD_STATE.

LINE_READY (R77): a line in SCREEN or HOLD becomes READY and joins the caller queue, at its head with the front option and at its tail
without; from SCREEN a hold period begins, from HOLD it goes on. QUEUE_CHANGE is raised. In any other state it is BAD_STATE. Every
record on the stack marks the line as gone, so that no pop offers it back (R66, R88; the mark is the model's own, log 9). -/
def Obligations.LineHoldAndReadyBeginAHold : Prop :=
  (∀ (s : State) (rest more : List Byte) (c : Byte), s.asks .con rest (c :: more) → s.linesSound →
     (lineOf c = none → turnedAway (.lineHold .con rest) s .con (0x32#8 :: rest) .unknown) ∧
     ∀ n : LineId, lineOf c = some n →
       ((s.line n).state ≠ .screen → (s.line n).state ≠ .onAir →
         turnedAway (.lineHold .con rest) s .con (0x32#8 :: rest) .badState) ∧
       ((s.line n).state = .screen ∨ (s.line n).state = .onAir →
         completes (.lineHold .con rest) s
           { s with
             lc := { s.lc with
               lines := s.lc.lines.set n
                 { s.line n with state := .hold, holdStart := some s.ev.clock, holdLong := false
                                 feed := if s.al.onAir.isSome then .alert else .hold } }
             pb := if (s.line n).state = .onAir then
                 { s.pb with
                   roster := s.pb.roster.set n.source
                     ((s.entry n.source).setReleasing (min s.pf.working.takeFade 10000 * 48)) }
               else s.pb
             cl := s.replied .con (0x32#8 :: rest) .done [] })) ∧
  (∀ (s : State) (rest more : List Byte) (c b : Byte), s.asks .con rest (c :: b :: more) → s.linesSound →
     (lineOf c = none → turnedAway (.lineReady .con rest) s .con (0x33#8 :: rest) .unknown) ∧
     ∀ n : LineId, lineOf c = some n →
       ((s.line n).state ≠ .screen → (s.line n).state ≠ .hold →
         turnedAway (.lineReady .con rest) s .con (0x33#8 :: rest) .badState) ∧
       ((s.line n).state = .screen ∨ (s.line n).state = .hold →
         completes (.lineReady .con rest) s
           { s with
             lc := { s.lc with
               queue := if b.getLsbD 0 then n :: s.lc.queue else s.lc.queue ++ [n]
               lines := s.lc.lines.set n
                 { s.line n with state := .ready
                                 holdStart := if (s.line n).state = .hold then (s.line n).holdStart else some s.ev.clock
                                 holdLong := (s.line n).state = .hold && (s.line n).holdLong
                                 feed := if s.al.onAir.isSome then .alert else .hold } }
             ps := { s.ps with records := s.ps.records.map fun r => { r with gone := r.gone.set n true } }
             ev := s.ev.raise .queueChange
             cl := s.replied .con (0x33#8 :: rest) .done [] }))

/-- LINE_AIR's checks in their order (R79): UNKNOWN for a code that is neither NEXT nor 1 to 4; BAD_STATE during an alert phase; NOTHING for
NEXT with an empty queue; BAD_STATE for a line not in SCREEN, HOLD or READY; FULL with two lines on air.

LINE_AIR taken (R79, R83): the line ON_AIR with its mix-minus feed, out of the queue with QUEUE_CHANGE when it was READY, its hold period
ended, and its entry set LIVE over the take fade. NEXT names the head of the queue. -/
def Obligations.LineAirPutsTheCallerOnAir : Prop :=
  (∀ (s : State) (rest more : List Byte) (c : Byte), s.asks .con rest (c :: more) → s.linesSound →
     (c ≠ 0#8 → lineOf c = none → turnedAway (.lineAir .con rest) s .con (0x34#8 :: rest) .unknown) ∧
     (c = 0#8 ∨ lineOf c ≠ none → s.al.onAir ≠ none → turnedAway (.lineAir .con rest) s .con (0x34#8 :: rest) .badState) ∧
     (c = 0#8 → s.al.onAir = none → s.lc.queue = [] → turnedAway (.lineAir .con rest) s .con (0x34#8 :: rest) .nothing) ∧
     ∀ n : LineId, (c = 0#8 ∧ s.lc.queue.head? = some n ∨ lineOf c = some n) → s.al.onAir = none →
       ((s.line n).state ≠ .screen → (s.line n).state ≠ .hold → (s.line n).state ≠ .ready →
         turnedAway (.lineAir .con rest) s .con (0x34#8 :: rest) .badState) ∧
       ((s.line n).state = .screen ∨ (s.line n).state = .hold ∨ (s.line n).state = .ready → s.lc.onAirCount = 2 →
         turnedAway (.lineAir .con rest) s .con (0x34#8 :: rest) .full)) ∧
  (∀ (s : State) (rest more : List Byte) (c : Byte) (n : LineId), s.asks .con rest (c :: more) → s.linesSound →
     (c = 0#8 ∧ s.lc.queue.head? = some n ∨ lineOf c = some n) → s.al.onAir = none → s.lc.onAirCount < 2 →
     ((s.line n).state = .screen ∨ (s.line n).state = .hold ∨ (s.line n).state = .ready) →
     completes (.lineAir .con rest) s
       { s with
         lc := { s.lc with
           queue := s.lc.queue.filter (· ≠ n)
           lines := s.lc.lines.set n
             { s.line n with state := .onAir, holdStart := none, holdLong := false, feed := .mixMinus } }
         pb := { s.pb with
           roster := s.pb.roster.set n.source ((s.entry n.source).setLive (min s.pf.working.takeFade 10000 * 48)) }
         ev := if (s.line n).state = .ready then s.ev.raise .queueChange else s.ev
         cl := s.replied .con (0x34#8 :: rest) .done [] })

/-- LINE_DROP of a seized line, and LOOP_LOSS with 19,200 low samples counted (R71, R80, R81): IDLE with seize off, no hold period, out of
the queue, an ON_AIR line's entry RELEASING over the take fade; LOOP_LOSS raises LINE_DROP as well. Every record on the stack marks the
line as gone, so that no pop offers it back (R66, R88; the mark is the model's own, log 9). An unseized line is BAD_STATE, and no loss is
due under the count (log 5). -/
def Obligations.LineDropReleasesTheCall : Prop :=
  ∀ (s : State) (rest more : List Byte) (c : Byte) (n : LineId) (lc : LineController) (pb : ProgramBus) (ps : Stack)
    (ev : EventUnit), s.linesSound →
    lc = { s.lc with
      queue := s.lc.queue.filter (· ≠ n)
      lines := s.lc.lines.set n
        { s.line n with state := .idle, seize := false, holdStart := none, holdLong := false, feed := .hold, loopLow := 0 } } →
    pb = (if (s.line n).state = .onAir then
      { s.pb with roster := s.pb.roster.set n.source ((s.entry n.source).setReleasing (min s.pf.working.takeFade 10000 * 48)) }
      else s.pb) →
    ps = { s.ps with records := s.ps.records.map fun r => { r with gone := r.gone.set n true } } →
    ev = (if (s.line n).state = .ready then s.ev.raise .queueChange else s.ev) →
    (s.asks .con rest (c :: more) → lineOf c = none →
      turnedAway (.lineDrop .con rest) s .con (0x35#8 :: rest) .unknown) ∧
    (s.asks .con rest (c :: more) → lineOf c = some n → (s.line n).seize = false →
      turnedAway (.lineDrop .con rest) s .con (0x35#8 :: rest) .badState) ∧
    (s.asks .con rest (c :: more) → lineOf c = some n → (s.line n).seize = true →
      completes (.lineDrop .con rest) s
        { s with lc := lc, pb := pb, ps := ps, ev := ev, cl := s.replied .con (0x35#8 :: rest) .done [] }) ∧
    ((s.line n).seize = true → 19200 ≤ (s.line n).loopLow →
      completes (.loopLoss n) s { s with lc := lc, pb := pb, ps := ps, ev := ev.raise .lineDrop }) ∧
    ((s.line n).seize = false ∨ (s.line n).loopLow < 19200 → completes (.loopLoss n) s s)

/-- RING_FILTER_ARMED and RING_BURST (R71, R73). 4,800 low samples arm the filter; 4,800 high ones then give a burst, and the filter waits
for low again. The burst makes an IDLE line RINGING with LINE_RING, sets a RINGING line's gap to 0, and is discarded by a seized line.

RING_EXPIRY (R74) and HOLD_LONG (R85). A RINGING line gives up at a gap of 384,000 or at the ring timeout: IDLE, one more missed call,
LINE_MISSED. A hold period that reaches the hold limit is reported once. Before those limits neither changes anything (log 5). -/
def Obligations.LineTimersAndTheRingFilter : Prop :=
  (∀ (s : State) (n : LineId), s.linesSound →
     ((s.line n).ringStage = .waitingLow → 4800 ≤ (s.line n).ringLevel →
       completes (.ringFilterArmed n) s
         { s with lc := { s.lc with lines := s.lc.lines.set n { s.line n with ringStage := .countingHigh, ringLevel := 0 } } }) ∧
     ((s.line n).ringStage = .countingHigh ∨ (s.line n).ringLevel < 4800 → completes (.ringFilterArmed n) s s) ∧
     ((s.line n).ringStage = .waitingLow ∨ (s.line n).ringLevel < 4800 → completes (.ringBurst n) s s) ∧
     ((s.line n).ringStage = .countingHigh → 4800 ≤ (s.line n).ringLevel →
       ((s.line n).state = .idle →
         ∃ r : LineRec, r = { s.line n with ringStage := .waitingLow, ringLevel := 0, state := .ringing
                                            ringTimer := some { gap := 0, total := 0 }, holdStart := none, holdLong := false
                                            loopLow := 0 } ∧
           completes (.ringBurst n) s { s with lc := { s.lc with lines := s.lc.lines.set n r }, ev := s.ev.raise .lineRing }) ∧
       (∀ t : RingTimer, (s.line n).state = .ringing → (s.line n).ringTimer = some t →
         completes (.ringBurst n) s
           { s with lc := { s.lc with
               lines := s.lc.lines.set n { s.line n with ringStage := .waitingLow, ringLevel := 0
                                                         ringTimer := some { gap := 0, total := t.total } } } }) ∧
       ((s.line n).seize = true →
         completes (.ringBurst n) s
           { s with lc := { s.lc with lines := s.lc.lines.set n { s.line n with ringStage := .waitingLow, ringLevel := 0 } } }))) ∧
  (∀ (s : State) (n : LineId), s.linesSound →
     (∀ t : RingTimer, (s.line n).state = .ringing → (s.line n).ringTimer = some t →
       (t.gap < 384000 → t.total < s.pf.working.ringTimeout * 48000 → completes (.ringExpiry n) s s) ∧
       (384000 ≤ t.gap ∨ s.pf.working.ringTimeout * 48000 ≤ t.total →
         completes (.ringExpiry n) s
           { s with
             lc := { s.lc with
               missed := countUp s.lc.missed
               lines := s.lc.lines.set n
                 { s.line n with state := .idle, ringTimer := none, holdStart := none, holdLong := false, loopLow := 0 } }
             ev := s.ev.raise .lineMissed })) ∧
     (∀ t0 : Clock, ((s.line n).state = .hold ∨ (s.line n).state = .ready) → (s.line n).holdStart = some t0 →
       ((s.line n).holdLong = true ∨ (s.ev.clock - t0).toNat < s.pf.working.holdLimit * 48000 →
         completes (.holdLong n) s s) ∧
       ((s.line n).holdLong = false → s.pf.working.holdLimit * 48000 ≤ (s.ev.clock - t0).toNat →
         completes (.holdLong n) s
           { s with lc := { s.lc with lines := s.lc.lines.set n { s.line n with holdLong := true } }
                    ev := s.ev.raise .holdLong })))

/-! ### Delay requests -/

/-- DELAY_TARGET (R93, R94, R99): the value clamped to 4,000 blocks. While FROZEN it is the pending target; otherwise T, with the mode
as T compares with H and the step counter at 0 when the mode changes.

DELAY_DUMP (R100, R101): the smaller of H and the dump size leaves the oldest end, the dump is counted and DELAY_DUMP raised; the mode
stays FROZEN or follows from what is left. An amount of 0 changes nothing. The reply is DONE either way. -/
def Obligations.DelayTargetAndDump : Prop :=
  (∀ (s : State) (rest more : List Byte) (b1 b0 : Byte) (t : Nat) (m : DelayMode), s.asks .con rest (b1 :: b0 :: more) →
     t = min (word16 b1 b0) 4000 * 480 →
     m = (if s.du.store.length < t then .building else if t < s.du.store.length then .catching
          else if t = 0 then .idle else .steady) →
     (s.du.mode = .frozen →
       completes (.delayTarget .con rest) s
         { s with du := { s.du with pendingTarget := some t }, cl := s.replied .con (0x38#8 :: rest) .done [] }) ∧
     (s.du.mode ≠ .frozen →
       completes (.delayTarget .con rest) s
         { s with du := { s.du with target := t, mode := m, step := if s.du.mode = m then s.du.step else 0 }
                  cl := s.replied .con (0x38#8 :: rest) .done [] })) ∧
  (∀ (s : State) (rest body : List Byte) (k : Nat) (m : DelayMode), s.asks .con rest body →
     k = min s.du.store.length (s.pf.working.dumpSize * 480) →
     m = (if s.du.mode = .frozen then .frozen else if s.du.store.length - k < s.du.target then .building
          else if s.du.target < s.du.store.length - k then .catching else if s.du.target = 0 then .idle else .steady) →
     (k = 0 → turnedAway (.delayDump .con rest) s .con (0x39#8 :: rest) .done) ∧
     (0 < k →
       completes (.delayDump .con rest) s
         { s with
           du := { s.du with store := s.du.store.drop k, dumps := if s.du.dumps < 65535 then s.du.dumps + 1 else s.du.dumps
                             mode := m, step := if s.du.mode = m then s.du.step else 0 }
           ev := s.ev.raise .delayDump
           cl := s.replied .con (0x39#8 :: rest) .done [] }))

/-! ### Alert unit -/

/-- A notice that is not well-formed (R108): a body shorter than its region list asks, or more than 8 codes, is BAD_LENGTH; a class or
urgency code that names none is UNKNOWN. Neither changes anything. That a notice with both faults is answered BAD_LENGTH is the model's
choice (log 41): R108 gives no order of the two.

A well-formed notice without regions, through the checks of R109 in their order: DUPLICATE, uncounted; FILTERED, a TEST while
air tests are off (R110); NOT_AIRED off air (R111); and, while STARTING with room in the table, entered behind every alert of its own or
a higher class with ALERT_PENDING (R112, R113). Each notice past the first check is counted, and each stopped one logged (R128).

A notice with regions, none of them in a profile region list that is not empty, is FILTERED whatever its class (R110). Against a table of
8, a notice above the lowest class present takes the place of the last alert, logged SUPERSEDED; one of that class or below is logged
DROPPED and refused FULL, without ALERT_PENDING (R113). -/
def Obligations.NoticeChecksInOrder : Prop :=
  (∀ (s : State) (rest regions : List Byte) (i3 i2 i1 i0 c u w1 w0 o m d1 d0 n : Byte),
     s.asks .alr rest ([i3, i2, i1, i0, c, u, w1, w0, o, m, d1, d0, n] ++ regions) →
     (8 < n.toNat ∨ regions.length < 2 * n.toNat → turnedAway (.alertNotice .alr rest) s .alr (0x40#8 :: rest) .badLength) ∧
     (n.toNat ≤ 8 → 2 * n.toNat ≤ regions.length → (3 < c.toNat ∨ 1 < u.toNat) →
       turnedAway (.alertNotice .alr rest) s .alr (0x40#8 :: rest) .unknown)) ∧
  (∀ (s : State) (rest more : List Byte) (i3 i2 i1 i0 c u w1 w0 o m d1 d0 : Byte) (id : Nat) (cls : AlertClass),
     s.asks .alr rest ([i3, i2, i1, i0, c, u, w1, w0, o, m, d1, d0, 0#8] ++ more) → u.toNat ≤ 1 → c.toNat ≤ 3 →
     id = word32 i3 i2 i1 i0 →
     cls = (if c.toNat = 0 then .test else if c.toNat = 1 then .advisory else if c.toNat = 2 then .warning else .emergency) →
     ((∃ p ∈ s.al.table, p.id = id) ∨ (∃ x, s.al.onAir = some x ∧ x.id = id) →
       turnedAway (.alertNotice .alr rest) s .alr (0x40#8 :: rest) .duplicate) ∧
     ((∀ p ∈ s.al.table, p.id ≠ id) → (∀ x, s.al.onAir = some x → x.id ≠ id) →
       (∀ (out : LogOutcome) (reply : ReplyCode) (ev : EventUnit),
         (cls = .test ∧ s.pf.working.airTests = false ∧ out = .filtered ∧ reply = .filtered ∧
             ev = s.ev.raise .alertFiltered ∨
           ¬ (cls = .test ∧ s.pf.working.airTests = false) ∧ s.air.state = .offAir ∧
             (s.pf.working.wake.alertWake = false ∨ cls = .test ∨ cls = .advisory) ∧ out = .notAired ∧ reply = .done ∧
             ev = s.ev) →
         completes (.alertNotice .alr rest) s
           { s with
             al := { s.al with
               noticeCounter := s.al.noticeCounter + 1#32
               recordCounter := s.al.recordCounter + 1#32
               log := { number := s.al.recordCounter.toNat % 65536, id := id, cls := cls, originator := o.toNat
                        outcome := out, arrival := s.ev.clock, airing := none } :: s.al.log.take 31
               logOverwrites := if s.al.log.length < 32 then s.al.logOverwrites else countUp s.al.logOverwrites }
             ev := ev
             cl := s.replied .alr (0x40#8 :: rest) reply [] }) ∧
       (∀ p : PendingAlert, ¬ (cls = .test ∧ s.pf.working.airTests = false) → s.air.state = .starting → s.al.onAir = none →
         s.al.table.length < 8 →
         p = { id := id, cls := cls, originator := o.toNat, audio := m.getLsbD 0, arrival := s.ev.clock
               maxDuration := max 1 (min 300 (word16 d1 d0)) * 48000, due := u.toNat = 0
               expiry := if u.toNat = 0 then none
                 else some (s.ev.clock + BitVec.ofNat 32 (max 1 (min 3600 (word16 w1 w0)) * 48000)) } →
         completes (.alertNotice .alr rest) s
           { s with
             al := { s.al with
               noticeCounter := s.al.noticeCounter + 1#32
               table := s.al.table.takeWhile (fun q => p.cls.code ≤ q.cls.code) ++
                 p :: s.al.table.dropWhile (fun q => p.cls.code ≤ q.cls.code) }
             ev := s.ev.raise .alertPending
             cl := s.replied .alr (0x40#8 :: rest) .done [] }))) ∧
  (∀ (s : State) (rest codes more : List Byte) (i3 i2 i1 i0 c u w1 w0 o m d1 d0 n : Byte) (id : Nat) (p : PendingAlert),
     s.asks .alr rest ([i3, i2, i1, i0, c, u, w1, w0, o, m, d1, d0, n] ++ (codes ++ more)) → u.toNat ≤ 1 → c.toNat ≤ 3 →
     n.toNat ≤ 8 → codes.length = 2 * n.toNat → id = word32 i3 i2 i1 i0 →
     (∀ q ∈ s.al.table, q.id ≠ id) → (∀ x, s.al.onAir = some x → x.id ≠ id) →
     p = { id := id
           cls := if c.toNat = 0 then .test else if c.toNat = 1 then .advisory else if c.toNat = 2 then .warning else .emergency
           originator := o.toNat, audio := m.getLsbD 0, arrival := s.ev.clock
           maxDuration := max 1 (min 300 (word16 d1 d0)) * 48000, due := u.toNat = 0
           expiry := if u.toNat = 0 then none
             else some (s.ev.clock + BitVec.ofNat 32 (max 1 (min 3600 (word16 w1 w0)) * 48000)) } →
     (s.pf.working.regions ≠ [] → 0 < n.toNat →
       (∀ k, k < n.toNat → ∀ b1 b0, codes[2 * k]? = some b1 → codes[2 * k + 1]? = some b0 →
         word16 b1 b0 ∉ s.pf.working.regions) →
       completes (.alertNotice .alr rest) s
         { s with
           al := { s.al with noticeCounter := s.al.noticeCounter + 1#32 : AlertUnit }.logged [p.record .filtered]
           ev := s.ev.raise .alertFiltered
           cl := s.replied .alr (0x40#8 :: rest) .filtered [] }) ∧
     (n = 0#8 → ¬ (p.cls = .test ∧ s.pf.working.airTests = false) → s.air.state = .starting → s.al.onAir = none →
       ∀ (front : List PendingAlert) (low : PendingAlert), s.al.table = front ++ [low] → front.length = 7 →
         (low.cls.code < p.cls.code →
           completes (.alertNotice .alr rest) s
             { s with
               al := { { s.al with noticeCounter := s.al.noticeCounter + 1#32 : AlertUnit }.logged [low.record .superseded] with
                       table := front.takeWhile (fun q => p.cls.code ≤ q.cls.code) ++
                         p :: front.dropWhile (fun q => p.cls.code ≤ q.cls.code) }
               ev := s.ev.raise .alertPending
               cl := s.replied .alr (0x40#8 :: rest) .done [] }) ∧
         (p.cls.code ≤ low.cls.code →
           completes (.alertNotice .alr rest) s
             { s with
               al := { s.al with noticeCounter := s.al.noticeCounter + 1#32 : AlertUnit }.logged [p.record .dropped]
               cl := s.replied .alr (0x40#8 :: rest) .full [] })))

/-- An IMMEDIATE notice on the air, armed, with nothing pending and no alert on air, takes the air at its arrival (R117, R120 to R122):
ATTENTION begins with both accumulators at 0, an ALERT record stands on the stack, every entry is OFF, no line is ON_AIR and every
seized one has the alert feed, no deck runs, the sequencer is PREEMPTED and the delay FROZEN. The record's mark of lines gone since is
the model's own (log 9), and so is taking with the push a segue point that the head has reached (log 43).

Off air, an IMMEDIATE WARNING or EMERGENCY with the alert wake enable set wakes the station first (R139): ALERT_WAKE with no sign-on
pending, AIR_STATE raised, CARRIER-ON queued; then it takes the air the same way.

An EMERGENCY supersedes a TEST or an ADVISORY on air (R109 check 5, R126): the old alert is logged with its duration, CANCELLED if it
was cancelled and SUPERSEDED if not; the new one begins ATTENTION; ALERT_START is raised; the stack, the table and the armed flag stay. -/
def Obligations.NoticesTakeTheAir : Prop :=
  (∀ (s : State) (rest more : List Byte) (i3 i2 i1 i0 c w1 w0 o m d1 d0 : Byte) (p : PendingAlert),
     s.asks .alr rest ([i3, i2, i1, i0, c, 0#8, w1, w0, o, m, d1, d0, 0#8] ++ more) → c.toNat ≤ 3 →
     s.al.armed = true → s.al.onAir = none → s.al.table = [] →
     p = { id := word32 i3 i2 i1 i0
           cls := if c.toNat = 0 then .test else if c.toNat = 1 then .advisory else if c.toNat = 2 then .warning else .emergency
           originator := o.toNat, audio := m.getLsbD 0, arrival := s.ev.clock
           maxDuration := max 1 (min 300 (word16 d1 d0)) * 48000, due := true, expiry := none } →
     (s.air.state = .onAir → 1 ≤ c.toNat ∨ s.pf.working.airTests = true →
       ∃ t, completes (.alertNotice .alr rest) s t ∧
         State.givesAirTo { s with al := { s.al with noticeCounter := s.al.noticeCounter + 1#32 } } t p [] ∧
         (∃ r rs, t.ps.records = r :: rs ∧ r.seqState = s.sq.state) ∧ t.air = s.air ∧ t.tl = s.tl ∧
         (∀ l, t.ev.status.get l &&& EventKind.alertPending.set ≠ 0#29) ∧
         t.cl = s.replied .alr (0x40#8 :: rest) .done []) ∧
     (s.air.state = .offAir → 2 ≤ c.toNat → s.pf.working.wake.alertWake = true → s.tl.mainFailed = false →
       ∃ t, completes (.alertNotice .alr rest) s t ∧
         State.givesAirTo { s with al := { s.al with noticeCounter := s.al.noticeCounter + 1#32 } } t p [] ∧
         (∃ r rs, t.ps.records = r :: rs ∧ r.seqState = s.sq.state) ∧
         t.air = { s.air with state := .alertWake, signOnPending := false } ∧
         t.tl = s.tl.commandRole s.tl.active.role .carrierOn ∧
         (∀ l, t.ev.status.get l &&& EventKind.alertPending.set ≠ 0#29 ∧ t.ev.status.get l &&& EventKind.airState.set ≠ 0#29) ∧
         t.cl = s.replied .alr (0x40#8 :: rest) .done [])) ∧
  (∀ (s : State) (rest more : List Byte) (i3 i2 i1 i0 u w1 w0 og m d1 d0 : Byte) (x : OnAirAlert),
     s.asks .alr rest ([i3, i2, i1, i0, 3#8, u, w1, w0, og, m, d1, d0, 0#8] ++ more) → u.toNat ≤ 1 →
     s.al.onAir = some x → (x.cls = .test ∨ x.cls = .advisory) → s.air.state ≠ .offAir →
     x.id ≠ word32 i3 i2 i1 i0 → (∀ p ∈ s.al.table, p.id ≠ word32 i3 i2 i1 i0) →
     completes (.alertNotice .alr rest) s
       { s with
         al := { s.al with
           noticeCounter := s.al.noticeCounter + 1#32
           recordCounter := s.al.recordCounter + 1#32
           log := { number := s.al.recordCounter.toNat % 65536, id := x.id, cls := x.cls, originator := x.originator
                    outcome := if x.ending = some .cancelled then .cancelled else .superseded, arrival := x.arrival
                    airing := some { start := x.start, ms := (s.ev.clock - x.start).toNat / 48 } } :: s.al.log.take 31
           logOverwrites := if s.al.log.length < 32 then s.al.logOverwrites else countUp s.al.logOverwrites
           onAir := some { id := word32 i3 i2 i1 i0, cls := .emergency, originator := og.toNat, audio := m.getLsbD 0
                           maxDuration := max 1 (min 300 (word16 d1 d0)) * 48000, arrival := s.ev.clock
                           start := s.ev.clock, phase := .attention, count := 0
                           attention := s.pf.working.attention * 48000, ending := none }
           p1 := 0#32
           p2 := 0#32 }
         ev := s.ev.raise .alertStart
         cl := s.replied .alr (0x40#8 :: rest) .done [] })

/-- WINDOW_EXPIRY (R114): the pending WINDOW alert of that id, once its window has run, becomes due, whether armed or not. If it is
the first and the unit may take it, it takes the air at once (R117, R120; logs 9 and 43 on the push); while disarmed, with an alert on air, or behind another that
is not due, it only becomes due. An id whose window has not run, or that is not pending, changes nothing (log 5).

ALERT_REARM (R116): DONE and nothing with the flag set. With it clear the flag is set, a first pending alert that is due takes the air at
once, and one that is not due waits on.

A break opportunity, here the SEQ_STOP of a RUNNING sequencer, gives the air to a first pending WINDOW alert that is not yet due (R47,
R118), once the stop is complete; the ALERT record saves the STOPPED sequencer. A segue point that the head had reached is taken with the
stop (log 43), so that no later SEQ_START or pop gives its opportunity. -/
def Obligations.PendingAlertsComeDue : Prop :=
  (∀ (s : State) (id : Nat),
     ((∀ p ∈ s.al.table, p.id = id → p.due = true ∨ p.expiry = none ∨
         ∀ e, p.expiry = some e → (s.ev.clock - p.arrival).toNat < (e - p.arrival).toNat) →
       completes (.windowExpiry id) s s) ∧
     (∀ (pre post : List PendingAlert) (p : PendingAlert) (e : Clock), s.al.table = pre ++ p :: post → p.id = id →
       (∀ q ∈ pre ++ post, q.id ≠ id) → p.due = false → p.expiry = some e →
       (e - p.arrival).toNat ≤ (s.ev.clock - p.arrival).toNat →
       ((s.al.armed = false ∨ s.al.onAir ≠ none ∨ s.air.state = .starting ∨ s.air.state = .alertWake ∨
           ∃ q, pre.head? = some q ∧ q.due = false) →
         completes (.windowExpiry id) s { s with al := { s.al with table := pre ++ { p with due := true } :: post } }) ∧
       (pre = [] → s.al.armed = true → s.al.onAir = none → s.air.state = .onAir →
         ∃ t, completes (.windowExpiry id) s t ∧ s.givesAirTo t p post ∧ t.air = s.air ∧ t.tl = s.tl ∧ t.cl = s.cl))) ∧
  (∀ (s : State) (rest body : List Byte), s.asks .alr rest body →
     (s.al.armed = true → turnedAway (.alertRearm .alr rest) s .alr (0x43#8 :: rest) .done) ∧
     (s.al.armed = false → (∀ p, s.al.table.head? = some p → p.due = false) →
       completes (.alertRearm .alr rest) s
         { s with al := { s.al with armed := true }, cl := s.replied .alr (0x43#8 :: rest) .done [] }) ∧
     (∀ (p : PendingAlert) (post : List PendingAlert), s.al.armed = false → s.al.onAir = none → s.air.state = .onAir →
       s.al.table = p :: post → p.due = true →
       ∃ t, completes (.alertRearm .alr rest) s t ∧ State.givesAirTo { s with al := { s.al with armed := true } } t p post ∧
         t.air = s.air ∧ t.tl = s.tl ∧ t.cl = s.replied .alr (0x43#8 :: rest) .done [])) ∧
  (∀ (s : State) (l : LaneId) (rest body : List Byte) (p : PendingAlert) (post : List PendingAlert), s.asks l rest body → l ≠ .alr →
     s.sq.state = .running → s.ps.records = [] → s.al.table = p :: post → p.due = false → s.al.armed = true → s.al.onAir = none →
     s.air.state = .onAir →
     ∃ t, completes (.seqStop l rest) s t ∧ s.givesAirTo t p post ∧ (∃ r, t.ps.records = [r] ∧ r.seqState = .stopped) ∧
       t.sq.breakSignal = false ∧ t.air = s.air ∧ t.tl = s.tl ∧ t.cl = s.replied l (0x15#8 :: rest) .done [])

/-- The phases of an alert (R122, R123). ATTENTION_END at the attention length leads to MESSAGE, or to CLOSING without message audio;
MESSAGE_TRUNCATED at the maximum duration leads to CLOSING with the ending TRUNCATED; ALERT_AUDIO_END ends MESSAGE, and is BAD_STATE in
another phase and UNKNOWN for another id. Before their time, and with no alert on air, the events change nothing (log 5).

ALERT_CANCEL (R127): a pending alert leaves the table and is logged CANCELLED, and where the unit is armed a due alert behind it takes
the air (R117; logs 9 and 43 on the push); the on-air alert passes to CLOSING with the ending CANCELLED, and in CLOSING is left as it is; any other id is UNKNOWN. -/
def Obligations.AlertPhasesAndCancel : Prop :=
  (∀ (s : State) (x : OnAirAlert), s.al.onAir = some x →
     (x.phase ≠ .attention ∨ x.count < x.attention → completes .attentionEnd s s) ∧
     (x.phase = .attention → x.attention ≤ x.count →
       completes .attentionEnd s
         { s with al := { s.al with onAir := some { x with phase := if x.audio then .message else .closing, count := 0 } } }) ∧
     (x.phase ≠ .message ∨ x.count < x.maxDuration → completes .messageTruncated s s) ∧
     (x.phase = .message → x.maxDuration ≤ x.count →
       completes .messageTruncated s
         { s with al := { s.al with onAir := some { x with phase := .closing, count := 0, ending := some .truncated } } }) ∧
     ∀ (rest more : List Byte) (i3 i2 i1 i0 : Byte), s.asks .alr rest (i3 :: i2 :: i1 :: i0 :: more) →
       (x.id ≠ word32 i3 i2 i1 i0 → turnedAway (.alertAudioEnd .alr rest) s .alr (0x41#8 :: rest) .unknown) ∧
       (x.id = word32 i3 i2 i1 i0 → x.phase ≠ .message →
         turnedAway (.alertAudioEnd .alr rest) s .alr (0x41#8 :: rest) .badState) ∧
       (x.id = word32 i3 i2 i1 i0 → x.phase = .message →
         completes (.alertAudioEnd .alr rest) s
           { s with al := { s.al with onAir := some { x with phase := .closing, count := 0 } }
                    cl := s.replied .alr (0x41#8 :: rest) .done [] })) ∧
  (∀ s : State, s.al.onAir = none →
     completes .attentionEnd s s ∧ completes .messageTruncated s s ∧ completes .alertEnd s s ∧
     ∀ (rest more : List Byte) (i3 i2 i1 i0 : Byte), s.asks .alr rest (i3 :: i2 :: i1 :: i0 :: more) →
       turnedAway (.alertAudioEnd .alr rest) s .alr (0x41#8 :: rest) .unknown) ∧
  (∀ (s : State) (rest more : List Byte) (i3 i2 i1 i0 : Byte) (id : Nat), s.asks .alr rest (i3 :: i2 :: i1 :: i0 :: more) →
     id = word32 i3 i2 i1 i0 →
     ((∀ p ∈ s.al.table, p.id ≠ id) → (∀ x, s.al.onAir = some x → x.id ≠ id) →
       turnedAway (.alertCancel .alr rest) s .alr (0x42#8 :: rest) .unknown) ∧
     (∀ (pre post : List PendingAlert) (p : PendingAlert), s.al.table = pre ++ p :: post → p.id = id →
       (∀ q ∈ pre, q.id ≠ id) → ∀ al : AlertUnit, al = { s.al.logged [p.record .cancelled] with table := pre ++ post } →
       ((s.al.armed = false ∨ s.al.onAir ≠ none ∨ s.air.state = .starting ∨ s.air.state = .alertWake ∨
           ∀ q, (pre ++ post).head? = some q → q.due = false) →
         completes (.alertCancel .alr rest) s { s with al := al, cl := s.replied .alr (0x42#8 :: rest) .done [] }) ∧
       (∀ (q : PendingAlert) (qs : List PendingAlert), s.al.armed = true → s.al.onAir = none → s.air.state = .onAir →
         pre ++ post = q :: qs → q.due = true →
         ∃ t, completes (.alertCancel .alr rest) s t ∧ State.givesAirTo { s with al := al } t q qs ∧ t.air = s.air ∧
           t.tl = s.tl ∧ t.cl = s.replied .alr (0x42#8 :: rest) .done [])) ∧
     (∀ x : OnAirAlert, (∀ p ∈ s.al.table, p.id ≠ id) → s.al.onAir = some x → x.id = id →
       (x.phase = .closing → turnedAway (.alertCancel .alr rest) s .alr (0x42#8 :: rest) .done) ∧
       (x.phase ≠ .closing →
         completes (.alertCancel .alr rest) s
           { s with
             al := { s.al with onAir := some { x with phase := .closing, count := 0, ending := some .cancelled } }
             cl := s.replied .alr (0x42#8 :: rest) .done [] })))

/-- ALERT_END (R124) at 48,000 mixes of CLOSING, over a record that saved a STOPPED sequencer and no line: the alert is logged AIRED,
TRUNCATED or CANCELLED with its duration, the flag is cleared, the record popped by the unit, the delay unfrozen, the feeds back to what
the states give, RESUMED and ALERT_DONE raised. Before that nothing changes (log 5).

Over a record that saved a RUNNING sequencer with its head on a deck and one line on the air, with the after-alert kind CONTINUE (R59,
R63, R64, R66, R87): the deck PLAYING from its position and the sequencer RUNNING; the deck's entry, MIC and FBK restored; the line, in HOLD,
ON_AIR again with its mix-minus feed and its entry restored, or, re-screened, queued or dropped since the push as the record's mark says (log
9), left in HOLD. The entry of the other deck, FREE at the push, is left alone (log 20).

At the end of a wake (R140) the air state becomes ON_AIR without a carrier command when a sign-on is pending, and the flag is cleared;
otherwise OFF_AIR with CARRIER-OFF, and the pending table is swept (R119), the alert's own record being written first. AIR_STATE is
raised either way. -/
def Obligations.AlertEndGivesTheAirBack : Prop :=
  ∀ (s : State) (x : OnAirAlert), s.al.onAir = some x →
    (x.phase ≠ .closing ∨ x.count < 48000 → completes .alertEnd s s) ∧
    (∀ (r : Context) (rs : List Context), x.phase = .closing → 48000 ≤ x.count → s.ps.records = r :: rs → r.cause = .alert →
      r.seqState = .stopped → r.onAirLines = [] → s.al.table = [] → s.air.state = .onAir →
      ∃ t, completes .alertEnd s t ∧ t.al.onAir = none ∧ t.al.armed = false ∧ t.al.table = [] ∧
        t.al.recordCounter = s.al.recordCounter + 1#32 ∧
        t.al.log = { number := s.al.recordCounter.toNat % 65536, id := x.id, cls := x.cls, originator := x.originator
                     outcome := (match x.ending with
                       | some .cancelled => .cancelled
                       | some .truncated => .truncated
                       | none => .aired)
                     arrival := x.arrival
                     airing := some { start := x.start, ms := (s.ev.clock - x.start).toNat / 48 } } :: s.al.log.take 31 ∧
        t.ps.records = rs ∧ (∃ y, t.ps.lastResume = some y ∧ y.cause = .alert ∧ y.takenBy = .alertUnit ∧
          y.poppedAt = s.ev.clock) ∧
        t.sq.state = .stopped ∧ t.sq.breakSignal = false ∧
        (∀ n, (t.line n).state = (s.line n).state ∧ (t.line n).feed = (s.line n).state.feed) ∧
        t.du.pendingTarget = none ∧ t.du.store = s.du.store ∧ t.du.step = 0 ∧
        t.du.target = s.du.pendingTarget.getD s.du.target ∧
        t.du.mode = (if s.du.store.length < t.du.target then .building else if t.du.target < s.du.store.length then .catching
                     else if t.du.target = 0 then .idle else .steady) ∧
        (∀ l, t.ev.status.get l &&& EventKind.resumed.set ≠ 0#29 ∧ t.ev.status.get l &&& EventKind.alertDone.set ≠ 0#29) ∧
        t.cl = s.cl ∧ t.tl = s.tl ∧ t.air = s.air ∧ t.pf = s.pf ∧ t.ap = s.ap) ∧
    (∀ (r : Context) (rs : List Context) (d : DeckId) (h : Item) (n : LineId) (fade pos : Nat) (z : Option DeckSnapshot)
      (ros : PerSource Entry), x.phase = .closing → 48000 ≤ x.count → s.ps.records = r :: rs → r.cause = .alert → s.noBreakTaken →
      s.air.state = .onAir → s.pf.working.afterAlert = .goOn → fade = min s.pf.working.preemptFade 10000 * 48 →
      r.seqState = .running → s.sq.state = .preempted → s.sq.list = [h] → s.sq.tail = none → h.kind ≠ .live →
      (s.deck d).state = .paused → (s.deck d).item = some h.id → s.deck d.other = Deck.initial →
      h.segueReached (s.deck d).position = false → z = some { item := h.id, state := .playing, position := pos } →
      r.deckA = (if d = .a then z else none) → r.deckB = (if d = .b then z else none) →
      r.onAirLines = [n] → s.lc.onAirCount = 0 → (s.line n).state = .hold → (s.line n).seize = true → (s.line n).ringTimer = none →
      ros = ((s.pb.roster.set d.source ((s.entry d.source).restoredFrom (r.roster.get d.source) fade)).set .mic
        ((s.entry .mic).restoredFrom r.roster.mic fade)).set .fbk ((s.entry .fbk).restoredFrom r.roster.fbk fade) →
      ∃ t, completes .alertEnd s t ∧ t.ps.records = rs ∧ t.ps.overflow = s.ps.overflow ∧
        (∃ y, t.ps.lastResume = some y ∧ y.cause = .alert ∧ y.takenBy = .alertUnit ∧ y.kind = .goOn ∧ y.poppedAt = s.ev.clock ∧
          y.duration = (s.ev.clock - r.pushedAt).toNat ∧ y.item = none ∧ y.position = none) ∧
        t.sq = { (s.sq.setDeck d { s.deck d with state := .playing }) with state := .running } ∧
        (∀ m, m ≠ n → t.line m = { s.line m with feed := (s.line m).state.feed }) ∧ t.lc.queue = s.lc.queue ∧ t.lc.missed = s.lc.missed ∧
        (r.gone.get n = false →
          t.line n = { s.line n with state := .onAir, holdStart := none, holdLong := false, feed := .mixMinus } ∧
          t.pb = { s.pb with roster := ros.set n.source ((s.entry n.source).restoredFrom (r.roster.get n.source) fade) }) ∧
        (r.gone.get n = true → t.line n = { s.line n with feed := .hold } ∧ t.pb = { s.pb with roster := ros }) ∧
        t.al.onAir = none ∧ t.al.armed = false ∧
        t.du = { s.du with
          pendingTarget := none, step := 0, target := s.du.pendingTarget.getD s.du.target
          mode := if s.du.store.length < s.du.pendingTarget.getD s.du.target then .building
                  else if s.du.pendingTarget.getD s.du.target < s.du.store.length then .catching
                  else if s.du.pendingTarget.getD s.du.target = 0 then .idle else .steady } ∧
        t.ev = (s.ev.raise .resumed).raise .alertDone ∧ t.cl = s.cl ∧ t.tl = s.tl ∧ t.air = s.air ∧ t.pf = s.pf ∧ t.ap = s.ap) ∧
    (∀ (r : Context) (rs : List Context) (al : AlertUnit), x.phase = .closing → 48000 ≤ x.count → s.ps.records = r :: rs →
      r.cause = .alert → r.seqState = .stopped → r.onAirLines = [] → s.air.state = .alertWake → s.tl.mainFailed = false →
      s.collectionsFit → al = { s.al.logged [x.record s.ev.clock (match x.ending with
        | some .cancelled => .cancelled
        | some .truncated => .truncated
        | none => .aired)] with onAir := none, armed := false } →
      ∃ t, completes .alertEnd s t ∧ t.ps.records = rs ∧ t.sq.state = .stopped ∧ t.pf = s.pf ∧
        (∀ l, t.ev.status.get l &&& EventKind.airState.set ≠ 0#29) ∧
        (s.air.signOnPending = true →
          t.air = { s.air with state := .onAir, signOnPending := false } ∧ t.tl = s.tl ∧ t.al = al) ∧
        (s.air.signOnPending = false →
          t.air = { s.air with state := .offAir } ∧ t.tl = s.tl.commandRole s.tl.active.role .carrierOff ∧
          ∀ stops : PendingAlert → Bool,
            (∀ p, stops p = !(s.pf.working.wake.alertWake && (p.cls = .warning || p.cls = .emergency))) →
            t.al = { al.logged ((s.al.table.filter stops).map (·.record .notAired)) with
                     table := s.al.table.filter fun p => !stops p }))

/-! ### Air state and dead-air monitor -/

/-- SIGN_ON, its checks in their order (R133, R135): BAD_STATE while STARTING; REFUSED to AUT without its enable; DONE and nothing while
ON_AIR; the pending flag during ALERT_WAKE; from OFF_AIR, here with no alert pending and the main transmitter well, ON_AIR with
AIR_STATE and CARRIER-ON.

SIGN_OFF, its checks in their order (R137), and the sign-off of R138 with no alert pending: OFF_AIR, every entry OFF, the decks paused
and the sequencer STOPPED, every seized line dropped and the queue empty, the store flushed, AIR_STATE and CARRIER-OFF, the silence
run at 0, and a segue point that the head has reached taken with the stop (log 43). -/
def Obligations.SignOnAndSignOff : Prop :=
  (∀ (s : State) (l : LaneId) (rest body : List Byte), s.asks l rest body → l ≠ .alr →
     (s.air.state = .starting → turnedAway (.signOn l rest) s l (0x48#8 :: rest) .badState) ∧
     (s.air.state ≠ .starting → l = .aut → s.pf.working.wake.autSignOn = false →
       turnedAway (.signOn l rest) s l (0x48#8 :: rest) .refused) ∧
     (l = .con ∨ s.pf.working.wake.autSignOn = true →
       (s.air.state = .onAir → turnedAway (.signOn l rest) s l (0x48#8 :: rest) .done) ∧
       (s.air.state = .alertWake →
         completes (.signOn l rest) s
           { s with air := { s.air with signOnPending := true }, cl := s.replied l (0x48#8 :: rest) .done [] }) ∧
       (s.air.state = .offAir → s.al.table = [] → s.tl.mainFailed = false →
         completes (.signOn l rest) s
           { s with air := { s.air with state := .onAir }
                    ev := s.ev.raise .airState
                    tl := s.tl.commandRole s.tl.active.role .carrierOn
                    cl := s.replied l (0x48#8 :: rest) .done [] }))) ∧
  (∀ (s : State) (l : LaneId) (rest body : List Byte), s.asks l rest body → l ≠ .alr →
     (s.air.state = .starting → turnedAway (.signOff l rest) s l (0x49#8 :: rest) .badState) ∧
     (s.al.onAir ≠ none ∨ s.ps.records ≠ [] → turnedAway (.signOff l rest) s l (0x49#8 :: rest) .badState) ∧
     (s.al.onAir = none → s.ps.records = [] → s.air.state = .offAir →
       turnedAway (.signOff l rest) s l (0x49#8 :: rest) .done) ∧
     (s.al.onAir = none → s.ps.records = [] → s.air.state = .onAir → s.noBreakTaken →
       ∃ t, completes (.signOff l rest) s t ∧ s.signsOffTo t ∧ t.cl = s.replied l (0x49#8 :: rest) .done []))

/-- WAKE_ENABLE writes the three enables into the working copy alone (R134). Off air it sweeps: what the off-air test stops leaves the
table in table order, each logged NOT_AIRED without a start and without a duration, the rest stays in its order (R111, R119, R128); an
enable written as it stood sweeps too (log 29). A first alert that is left and due, a WARNING or an EMERGENCY, wakes the station if the
unit is armed (R117, R139; logs 9 and 43 on the push). In any other air state nothing else changes. -/
def Obligations.WakeEnableWritesAndSweeps : Prop :=
  ∀ (s : State) (rest more : List Byte) (b : Byte) (w : WakeEnables) (pf : ProfileStore), s.asks .con rest (b :: more) →
    w = { autSignOn := b.getLsbD 0, remoteSignOn := b.getLsbD 1, alertWake := b.getLsbD 2 } →
    pf = { s.pf with working := { s.pf.working with wake := w } } →
    (s.air.state ≠ .offAir →
      completes (.wakeEnable .con rest) s { s with pf := pf, cl := s.replied .con (0x4A#8 :: rest) .done [] }) ∧
    (s.air.state = .offAir → s.collectionsFit →
      ∀ (stops : PendingAlert → Bool) (al : AlertUnit),
        (∀ p, stops p = !(w.alertWake && (p.cls = .warning || p.cls = .emergency))) →
        al = { s.al.logged ((s.al.table.filter stops).map (·.record .notAired)) with
               table := s.al.table.filter fun p => !stops p } →
        ((s.al.armed = false ∨ s.al.onAir ≠ none ∨ ∀ p, al.table.head? = some p → p.due = false) →
          completes (.wakeEnable .con rest) s
            { s with pf := pf, al := al, cl := s.replied .con (0x4A#8 :: rest) .done [] }) ∧
        (∀ (p : PendingAlert) (post : List PendingAlert), s.al.armed = true → s.al.onAir = none → al.table = p :: post →
          p.due = true → s.tl.mainFailed = false →
          ∃ t, completes (.wakeEnable .con rest) s t ∧ State.givesAirTo { s with pf := pf, al := al } t p post ∧
            t.air = { s.air with state := .alertWake, signOnPending := false } ∧
            t.tl = s.tl.commandRole s.tl.active.role .carrierOn ∧ t.cl = s.replied .con (0x4A#8 :: rest) .done []))

/-- BLOCK_JUDGED (R143, R145): at the end of a block no mix of which was held, a peak at the threshold or above sets the silence run to
0, and a silent block adds one, with DEAD_AIR_WARN when the run climbs through half the limit; then the next block begins. With no
block at its end nothing changes (log 8).

The failover (R56, R146): a silent block that brings the run to the limit pushes FAILOVER over the preempt fade: FBK set LIVE toward
16384, every other entry releasing, lines off the air in HOLD, decks paused, PREEMPTED; PREEMPT and FAILOVER raised and the run at 0. Where the
head had reached its segue point and its break opportunity was not yet given, the push takes both (log 43), and a first pending WINDOW
alert that is not yet due takes the air over the FAILOVER (R47, R118). -/
def Obligations.SilenceIsJudgedAndFailsOver : Prop :=
  (∀ s : State,
     (s.air.monitor.due = false → completes .blockJudged s s) ∧
     (s.air.monitor.due = true → s.air.monitor.clean = false →
       completes .blockJudged s
         { s with air := { s.air with monitor := { s.air.monitor with peak := 0, clean := true, due := false } } }) ∧
     (s.air.monitor.due = true → s.air.monitor.clean = true → s.monitorHeld = false →
       (s.pf.working.silenceThreshold ≤ s.air.monitor.peak →
         completes .blockJudged s
           { s with
             air := { s.air with monitor := { s.air.monitor with run := 0, peak := 0, clean := true, due := false } } }) ∧
       (s.air.monitor.peak < s.pf.working.silenceThreshold →
         s.air.monitor.run + 1 < s.pf.working.silenceLimit * 100 →
         completes .blockJudged s
           { s with
             ev := if s.air.monitor.run < s.pf.working.silenceLimit * 50 ∧
                 s.pf.working.silenceLimit * 50 ≤ s.air.monitor.run + 1 then s.ev.raise .deadAirWarn else s.ev
             air := { s.air with
               monitor := { s.air.monitor with run := s.air.monitor.run + 1, peak := 0, clean := true, due := false } } }))) ∧
  (∀ s : State, s.air.monitor.due = true → s.air.monitor.clean = true → s.monitorHeld = false →
     s.air.monitor.peak < s.pf.working.silenceThreshold → s.pf.working.silenceLimit * 100 ≤ s.air.monitor.run + 1 →
     ∃ t, completes .blockJudged s t ∧
       (s.pushGivesNoAir → s.fallsBackTo t .failover) ∧
       (∀ (p : PendingAlert) (post : List PendingAlert), s.breakDue → s.al.table = p :: post → p.due = false →
         s.al.armed = true → ∃ u, s.fallsBackTo u .failover ∧ u.givesAirTo t p post) ∧
       t.air.monitor.run = 0 ∧ t.air.monitor.peak = 0 ∧ t.air.monitor.due = false ∧ t.air.state = s.air.state ∧ t.tl = s.tl ∧
       t.cl = s.cl ∧ ∀ l, t.ev.status.get l &&& EventKind.failover.set ≠ 0#29)

/-! ### Transmitter link -/

/-- FRAME_BOUNDARY (R147 to R151): with 16 pairs at a multiple of 16, a frame of 108 bytes: the sync, the number, the air state code, the
five flags, the site slot, the held blocks, the station code, the 16 pairs channel by channel in three bytes, and the check of bytes 2
to 105, bit by bit from a register of ones. The oldest character leaves the queue in the slot; a select that leaves selects its unit,
and a POLL that leaves opens the reply window of 1,440 sample periods (R158). A command in the holder then enters the queue if two
places are free. The number grows by one, and nothing else of the link changes. At no other time does anything change (log 5).

The frame is sent most significant bit first (R176), one bit in 12 core clocks (R147), here at a MIX with nothing due: TXL_FWD gives 54 of
its 864 bits, those that follow the bits of the periods since its boundary, the first from bit 7 of byte 0. -/
def Obligations.FrameBoundaryFormsTheFrame : Prop :=
  (∀ s : State,
    (s.ev.clock.toNat % 16 ≠ 0 ∨ s.tl.pairs.length < 16 → completes .frameBoundary s s) ∧
    (∀ (bit : BitVec 16 → Bool → BitVec 16) (crc : List Byte → BitVec 16) (sample : Int → List Byte) (slot fields : List Byte)
       (flags : Nat) (sel : Option UnitId) (win : Option ReplyWindow) (q rest : List SiteChar) (held : Option SiteCommand),
       s.ev.clock.toNat % 16 = 0 → s.tl.pairs.length = 16 →
       (∀ r b, bit r b = if r.msb = b then r <<< 1 else (r <<< 1) ^^^ 0x1021#16) → crc [] = 0xFFFF#16 →
       (∀ bs b, crc (bs ++ [b]) = bit (bit (bit (bit (bit (bit (bit (bit (crc bs) (b.getLsbD 7)) (b.getLsbD 6)) (b.getLsbD 5))
         (b.getLsbD 4)) (b.getLsbD 3)) (b.getLsbD 2)) (b.getLsbD 1)) (b.getLsbD 0)) →
       (∀ x, sample x = [(BitVec.ofInt 24 x).extractLsb' 16 8, (BitVec.ofInt 24 x).extractLsb' 8 8, (BitVec.ofInt 24 x).extractLsb' 0 8]) →
       flags = (if s.al.onAir.isSome then 1 else 0) +
         (if s.topCause = some .failover ∨ s.topCause = some .remoteFallback then 2 else 0) +
         (if s.du.mode = .frozen then 4 else 0) + (if s.pb.ceilingLowered then 8 else 0) +
         (if s.tl.active = .standby then 16 else 0) →
       rest = s.tl.sendQueue.drop 1 →
       (s.tl.sendQueue = [] → slot = [0#8, 0#8] ∧ sel = s.tl.selected ∧ win = s.tl.window) →
       (∀ c cs, s.tl.sendQueue = c :: cs → slot = [if c.marker then 0x81#8 else 0x80#8, c.data] ∧
         sel = (if c.marker then unitOfSelect c.data else s.tl.selected) ∧
         win = (if c.marker = false ∧ c.data = 0x01#8 then s.tl.selected.map fun u => { unit := u, left := 1440 }
           else s.tl.window)) →
       (s.tl.holder = none → q = rest ∧ held = none) →
       (∀ c, s.tl.holder = some c →
         (rest.length ≤ 14 → q = rest ++ c.chars ∧ held = none) ∧ (14 < rest.length → q = rest ∧ held = some c)) →
       fields = [BitVec.ofNat 8 s.tl.frameNumber, BitVec.ofNat 8 s.air.state.code, BitVec.ofNat 8 flags] ++ slot ++
         [BitVec.ofNat 8 (s.du.store.length / 480 / 256), BitVec.ofNat 8 (s.du.store.length / 480),
          BitVec.ofNat 8 s.pf.working.stationCode] ++ s.tl.pairs.flatMap (fun p => sample p.l ++ sample p.r) →
       completes .frameBoundary s
         { s with
           tl := { s.tl with
             pairs := []
             frame := [0xB5#8, 0x4E#8] ++ fields ++ [(crc fields).extractLsb' 8 8, (crc fields).extractLsb' 0 8]
             frameNumber := (s.tl.frameNumber + 1) % 256
             selected := sel
             window := win
             sendQueue := q
             holder := held } } ∧
       fields.length = 104)) ∧
  (∀ (f : InputFrame) (s : State), s.settled → s.tl.frame.length = 108 → s.tl.pairs.length < 16 →
    ∃ t, completes (.mix f) s t ∧ t.tl.frame = s.tl.frame ∧ t.tl.pairs.length = s.tl.pairs.length + 1 ∧
      t.tl.forward.length = 54 ∧
      ∀ (i j : Nat) (b : Byte), i < 54 → j = 54 * s.tl.pairs.length + i → s.tl.frame[j / 8]? = some b →
        t.tl.forward[i]? = some (b.getLsbD (7 - j % 8)))

/-- POLL_TIMER_EXPIRY (R157): the timer restarts with the poll period; a POLL to the first configured unit at or after the turn enters the
queue and the turn moves past it; without two free places, or with a command held, the poll is skipped and the turn stays. Before the
expiry nothing changes (log 5).

REPLY_WINDOW_CLOSE (R158): a window that has run its 1,440 sample periods closes with a miss; the third makes the unit LOST with
UNIT_LOST, and a unit already LOST that misses again raises nothing; an open window with periods left is kept (log 5). A main unit lost
while the changeover condition then holds is left for the standby (R161): CARRIER-OFF, CARRIER-ON and GO-STANDBY in that order, STANDBY
active, reflect-seen clear, TX_CHANGEOVER raised. -/
def Obligations.PollsAndReplyWindows : Prop :=
  (∀ (s : State) (l : Link), l = { s.tl with pollTimer := s.pf.working.pollPeriod * 48 } →
     (s.tl.pollTimer ≠ 0 → completes .pollTimerExpiry s s) ∧
     (s.tl.pollTimer = 0 →
       ((∀ u, (s.tl.units.get u).role = .unused) ∨ 14 < s.tl.sendQueue.length ∨ s.tl.holder ≠ none →
         completes .pollTimerExpiry s { s with tl := l }) ∧
       ∀ u : UnitId, (s.tl.units.get u).role ≠ .unused →
         (u = s.tl.turn ∨ (s.tl.units.get s.tl.turn).role = .unused ∧
           (u = s.tl.turn.next ∨ (s.tl.units.get s.tl.turn.next).role = .unused ∧
             (u = s.tl.turn.next.next ∨ (s.tl.units.get s.tl.turn.next.next).role = .unused ∧
               u = s.tl.turn.next.next.next))) →
         s.tl.sendQueue.length ≤ 14 → s.tl.holder = none →
         completes .pollTimerExpiry s
           { s with
             tl := { l with
               turn := u.next
               sendQueue := s.tl.sendQueue ++
                 [{ marker := true
                    data := match u with | .u0 => 0xA0#8 | .u1 => 0xA1#8 | .u2 => 0xA2#8 | .u3 => 0xA3#8 },
                  { marker := false, data := 0x01#8 }] } })) ∧
  (∀ (s : State) (w : ReplyWindow) (u : SiteUnit), s.tl.window = some w → u = s.tl.units.get w.unit →
     (w.left ≠ 0 → completes .replyWindowClose s s) ∧
     (w.left = 0 → u.misses < 2 →
       completes .replyWindowClose s
         { s with tl := { s.tl with window := none, units := s.tl.units.set w.unit { u with misses := u.misses + 1 } } }) ∧
     (w.left = 0 → u.presence = .lost →
       completes .replyWindowClose s
         { s with
           tl := { s.tl with window := none, units := s.tl.units.set w.unit { u with misses := if u.misses < 3 then u.misses + 1 else u.misses } } }) ∧
     ∀ l : Link, l = { s.tl with window := none, units := s.tl.units.set w.unit { u with misses := 3, presence := .lost } } →
       w.left = 0 → u.misses = 2 → u.presence ≠ .lost →
       (s.pf.working.autoChangeover = false ∨ s.tl.active = .standby ∨ s.air.state = .offAir ∨ s.air.state = .starting ∨
           ¬ l.mainDown →
         completes .replyWindowClose s { s with tl := l, ev := s.ev.raise .unitLost }) ∧
       (s.pf.working.autoChangeover = true → s.tl.active = .main → s.air.state = .onAir ∨ s.air.state = .alertWake → l.mainDown →
         s.tl.holder = none → s.tl.sendQueue.length ≤ 10 →
         completes .replyWindowClose s
           { s with
             tl := { l with
               active := .standby
               reflectSeen := false
               sendQueue := s.tl.sendQueue ++
                 (l.charsTo .mainTx .carrierOff ++ l.charsTo .standbyTx .carrierOn ++ l.charsTo .siteControl .goStandby) }
             ev := (s.ev.raise .unitLost).raise .txChangeover }))

/-- RETURN_CHARACTER (R152 to R154): a character sent with bits of exactly 16N + F core clocks, least significant data bit first, to a
receiver that hunts on an idle line, is received as it was sent: it enters the FIFO, or, against 4 characters, is lost with an overrun
and marks the message bad. A stop bit of 0 is a framing error: counted, and the message is discarded. That the character is received
whole in one step, and that the hunt goes on from place 10 of the bit pattern with the divider the profile then gives, is log 11. -/
def Obligations.ReturnCharacterIsReceived : Prop :=
  ∀ (s : State) (c : SiteChar) (b : Nat) (stop : Bool) (w : Waveform) (r : Receiver), s.pf.held = false → 1 ≤ s.tl.receiver.n →
    s.tl.receiver.f ≤ 15 → s.tl.receiver.prev = true → b = 16 * s.tl.receiver.n + s.tl.receiver.f →
    w = (b, false) :: ((List.range 8).map (fun i => (b, c.data.getLsbD i)) ++ [(b, c.marker), (b, stop)]) →
    r = { n := s.pf.working.returnN, f := s.pf.working.returnF, prev := stop, place := 10 } →
    (stop = true → s.tl.fifo.length < 4 →
      completes (.returnCharacter w) s { s with tl := { s.tl with receiver := r, fifo := s.tl.fifo ++ [c] } }) ∧
    (stop = true → 4 ≤ s.tl.fifo.length →
      completes (.returnCharacter w) s
        { s with tl := { s.tl with receiver := r, overrun := countUp s.tl.overrun
                                   assembler := s.tl.assembler.map fun m => { m with bad := true } } }) ∧
    (stop = false →
      completes (.returnCharacter w) s
        { s with tl := { s.tl with receiver := r, framing := countUp s.tl.framing, assembler := none } })

/-- ASSEMBLER_TAKE (R154, R155): with a take made this sample period, or an empty FIFO, nothing changes (logs 5 and 9). A select starts
a message, and cuts one in progress short as stray; a stray character is counted and discarded; a character of a message is added. The
fifth character completes it; without an open window of its unit, or with the bad mark, it is stray (R156).

An accepted message (R156, R158): PRESENT, no misses, its status and code kept, the window closed. From the active transmitter the
reflected-power warning lowers the ceiling once, until it clears (R160). A request code that is not 0 and not the last is taken (R159):
LOWER and RESTORE_CEILING set and clear the flag with CEILING (R22); FALLBACK pushes REMOTE_FALLBACK, with the alert that the break
opportunity of a segue point taken by the push puts on the air (R47, R118; log 43), or raises REMOTE_REFUSED where R57 refuses it; SIGN_ON
and SIGN_OFF are judged as from a lane, REMOTE_REFUSED standing for a refusal, SIGN_ON with the remote enable (R136). Last, the changeover, if its condition then holds (R161). -/
def Obligations.AssemblerTakesOneCharacter : Prop :=
  ∀ (s : State),
    (s.tl.took = true ∨ s.tl.fifo = [] → completes .assemblerTake s s) ∧
    ∀ (c : SiteChar) (cs : List SiteChar), s.tl.took = false → s.tl.fifo = c :: cs →
      (∀ u, c.marker = true → unitOfSelect c.data = some u →
        completes .assemblerTake s
          { s with tl := { s.tl with fifo := cs, took := true, assembler := some { unit := u, chars := [], bad := false }
                                     stray := if s.tl.assembler = none then s.tl.stray else countUp s.tl.stray } }) ∧
      ((c.marker = true ∧ unitOfSelect c.data = none ∨ c.marker = false ∧ s.tl.assembler = none) →
        completes .assemblerTake s
          { s with tl := { s.tl with fifo := cs, took := true, assembler := none, stray := countUp s.tl.stray } }) ∧
      (∀ m : Assembly, c.marker = false → s.tl.assembler = some m → m.chars.length < 3 →
        completes .assemblerTake s
          { s with tl := { s.tl with fifo := cs, took := true
                                     assembler := some { m with chars := m.chars ++ [c.data] } } }) ∧
      (∀ (u : UnitId) (a1 a2 a3 : Byte) (bad : Bool), c.marker = false →
        s.tl.assembler = some { unit := u, chars := [a1, a2, a3], bad := bad } →
        ((bad = true ∨ 5 < c.data.toNat ∨ ∀ w, s.tl.window = some w → w.unit ≠ u ∨ w.left = 0) →
          completes .assemblerTake s
            { s with tl := { s.tl with fifo := cs, took := true, assembler := none, stray := countUp s.tl.stray } }) ∧
        (∀ (w : ReplyWindow) (x : SiteUnit) (seen lower : Bool) (b : State), bad = false → s.tl.window = some w → w.unit = u →
          0 < w.left → x = s.tl.units.get u →
          (lower = true ↔ s.tl.bearer s.tl.active.role = some u ∧ a1.getLsbD 4 = true ∧ s.pf.working.ceilingOnReflect = true ∧
            s.tl.reflectSeen = false) →
          seen = (if s.tl.bearer s.tl.active.role = some u then a1.getLsbD 4 && (s.tl.reflectSeen || lower)
            else s.tl.reflectSeen) →
          b = { s with
            tl := { s.tl with
              fifo := cs, took := true, assembler := none, window := none, reflectSeen := seen
              units := s.tl.units.set u
                { x with presence := .present, misses := 0, lastCode := c.data
                         last := some { flags := a1, forward := a2, reflected := a3, request := c.data } } }
            pb := if lower then { s.pb with ceilingLowered := true } else s.pb
            ev := if lower then s.ev.raise .ceiling else s.ev } →
          ((b.tl.mainDown → s.pf.working.autoChangeover = false ∨ s.tl.active = .standby ∨
              (s.air.state = .offAir ∨ s.air.state = .starting) ∧ c.data ≠ 3#8) →
            (c.data = 0#8 ∨ c.data = x.lastCode → completes .assemblerTake s b) ∧
            (c.data ≠ x.lastCode →
              (c.data = 1#8 →
                (s.fallbackOnTop = true ∨ s.al.onAir ≠ none ∨ s.air.state = .starting ∨ s.air.state = .offAir →
                  completes .assemblerTake s (b.raise .remoteRefused)) ∧
                (s.fallbackOnTop = false → s.al.onAir = none → s.air.state = .onAir ∨ s.air.state = .alertWake →
                  ∃ t, completes .assemblerTake s t ∧ t.air = s.air ∧ t.tl = b.tl ∧ t.cl = s.cl ∧
                    (b.pushGivesNoAir → b.fallsBackTo t .remoteFallback) ∧
                    ∀ (p : PendingAlert) (post : List PendingAlert), s.breakDue → s.al.table = p :: post → p.due = false →
                      s.al.armed = true → s.air.state = .onAir → ∃ y, b.fallsBackTo y .remoteFallback ∧ y.givesAirTo t p post)) ∧
              (c.data = 2#8 →
                (s.air.state = .starting ∨ s.al.onAir ≠ none ∨ s.ps.records ≠ [] →
                  completes .assemblerTake s (b.raise .remoteRefused)) ∧
                (s.al.onAir = none → s.ps.records = [] → s.air.state = .offAir → completes .assemblerTake s b) ∧
                (s.al.onAir = none → s.ps.records = [] → s.air.state = .onAir → s.noBreakTaken →
                  ∃ t, completes .assemblerTake s t ∧ b.signsOffTo t ∧ t.cl = s.cl)) ∧
              (c.data = 3#8 →
                (s.air.state = .starting ∨ s.pf.working.wake.remoteSignOn = false →
                  completes .assemblerTake s (b.raise .remoteRefused)) ∧
                (s.pf.working.wake.remoteSignOn = true →
                  (s.air.state = .onAir → completes .assemblerTake s b) ∧
                  (s.air.state = .alertWake → completes .assemblerTake s { b with air := { s.air with signOnPending := true } }) ∧
                  (s.air.state = .offAir → s.al.table = [] →
                    completes .assemblerTake s
                      { b with
                        air := { s.air with state := .onAir }
                        ev := b.ev.raise .airState
                        tl := b.tl.commandRole b.tl.active.role .carrierOn }))) ∧
              (c.data = 4#8 →
                completes .assemblerTake s { b with pb := { s.pb with ceilingLowered := true }, ev := b.ev.raise .ceiling }) ∧
              (c.data = 5#8 →
                completes .assemblerTake s { b with pb := { s.pb with ceilingLowered := false }, ev := b.ev.raise .ceiling }))) ∧
          (c.data = 0#8 ∨ c.data = x.lastCode → s.pf.working.autoChangeover = true → s.tl.active = .main →
            s.air.state = .onAir ∨ s.air.state = .alertWake → b.tl.mainDown → s.tl.holder = none → s.tl.sendQueue.length ≤ 10 →
            completes .assemblerTake s
              { b with
                tl := { b.tl with
                  active := .standby
                  reflectSeen := false
                  sendQueue := s.tl.sendQueue ++
                    (s.tl.charsTo .mainTx .carrierOff ++ s.tl.charsTo .standbyTx .carrierOn ++
                      s.tl.charsTo .siteControl .goStandby) }
                ev := b.ev.raise .txChangeover })))

/-- TX_SELECT's checks in their order (R159): UNKNOWN for a code above 1, DONE and nothing for the active transmitter, BAD_STATE for a role
no unit bears, and BAD_STATE for MAIN where the changeover condition of R161 would hold at once after it (log 36). Taken, here with an
empty holder and room in the queue: on the air CARRIER-OFF to the transmitter left and CARRIER-ON to the one named, off the air neither;
then GO-MAIN or GO-STANDBY to the site control unit; the register and reflect-seen written, TX_CHANGEOVER raised.

CEILING_RESTORE clears the ceiling-lowered flag and raises CEILING, whether or not it was set, and is answered DONE (R22). -/
def Obligations.TxSelectAndCeilingRestore : Prop :=
  (∀ (s : State) (rest more : List Byte) (c : Byte), s.asks .con rest (c :: more) →
     (1 < c.toNat → turnedAway (.txSelect .con rest) s .con (0x50#8 :: rest) .unknown) ∧
     ∀ (t : Transmitter) (up blocked : Prop) (q : List SiteChar), c.toNat = (if t = .main then 0 else 1) →
       (up ↔ s.air.state = .onAir ∨ s.air.state = .alertWake) →
       (blocked ↔ t = .main ∧ s.pf.working.autoChangeover = true ∧ up ∧ s.tl.mainDown) →
       (up → q = s.tl.charsTo s.tl.active.role .carrierOff ++ s.tl.charsTo t.role .carrierOn ++
         s.tl.charsTo .siteControl (if t = .main then .goMain else .goStandby)) →
       (¬ up → q = s.tl.charsTo .siteControl (if t = .main then .goMain else .goStandby)) →
       (t = s.tl.active → turnedAway (.txSelect .con rest) s .con (0x50#8 :: rest) .done) ∧
       (t ≠ s.tl.active → (∀ u, (s.tl.units.get u).role ≠ t.role) ∨ blocked →
         turnedAway (.txSelect .con rest) s .con (0x50#8 :: rest) .badState) ∧
       (t ≠ s.tl.active → (∃ u, (s.tl.units.get u).role = t.role) → ¬ blocked → s.tl.holder = none →
         s.tl.sendQueue.length + q.length ≤ 16 →
         completes (.txSelect .con rest) s
           { s with
             tl := { s.tl with active := t, reflectSeen := false, sendQueue := s.tl.sendQueue ++ q }
             ev := s.ev.raise .txChangeover
             cl := s.replied .con (0x50#8 :: rest) .done [] }) ∧
       (up → s.tl.active ≠ t → s.tl.units.u0.role = .mainTx → s.tl.units.u1.role = .standbyTx → s.tl.units.u2.role = .siteControl →
         q = if t = .main then
               [{ marker := true, data := 0xA1#8 }, { marker := false, data := 0x03#8 },
                { marker := true, data := 0xA0#8 }, { marker := false, data := 0x02#8 },
                { marker := true, data := 0xA2#8 }, { marker := false, data := 0x05#8 }]
             else
               [{ marker := true, data := 0xA0#8 }, { marker := false, data := 0x03#8 },
                { marker := true, data := 0xA1#8 }, { marker := false, data := 0x02#8 },
                { marker := true, data := 0xA2#8 }, { marker := false, data := 0x04#8 }])) ∧
  (∀ (s : State) (rest body : List Byte), s.asks .con rest body →
     completes (.ceilingRestore .con rest) s
       { s with pb := { s.pb with ceilingLowered := false }
                ev := s.ev.raise .ceiling
                cl := s.replied .con (0x51#8 :: rest) .done [] })

/-! ### Control lanes -/

/-- The fall of LSEL empties the receive buffer and begins to shift the reply out (R163, R167); on a lane whose LSEL is low it changes
nothing (log 5). A mix passes its sample period of LCLK edges to every lane: an edge in a transaction restarts the timer of 622,080 core
clocks, and a rising one takes a bit from LDI, most significant first, while LDO gives the bit of the reply, or 0 past its end; a byte
completed enters the receive buffer of 62 (R163, R167, R169; logs 3 and 10). With LSEL high LDO is released.

A transaction without a request, brought whole by its command (log 2), leaves its complete bytes in rx, takes a reply it clocked out
whole, keeps one clocked out in part or overwritten meanwhile (R168), and changes nothing else. On a lane that waits it is only the rise
(R169). For every transaction, bits already clocked that begin its bytes make no difference, and other bytes change nothing (log 2).

LANE_TIMEOUT: with the timer run out in a transaction, the buffer is emptied, an error counted, LANE_ERROR raised and the reply kept
(R169); at any other time it changes nothing (log 10). -/
def Obligations.TransactionsReadReplies : Prop :=
  (∀ (s : State) (l : LaneId), s.pf.held = false →
     ((s.lane l).phase = .idle →
       completes (.transactionStart l) s
         { s with cl := s.cl.set l { s.lane l with phase := .inTransaction, rx := [], bits := [], sent := [], timer := 0
                                                   shift := (s.lane l).reply, shiftStands := (s.lane l).reply.isSome } }) ∧
     ((s.lane l).phase ≠ .idle → completes (.transactionStart l) s s) ∧
     ((s.lane l).phase ≠ .inTransaction ∨ (s.lane l).timer < 622080 → completes (.laneTimeout l) s s) ∧
     ((s.lane l).phase = .inTransaction → 622080 ≤ (s.lane l).timer →
       completes (.laneTimeout l) s
         { s with
           cl := s.cl.set l { s.lane l with phase := .waitRise, rx := [], bits := [], timer := 0, shift := none
                                            shiftStands := false, errors := countUp (s.lane l).errors }
           ev := s.ev.raise .laneError })) ∧
  (∀ (s : State) (l : LaneId) (x : Lane) (reply : Option Reply → List Bool) (bytes : List Byte), s.pf.held = false →
     x = s.lane l → reply none = [] →
     (∀ r : Reply, reply (some r) =
       ([BitVec.ofNat 8 ((if r.collision then 128 else 0) + (if r.lost then 64 else 0) + r.code.num),
         BitVec.ofNat 8 r.body.length] ++ r.body).flatMap fun b => [7, 6, 5, 4, 3, 2, 1, 0].map fun i => b.getLsbD i) →
     (x.ldo = if x.phase = .inTransaction then some ((reply x.shift).getD x.bits.length false) else none) ∧
     (x.phase = .idle →
       completes (.readOnlyTransaction l bytes) s
         { s with
           cl := s.cl.set l
             { x with
               rx := bytes.take 62
               bits := []
               sent := (reply x.reply ++ List.replicate (8 * bytes.length) false).take (8 * bytes.length)
               timer := 0
               reply := x.reply.bind fun r => if r.body.length + 2 ≤ bytes.length then none else some r
               shift := none
               shiftStands := false } }) ∧
     (x.phase = .inTransaction → x.bits = [] →
       completes (.readOnlyTransaction l bytes) s
         { s with
           cl := s.cl.set l
             { x with
               phase := .idle
               rx := bytes.take 62
               sent := (reply x.shift ++ List.replicate (8 * bytes.length) false).take (8 * bytes.length)
               timer := 0
               reply := if x.shiftStands = true ∧ ∃ r, x.shift = some r ∧ r.body.length + 2 ≤ bytes.length then none else x.reply
               shift := none
               shiftStands := false } }) ∧
     (x.phase = .waitRise →
       completes (.readOnlyTransaction l bytes) s { s with cl := s.cl.set l { x with phase := .idle } }) ∧
     (∀ i : Instr, encodeTransaction i = some (l, bytes) → x.phase = .inTransaction →
       (x.bits <+: bytes.flatMap (fun b => [7, 6, 5, 4, 3, 2, 1, 0].map fun i => b.getLsbD i) →
         exec i s = exec i { s with cl := s.cl.set l { x with bits := [] } }) ∧
       (¬ x.bits <+: bytes.flatMap (fun b => [7, 6, 5, 4, 3, 2, 1, 0].map fun i => b.getLsbD i) → bytesIn x.bits ≠ bytes →
         completes i s s))) ∧
  (∀ (f : InputFrame) (s : State) (reply : Option Reply → List Bool) (into : List Bool → List Byte) (pass : Lane → Nat → Lane)
     (edge : Lane → LclkEdge → Lane), s.settled → reply none = [] →
     (∀ r : Reply, reply (some r) = r.bytes.flatMap fun b => [7, 6, 5, 4, 3, 2, 1, 0].map fun i => b.getLsbD i) →
     (∀ bits, bits.length < 8 → into bits = []) →
     (∀ (b : Byte) (more : List Bool), into ([7, 6, 5, 4, 3, 2, 1, 0].map (fun i => b.getLsbD i) ++ more) = b :: into more) →
     (∀ x n, pass x n = if x.phase = .inTransaction ∧ x.timer < 622080 then { x with timer := min (x.timer + n) 622080 } else x) →
     (∀ x e y, y = pass x e.wait → edge x e =
       if ¬ (y.phase = .inTransaction ∧ y.timer < 622080) then y
       else if e.rising then
         { y with timer := 0, bits := y.bits ++ [e.ldi], rx := (into (y.bits ++ [e.ldi])).take 62
                  sent := (reply y.shift ++ List.replicate (y.bits.length + 1) false).take (y.bits.length + 1) }
       else { y with timer := 0 }) →
     ∃ t, completes (.mix f) s t ∧
       ∀ l, t.lane l = pass ((f.lclk.get l).foldl edge (s.lane l)) (648 - ((f.lclk.get l).map (·.wait)).sum))

/-- What the lane itself settles (R164, R166, R168). NOP is answered DONE; an unknown code UNKNOWN; a reply overwrites one not taken
with the reply-lost flag and carries the collision flag away. Whatever its code, a request on a lane in flight is a collision, and only
the flag is set; a request on a lane that waits is only the rise of LSEL (R169, R170).

Lengths (R164 checks 2 and 5, R173 to R175): a transaction whose length byte is missing, above 60, or more than the bytes that follow it,
is answered BAD_LENGTH whatever its request, before its code and its lane are judged; a body shorter than its request's fields is
answered BAD_LENGTH on every lane that may send it. Nothing but the lane changes. -/
def Obligations.LanesSettleRequests : Prop :=
  (∀ (s : State) (l : LaneId) (rest body : List Byte) (code : Byte), code ≠ 0#8 → s.asks l rest body →
     completes (.nop l rest) s { s with cl := s.replied l (0x01#8 :: rest) .done [] } ∧
     turnedAway (.unknownRequestCode l code rest) s l (code :: rest) .unknown ∧
     (s.replied l (0x01#8 :: rest) .done []).get l =
       { (s.lane l).finish (0x01#8 :: rest) with
         reply := some { collision := (s.lane l).collision, lost := ((s.lane l).finish (0x01#8 :: rest)).reply.isSome
                         code := .done, body := [] }
         collision := false
         inFlight := false
         shiftStands := false }) ∧
  (∀ (s : State) (i : Instr) (l : LaneId) (rest : List Byte) (code : Byte), code ≠ 0#8 →
     encodeTransaction i = some (l, code :: rest) →
     (s.pf.held = false → (s.lane l).phase ≠ .waitRise → (s.lane l).inFlight = true → (s.lane l).bits = [] →
       completes i s { s with cl := s.cl.set l { (s.lane l).finish (code :: rest) with collision := true } }) ∧
     ((s.lane l).phase = .waitRise → completes i s { s with cl := s.cl.set l { s.lane l with phase := .idle } }) ∧
     (s.listens l → (rest = [] ∨ ∃ n more, rest = n :: more ∧ (60 < n.toNat ∨ more.length < n.toNat)) →
       turnedAway i s l (code :: rest) .badLength)) ∧
  (∀ (s : State) (l : LaneId) (rest body : List Byte), s.asks l rest body →
     (∀ p ∈ [(Instr.statusRead, 0x02#8, 1), (Instr.logRead, 0x03#8, 1), (Instr.eventEnable, 0x04#8, 5),
         (Instr.eventClear, 0x05#8, 4)],
       body.length < p.2.2 → turnedAway (p.1 l rest) s l (p.2.1 :: rest) .badLength) ∧
     (l ≠ .alr → ∀ p ∈ [(Instr.sourceGain, 0x20#8, 5), (Instr.sourceOn, 0x21#8, 3), (Instr.sourceOff, 0x22#8, 3),
         (Instr.resume, 0x29#8, 1)],
       body.length < p.2.2 → turnedAway (p.1 l rest) s l (p.2.1 :: rest) .badLength) ∧
     (l = .aut → ∀ p ∈ [(Instr.seqAppend, 0x10#8, 18), (Instr.seqInsert, 0x11#8, 20), (Instr.seqRemove, 0x12#8, 2),
         (Instr.seqReady, 0x13#8, 3)],
       body.length < p.2.2 → turnedAway (p.1 l rest) s l (p.2.1 :: rest) .badLength) ∧
     (l = .con → ∀ p ∈ [(Instr.sourceTake, 0x23#8, 1), (Instr.sourceRelease, 0x24#8, 1), (Instr.lineAnswer, 0x30#8, 1),
         (Instr.lineScreen, 0x31#8, 1), (Instr.lineHold, 0x32#8, 1), (Instr.lineReady, 0x33#8, 2), (Instr.lineAir, 0x34#8, 1),
         (Instr.lineDrop, 0x35#8, 1), (Instr.delayTarget, 0x38#8, 2), (Instr.wakeEnable, 0x4A#8, 1), (Instr.txSelect, 0x50#8, 1),
         (Instr.profileRead, 0x59#8, 1), ((Instr.profileWrite · true), 0x5A#8, 2)],
       body.length < p.2.2 → turnedAway (p.1 l rest) s l (p.2.1 :: rest) .badLength) ∧
     (l = .alr → ∀ p ∈ [(Instr.alertNotice, 0x40#8, 13), (Instr.alertAudioEnd, 0x41#8, 4), (Instr.alertCancel, 0x42#8, 4)],
       body.length < p.2.2 → turnedAway (p.1 l rest) s l (p.2.1 :: rest) .badLength))

/-- The authority table (R164 check 4, R171): a request from a lane that may not send it is answered REFUSED and changes nothing. -/
def Obligations.AuthorityTableRefuses : Prop :=
  ∀ (s : State) (l : LaneId) (rest body : List Byte), s.asks l rest body →
    (l ≠ .aut → ∀ p ∈ [(Instr.seqAppend, 0x10#8), (Instr.seqInsert, 0x11#8), (Instr.seqRemove, 0x12#8),
        (Instr.seqReady, 0x13#8), (Instr.doneRead, 0x18#8)],
      turnedAway (p.1 l rest) s l (p.2 :: rest) .refused) ∧
    (l ≠ .con → ∀ p ∈ [(Instr.seqContinue, 0x17#8), (Instr.sourceTake, 0x23#8), (Instr.sourceRelease, 0x24#8),
        (Instr.breakIn, 0x28#8), (Instr.lineAnswer, 0x30#8), (Instr.lineScreen, 0x31#8), (Instr.lineHold, 0x32#8),
        (Instr.lineReady, 0x33#8), (Instr.lineAir, 0x34#8), (Instr.lineDrop, 0x35#8), (Instr.delayTarget, 0x38#8),
        (Instr.delayDump, 0x39#8), (Instr.wakeEnable, 0x4A#8), (Instr.txSelect, 0x50#8), (Instr.ceilingRestore, 0x51#8),
        (Instr.globalReset, 0x58#8), (Instr.profileRead, 0x59#8)],
      turnedAway (p.1 l rest) s l (p.2 :: rest) .refused) ∧
    (l = .alr → ∀ p ∈ [(Instr.seqStart, 0x14#8), (Instr.seqStop, 0x15#8), (Instr.seqSkip, 0x16#8), (Instr.sourceGain, 0x20#8),
        (Instr.sourceOn, 0x21#8), (Instr.sourceOff, 0x22#8), (Instr.resume, 0x29#8), (Instr.signOn, 0x48#8),
        (Instr.signOff, 0x49#8)],
      turnedAway (p.1 l rest) s l (p.2 :: rest) .refused) ∧
    (l ≠ .alr → ∀ p ∈ [(Instr.alertNotice, 0x40#8), (Instr.alertAudioEnd, 0x41#8), (Instr.alertCancel, 0x42#8),
        (Instr.alertRearm, 0x43#8)],
      turnedAway (p.1 l rest) s l (p.2 :: rest) .refused) ∧
    ∀ eng : Bool, l ≠ .con ∨ eng = false → turnedAway (.profileWrite l eng rest) s l (0x5A#8 :: rest) .refused

/-- The command a transaction is, and the transaction a command is, agree for every well-formed command that is a transaction: every
request of the code table, an unknown code, and a transaction without a request (R163, R175). -/
def Obligations.TransactionsDecodeAsEncoded : Prop :=
  ∀ (i : Instr) (l : LaneId) (bytes : List Byte) (eng : Bool), i.wellFormed = true → encodeTransaction i = some (l, bytes) →
    (∀ e rest, i = .profileWrite l e rest → e = eng) → decodeTransaction l eng bytes = i

/-! ### Status and events -/

/-- STATUS_READ (R183): pages 0 to 4 of 52, 51, 29, 35 and 28 bytes, every field in its order, its size and its code, most significant byte
first; an absent field is 0 with its presence bit clear, and with no record on the stack or no alert on the air theirs are 0. Any other page
is UNKNOWN. Nothing but the lane changes.

The head position is that of the head's deck, 0 for a head on none; for a LIVE head it is the sample periods since the start time it has,
kept through a second halt (log 16), and 0 before it has halted the sequencer (log 42). -/
def Obligations.StatusReadShowsThePages : Prop :=
  ∀ (s : State) (l : LaneId) (rest more : List Byte) (n : Byte) (one two four : Nat → List Byte) (flag : Bool → Nat → Nat)
    (deck : Deck → List Byte) (line : LineRec → List Byte) (unit : SiteUnit → List Byte) (top last alert : List Byte) (head : Nat)
    (cause : Cause → Nat) (mode : DelayMode → Nat),
    s.asks l rest (n :: more) → one = bytesOf 1 → two = bytesOf 2 → four = bytesOf 4 →
    (∀ b k, flag b k = if b then 2 ^ k else 0) →
    (∀ c, cause c = match c with | .breakIn => 0 | .alert => 1 | .failover => 2 | .remoteFallback => 3) →
    (∀ m, mode m = match m with | .idle => 0 | .building => 1 | .steady => 2 | .catching => 3 | .frozen => 4) →
    (∀ k, deck k = one (match k.state with
      | .free => 0 | .cueing => 1 | .ready => 2 | .playing => 3 | .tailing => 4 | .paused => 5) ++
      two (k.item.getD 0) ++ four k.position) →
    (∀ k, line k = one (match k.state with
      | .idle => 0 | .ringing => 1 | .screen => 2 | .hold => 3 | .ready => 4 | .onAir => 5) ++
      one (flag k.seize 0 + flag k.holdLong 1 + flag k.holdStart.isSome 2) ++
      one (match k.feed with | .mixMinus => 0 | .hold => 1 | .screen => 2 | .alert => 3) ++
      four (k.holdStart.getD 0#32).toNat ++ four ((k.ringTimer.map (·.total)).getD 0)) →
    (∀ k, unit k = one (match k.role with | .mainTx => 0 | .standbyTx => 1 | .siteControl => 2 | .unused => 3) ++
      one (match k.presence with | .unknown => 0 | .present => 1 | .lost => 2) ++ one k.misses ++
      (match k.last with
        | some x => [1#8, x.flags, x.forward, x.reflected]
        | none => [0#8, 0#8, 0#8, 0#8]) ++ [k.lastCode]) →
    (s.ps.records = [] → top = List.replicate 6 0#8) →
    (∀ r rs, s.ps.records = r :: rs → top = one (cause r.cause) ++ four r.pushedAt.toNat ++ one (mode r.delayMode)) →
    (s.ps.lastResume = none → last = List.replicate 19 0#8) →
    (∀ y, s.ps.lastResume = some y → last = one (1 + flag y.item.isSome 1 + flag y.position.isSome 2) ++ one (cause y.cause) ++
      one (match y.takenBy with | .con => 0 | .aut => 1 | .alertUnit => 2) ++
      one (match y.kind with | .goOn => 0 | .next => 1 | .reprise => 2) ++ four y.poppedAt.toNat ++ four y.duration ++
      one (mode y.delayMode) ++ two (y.item.getD 0) ++ four (y.position.getD 0)) →
    (s.al.onAir = none → alert = List.replicate 6 0#8) →
    (∀ o, s.al.onAir = some o → alert = one (match o.phase with | .attention => 1 | .message => 2 | .closing => 3) ++ four o.id ++
      one (match o.cls with | .test => 0 | .advisory => 1 | .warning => 2 | .emergency => 3)) →
    head = (match s.sq.list with
      | [] => 0
      | h :: _ =>
        if h.kind = .live then (s.sq.liveStart.map fun c => (s.ev.clock - c).toNat).getD 0
        else if s.sq.deckA.item = some h.id then s.sq.deckA.position
        else if s.sq.deckB.item = some h.id then s.sq.deckB.position else 0) →
    (4 < n.toNat → turnedAway (.statusRead l rest) s l (0x02#8 :: rest) .unknown) ∧
    ∀ p : List Byte,
      (n.toNat = 0 ∧
          p = one (match s.air.state with | .offAir => 0 | .onAir => 1 | .alertWake => 2 | .starting => 3) ++
            one (flag s.pf.working.wake.autSignOn 0 + flag s.pf.working.wake.remoteSignOn 1 +
              flag s.pf.working.wake.alertWake 2 + flag s.air.signOnPending 3) ++
            two s.air.monitor.run ++ one s.ps.records.length ++ top ++
            one (match s.sq.state with | .stopped => 0 | .running => 1 | .halted => 2 | .preempted => 3) ++
            two ((s.sq.list.head?.map (·.id)).getD 0) ++ four head ++ deck s.sq.deckA ++ deck s.sq.deckB ++ last ++
            one s.sq.done.length ∨
        n.toNat = 1 ∧
          p = line (s.line .l1) ++ line (s.line .l2) ++ line (s.line .l3) ++ line (s.line .l4) ++ one s.lc.queue.length ++
            [0, 1, 2, 3].flatMap (fun i => one ((s.lc.queue[i]?.map fun m : LineId =>
              match m with | .l1 => 1 | .l2 => 2 | .l3 => 3 | .l4 => 4).getD 0)) ++ two s.lc.missed ∨
        n.toNat = 2 ∧
          p = four s.du.store.length ++ four s.du.target ++ four (s.du.pendingTarget.getD 0) ++
            one (mode s.du.mode) ++ one (flag s.du.pendingTarget.isSome 0 + flag s.al.armed 1 + flag s.al.onAir.isSome 2) ++ alert ++
            one s.al.table.length ++ four s.al.recordCounter.toNat ++ four s.al.noticeCounter.toNat ∨
        n.toNat = 3 ∧
          p = unit s.tl.units.u0 ++ unit s.tl.units.u1 ++ unit s.tl.units.u2 ++ unit s.tl.units.u3 ++
            one (match s.tl.active with | .main => 0 | .standby => 1) ++
            one (flag s.pb.ceilingLowered 0 + flag s.tl.reflectSeen 1 + flag s.tl.holder.isSome 2) ++ one s.tl.sendQueue.length ∨
        n.toNat = 4 ∧
          p = two s.pb.clipCount ++ two s.pb.ceilingHits ++ two s.ps.overflow ++ two s.sq.doneOverflow ++ two s.tl.framing ++
            two s.tl.overrun ++ two s.tl.stray ++ two s.du.dumps ++ two s.al.logOverwrites ++ two s.cl.aut.errors ++
            two s.cl.con.errors ++ two s.cl.alr.errors ++ four s.ev.clock.toNat) →
      completes (.statusRead l rest) s { s with cl := s.replied l (0x02#8 :: rest) .done p } ∧
        p.length = (if n.toNat = 0 then 52 else if n.toNat = 1 then 51 else if n.toNat = 2 then 29
          else if n.toNat = 3 then 35 else 28)

/-- EVENT_CLEAR removes the named kinds from the requesting lane's status set and EVENT_ENABLE adds them to or removes them from its
enable set; the other lanes' sets stay (R179, R180).

A raise reaches every lane's status set and nothing else of the event unit, and an attention line is asserted exactly while its
lane's two sets share a kind (R178, R181). -/
def Obligations.EventsReachTheLanes : Prop :=
  (∀ (s : State) (l : LaneId) (rest more : List Byte) (k3 k2 k1 k0 : Byte) (k : EventSet),
     k = (k3 ++ k2 ++ k1 ++ k0 : BitVec 32).setWidth 29 →
     (s.asks l rest (k3 :: k2 :: k1 :: k0 :: more) →
       completes (.eventClear l rest) s
         { s with ev := { s.ev with status := s.ev.status.set l (s.ev.status.get l &&& ~~~k) }
                  cl := s.replied l (0x05#8 :: rest) .done [] }) ∧
     ∀ on : Byte, s.asks l rest (k3 :: k2 :: k1 :: k0 :: on :: more) →
       completes (.eventEnable l rest) s
         { s with
           ev := { s.ev with
             enable := s.ev.enable.set l
               (if on.getLsbD 0 then s.ev.enable.get l ||| k else s.ev.enable.get l &&& ~~~k) }
           cl := s.replied l (0x04#8 :: rest) .done [] }) ∧
  (∀ (s : State) (k : EventKind) (l : LaneId),
     (s.raise k).ev.status.get l = s.ev.status.get l ||| k.set ∧ (s.raise k).ev.enable = s.ev.enable ∧
     (s.raise k).ev.clock = s.ev.clock ∧
     (s.attention l = true ↔ ∃ x : EventKind, s.ev.status.get l &&& x.set ≠ 0#29 ∧ s.ev.enable.get l &&& x.set ≠ 0#29))

/-! ### Station profile -/

/-- PROFILE_READ (R186): BUSY during the load, UNKNOWN for a code outside 0x01 to 0x20, otherwise DONE with the code, the length and the
value of the working copy, each of the 32 fields in its size, most significant byte first (R173, R185): a set or clear field as 0 or 1,
the region list as its count and its codes, the roles and the duck classes one byte each. Nothing but the lane changes. -/
def Obligations.ProfileReadShowsTheWorkingCopy : Prop :=
  ∀ (s : State) (rest more : List Byte) (c : Byte) (p : Profile), s.asks .con rest (c :: more) → p = s.pf.working →
    (s.pf.load ≠ none → turnedAway (.profileRead .con rest) s .con (0x59#8 :: rest) .busy) ∧
    (s.pf.load = none → c = 0#8 ∨ 0x20 < c.toNat → turnedAway (.profileRead .con rest) s .con (0x59#8 :: rest) .unknown) ∧
    ∀ (v : List Byte) (flag : Bool → List Byte), (∀ b, flag b = [if b then 1#8 else 0#8]) → s.pf.load = none →
      (c, v) ∈ [(0x01#8, bytesOf 1 p.stationCode), (0x02#8, bytesOf 1 p.regions.length ++ p.regions.flatMap (bytesOf 2)),
        (0x03#8, bytesOf 2 p.duckDepth), (0x04#8, bytesOf 2 p.duckAttack), (0x05#8, bytesOf 2 p.duckRelease),
        (0x06#8, bytesOf 2 p.holdGain), (0x07#8, bytesOf 2 p.takeFade), (0x08#8, bytesOf 2 p.preemptFade),
        (0x09#8, bytesOf 2 p.reprise),
        (0x0A#8, [match p.afterAlert with | .goOn => 0#8 | .next => 1#8 | .reprise => 2#8]),
        (0x0B#8, bytesOf 4 p.silenceThreshold), (0x0C#8, bytesOf 1 p.silenceLimit), (0x0D#8, bytesOf 4 p.ceiling),
        (0x0E#8, flag p.ceilingOnReflect), (0x0F#8, bytesOf 1 p.buildDivisor), (0x10#8, bytesOf 2 p.dumpSize),
        (0x11#8, bytesOf 2 p.startTarget), (0x12#8, bytesOf 1 p.attention), (0x13#8, bytesOf 2 p.toneLevel),
        (0x14#8, bytesOf 2 p.alertGain), (0x15#8, flag p.airTests),
        (0x16#8, bytesOf 1 ((if p.wake.autSignOn then 1 else 0) + (if p.wake.remoteSignOn then 2 else 0) +
          (if p.wake.alertWake then 4 else 0))),
        (0x17#8, [match p.startState with | .offAir => 0#8 | .onAir => 1#8]), (0x18#8, bytesOf 1 p.startDelay),
        (0x19#8, bytesOf 1 p.returnN), (0x1A#8, bytesOf 1 p.returnF), (0x1B#8, bytesOf 2 p.pollPeriod),
        (0x1C#8, [p.roles.u0, p.roles.u1, p.roles.u2, p.roles.u3].map fun r =>
          match r with | .mainTx => 0#8 | .standbyTx => 1#8 | .siteControl => 2#8 | .unused => 3#8),
        (0x1D#8, flag p.autoChangeover), (0x1E#8, bytesOf 2 p.holdLimit), (0x1F#8, bytesOf 1 p.ringTimeout),
        (0x20#8, [Source.pla, .plb, .mic, .fbk, .ln1, .ln2, .ln3, .ln4].map fun src =>
          match p.duckClasses.get src with | .ducked => 0#8 | .ducker => 1#8 | .neither => 2#8)] →
      completes (.profileRead .con rest) s
        { s with cl := s.replied .con (0x59#8 :: rest) .done (c :: BitVec.ofNat 8 v.length :: v) }

/-- PROFILE_WRITE with ENG high (R187): BUSY during the load, UNKNOWN for a code that names no field, BAD_LENGTH for another length than
the field's. A value of the right length, of any field, is clamped into the working copy at once, a set or clear field by its bit 0 (log
24); the marker is cleared, the write runs
576 sample periods, and the lane is in flight without a reply. A changed role starts its unit's record anew (R158); a write of the roles
or of auto-changeover takes the changeover if its condition then holds (R161); off air a write of the wake enables sweeps as WAKE_ENABLE
does (R119, R134), here with no alert that then takes the air. No other field reaches anything but the working copy.

PROFILE_WRITE_COMPLETE at the end of the 576 sample periods: the non-volatile copy, until then as it was (log 26), is the image, the
marker set, and DONE placed on CON, no longer in flight (R187). Before that, or with no write begun, nothing changes (log 5). -/
def Obligations.ProfileWriteBeginsAndCompletes : Prop :=
  (∀ (s : State) (rest more value : List Byte) (c : Byte), value.length ≤ 58 →
     s.asks .con rest (c :: BitVec.ofNat 8 value.length :: (value ++ more)) →
     (s.pf.load ≠ none → turnedAway (.profileWrite .con true rest) s .con (0x5A#8 :: rest) .busy) ∧
     (s.pf.load = none → c = 0#8 ∨ 0x20 < c.toNat →
       turnedAway (.profileWrite .con true rest) s .con (0x5A#8 :: rest) .unknown) ∧
     (s.pf.load = none → 1 ≤ c.toNat → c.toNat ≤ 0x20 → (∀ f, ¬ fieldWrites c value f) →
       turnedAway (.profileWrite .con true rest) s .con (0x5A#8 :: rest) .badLength) ∧
     ∀ (f : Profile → Profile) (p : Profile) (b : State) (l : Link), s.pf.load = none → fieldWrites c value f → p = f s.pf.working →
       l = { s.tl with
         units := if c = 0x1C#8 then
             { u0 := if s.tl.units.u0.role = p.roles.u0 then s.tl.units.u0 else .initial p.roles.u0
               u1 := if s.tl.units.u1.role = p.roles.u1 then s.tl.units.u1 else .initial p.roles.u1
               u2 := if s.tl.units.u2.role = p.roles.u2 then s.tl.units.u2 else .initial p.roles.u2
               u3 := if s.tl.units.u3.role = p.roles.u3 then s.tl.units.u3 else .initial p.roles.u3 }
           else s.tl.units } →
       b = { s with
         pf := { s.pf with
           working := p
           valid := false
           write := some { left := 576, image := if s.pf.valid then f s.pf.stored else p } }
         cl := s.cl.set .con { (s.lane .con).finish (0x5A#8 :: rest) with inFlight := true } } →
       (c ≠ 0x16#8 → c ≠ 0x1C#8 → c ≠ 0x1D#8 → completes (.profileWrite .con true rest) s b) ∧
       (c = 0x1C#8 ∨ c = 0x1D#8 →
         (p.autoChangeover = false ∨ s.tl.active = .standby ∨ s.air.state = .offAir ∨ s.air.state = .starting ∨ ¬ l.mainDown →
           completes (.profileWrite .con true rest) s { b with tl := l }) ∧
         (p.autoChangeover = true → s.tl.active = .main → s.air.state = .onAir ∨ s.air.state = .alertWake → l.mainDown →
           s.tl.holder = none → s.tl.sendQueue.length ≤ 10 →
           completes (.profileWrite .con true rest) s
             { b with
               tl := { l with
                 active := .standby
                 reflectSeen := false
                 sendQueue := s.tl.sendQueue ++
                   (l.charsTo .mainTx .carrierOff ++ l.charsTo .standbyTx .carrierOn ++ l.charsTo .siteControl .goStandby) }
               ev := s.ev.raise .txChangeover })) ∧
       (c = 0x16#8 → s.air.state ≠ .offAir → completes (.profileWrite .con true rest) s b) ∧
       (c = 0x16#8 → s.air.state = .offAir → s.collectionsFit →
         ∀ (stops : PendingAlert → Bool) (al : AlertUnit),
           (∀ a, stops a = !(p.wake.alertWake && (a.cls = .warning || a.cls = .emergency))) →
           al = { s.al.logged ((s.al.table.filter stops).map (·.record .notAired)) with
                  table := s.al.table.filter fun a => !stops a } →
           (s.al.armed = false ∨ s.al.onAir ≠ none ∨ ∀ a, al.table.head? = some a → a.due = false) →
           completes (.profileWrite .con true rest) s { b with al := al })) ∧
  (∀ s : State,
     (s.pf.write = none ∨ (∃ w, s.pf.write = some w ∧ w.left ≠ 0) → completes .profileWriteComplete s s) ∧
     ∀ w : StoreWrite, s.pf.write = some w → w.left = 0 →
       completes .profileWriteComplete s
         { s with
           pf := { s.pf with stored := w.image, valid := true, write := none }
           cl := s.cl.set .con
             { s.lane .con with
               reply := some { collision := (s.lane .con).collision, lost := (s.lane .con).reply.isSome, code := .done, body := [] }
               collision := false
               inFlight := false
               shiftStands := false } })

/-! ### Invariants -/

/-- Every step keeps the notice count identity of R130. -/
def Obligations.EveryStepKeepsTheNoticeCount : Prop :=
  Kept State.noticesBalance

/-- Every step keeps the collections within their places: stack, done list, pending table, alert log, send queue, return FIFO. -/
def Obligations.EveryStepKeepsTheCollections : Prop :=
  Kept State.collectionsFit

/-- Every step keeps the air sequence within 32 items of distinct ids, the tail slot among them (R27).

Every step keeps the decks with the items (R27, R31): FREE exactly without an item, position 0 while FREE, CUEING or READY, PLAYING with
the head and TAILING with the tail slot's item, and no item on two decks.

Every step ends with no break opportunity signalled (R47). -/
def Obligations.EveryStepKeepsTheSequence : Prop :=
  (Kept State.sequenceSound) ∧
  (Kept State.decksSound) ∧
  (Kept State.noSignalStands)

/-- Every step keeps the delay within its limits: the targets, the store's capacity, and while BUILDING fewer pairs than T. -/
def Obligations.EveryStepKeepsTheDelay : Prop :=
  Kept State.delaySound

/-- Every step keeps the lines sound: the queue holds exactly the READY lines, the records follow their states, at most two lines are
ON_AIR, and none during an alert phase, while the ALERT record stands on top (R82 to R84, R88). -/
def Obligations.EveryStepKeepsTheLines : Prop :=
  Kept State.linesSound

/-- Every step keeps every fader, saved fader and item level within its range. -/
def Obligations.EveryStepKeepsTheLevels : Prop :=
  Kept State.levelsInRange
end

