-- ==== Sys2Proof/Laws/State.lean ====
section
/-! SUPPORT. One lemma per field per update of the state, each true by unfolding the update once, so that no later proof unfolds a
record update. -/

namespace Sys2Proof.Machine

variable (s : State)

/-! `State.raise` -/

@[simp] theorem State.raise_pending (k : EventKind) : (s.raise k).pending = s.pending := rfl
@[simp] theorem State.raise_pb (k : EventKind) : (s.raise k).pb = s.pb := rfl
@[simp] theorem State.raise_ap (k : EventKind) : (s.raise k).ap = s.ap := rfl
@[simp] theorem State.raise_sq (k : EventKind) : (s.raise k).sq = s.sq := rfl
@[simp] theorem State.raise_ps (k : EventKind) : (s.raise k).ps = s.ps := rfl
@[simp] theorem State.raise_lc (k : EventKind) : (s.raise k).lc = s.lc := rfl
@[simp] theorem State.raise_du (k : EventKind) : (s.raise k).du = s.du := rfl
@[simp] theorem State.raise_al (k : EventKind) : (s.raise k).al = s.al := rfl
@[simp] theorem State.raise_air (k : EventKind) : (s.raise k).air = s.air := rfl
@[simp] theorem State.raise_tl (k : EventKind) : (s.raise k).tl = s.tl := rfl
@[simp] theorem State.raise_cl (k : EventKind) : (s.raise k).cl = s.cl := rfl
@[simp] theorem State.raise_ev (k : EventKind) : (s.raise k).ev = s.ev.raise k := rfl
@[simp] theorem State.raise_pf (k : EventKind) : (s.raise k).pf = s.pf := rfl

/-! `State.setEntry` -/

@[simp] theorem State.setEntry_pending (src : Source) (e : Entry) : (s.setEntry src e).pending = s.pending := rfl
@[simp] theorem State.setEntry_pb (src : Source) (e : Entry) : (s.setEntry src e).pb = { s.pb with roster := s.pb.roster.set src e } := rfl
@[simp] theorem State.setEntry_ap (src : Source) (e : Entry) : (s.setEntry src e).ap = s.ap := rfl
@[simp] theorem State.setEntry_sq (src : Source) (e : Entry) : (s.setEntry src e).sq = s.sq := rfl
@[simp] theorem State.setEntry_ps (src : Source) (e : Entry) : (s.setEntry src e).ps = s.ps := rfl
@[simp] theorem State.setEntry_lc (src : Source) (e : Entry) : (s.setEntry src e).lc = s.lc := rfl
@[simp] theorem State.setEntry_du (src : Source) (e : Entry) : (s.setEntry src e).du = s.du := rfl
@[simp] theorem State.setEntry_al (src : Source) (e : Entry) : (s.setEntry src e).al = s.al := rfl
@[simp] theorem State.setEntry_air (src : Source) (e : Entry) : (s.setEntry src e).air = s.air := rfl
@[simp] theorem State.setEntry_tl (src : Source) (e : Entry) : (s.setEntry src e).tl = s.tl := rfl
@[simp] theorem State.setEntry_cl (src : Source) (e : Entry) : (s.setEntry src e).cl = s.cl := rfl
@[simp] theorem State.setEntry_ev (src : Source) (e : Entry) : (s.setEntry src e).ev = s.ev := rfl
@[simp] theorem State.setEntry_pf (src : Source) (e : Entry) : (s.setEntry src e).pf = s.pf := rfl

/-! `State.updEntry` -/

@[simp] theorem State.updEntry_pending (src : Source) (f : Entry → Entry) : (s.updEntry src f).pending = s.pending := rfl
@[simp] theorem State.updEntry_pb (src : Source) (f : Entry → Entry) : (s.updEntry src f).pb = { s.pb with roster := s.pb.roster.set src (f (s.pb.roster.get src)) } := rfl
@[simp] theorem State.updEntry_ap (src : Source) (f : Entry → Entry) : (s.updEntry src f).ap = s.ap := rfl
@[simp] theorem State.updEntry_sq (src : Source) (f : Entry → Entry) : (s.updEntry src f).sq = s.sq := rfl
@[simp] theorem State.updEntry_ps (src : Source) (f : Entry → Entry) : (s.updEntry src f).ps = s.ps := rfl
@[simp] theorem State.updEntry_lc (src : Source) (f : Entry → Entry) : (s.updEntry src f).lc = s.lc := rfl
@[simp] theorem State.updEntry_du (src : Source) (f : Entry → Entry) : (s.updEntry src f).du = s.du := rfl
@[simp] theorem State.updEntry_al (src : Source) (f : Entry → Entry) : (s.updEntry src f).al = s.al := rfl
@[simp] theorem State.updEntry_air (src : Source) (f : Entry → Entry) : (s.updEntry src f).air = s.air := rfl
@[simp] theorem State.updEntry_tl (src : Source) (f : Entry → Entry) : (s.updEntry src f).tl = s.tl := rfl
@[simp] theorem State.updEntry_cl (src : Source) (f : Entry → Entry) : (s.updEntry src f).cl = s.cl := rfl
@[simp] theorem State.updEntry_ev (src : Source) (f : Entry → Entry) : (s.updEntry src f).ev = s.ev := rfl
@[simp] theorem State.updEntry_pf (src : Source) (f : Entry → Entry) : (s.updEntry src f).pf = s.pf := rfl

/-! `State.updRoster` -/

@[simp] theorem State.updRoster_pending (f : Source → Entry → Entry) : (s.updRoster f).pending = s.pending := rfl
@[simp] theorem State.updRoster_pb (f : Source → Entry → Entry) : (s.updRoster f).pb = { s.pb with roster := s.pb.roster.mapWith f } := rfl
@[simp] theorem State.updRoster_ap (f : Source → Entry → Entry) : (s.updRoster f).ap = s.ap := rfl
@[simp] theorem State.updRoster_sq (f : Source → Entry → Entry) : (s.updRoster f).sq = s.sq := rfl
@[simp] theorem State.updRoster_ps (f : Source → Entry → Entry) : (s.updRoster f).ps = s.ps := rfl
@[simp] theorem State.updRoster_lc (f : Source → Entry → Entry) : (s.updRoster f).lc = s.lc := rfl
@[simp] theorem State.updRoster_du (f : Source → Entry → Entry) : (s.updRoster f).du = s.du := rfl
@[simp] theorem State.updRoster_al (f : Source → Entry → Entry) : (s.updRoster f).al = s.al := rfl
@[simp] theorem State.updRoster_air (f : Source → Entry → Entry) : (s.updRoster f).air = s.air := rfl
@[simp] theorem State.updRoster_tl (f : Source → Entry → Entry) : (s.updRoster f).tl = s.tl := rfl
@[simp] theorem State.updRoster_cl (f : Source → Entry → Entry) : (s.updRoster f).cl = s.cl := rfl
@[simp] theorem State.updRoster_ev (f : Source → Entry → Entry) : (s.updRoster f).ev = s.ev := rfl
@[simp] theorem State.updRoster_pf (f : Source → Entry → Entry) : (s.updRoster f).pf = s.pf := rfl

/-! `State.setSq` -/

@[simp] theorem State.setSq_pending (q : Sequencer) : (s.setSq q).pending = s.pending := rfl
@[simp] theorem State.setSq_pb (q : Sequencer) : (s.setSq q).pb = s.pb := rfl
@[simp] theorem State.setSq_ap (q : Sequencer) : (s.setSq q).ap = s.ap := rfl
@[simp] theorem State.setSq_sq (q : Sequencer) : (s.setSq q).sq = q := rfl
@[simp] theorem State.setSq_ps (q : Sequencer) : (s.setSq q).ps = s.ps := rfl
@[simp] theorem State.setSq_lc (q : Sequencer) : (s.setSq q).lc = s.lc := rfl
@[simp] theorem State.setSq_du (q : Sequencer) : (s.setSq q).du = s.du := rfl
@[simp] theorem State.setSq_al (q : Sequencer) : (s.setSq q).al = s.al := rfl
@[simp] theorem State.setSq_air (q : Sequencer) : (s.setSq q).air = s.air := rfl
@[simp] theorem State.setSq_tl (q : Sequencer) : (s.setSq q).tl = s.tl := rfl
@[simp] theorem State.setSq_cl (q : Sequencer) : (s.setSq q).cl = s.cl := rfl
@[simp] theorem State.setSq_ev (q : Sequencer) : (s.setSq q).ev = s.ev := rfl
@[simp] theorem State.setSq_pf (q : Sequencer) : (s.setSq q).pf = s.pf := rfl

/-! `State.setDeck` -/

@[simp] theorem State.setDeck_pending (d : DeckId) (k : Deck) : (s.setDeck d k).pending = s.pending := rfl
@[simp] theorem State.setDeck_pb (d : DeckId) (k : Deck) : (s.setDeck d k).pb = s.pb := rfl
@[simp] theorem State.setDeck_ap (d : DeckId) (k : Deck) : (s.setDeck d k).ap = s.ap := rfl
@[simp] theorem State.setDeck_sq (d : DeckId) (k : Deck) : (s.setDeck d k).sq = s.sq.setDeck d k := rfl
@[simp] theorem State.setDeck_ps (d : DeckId) (k : Deck) : (s.setDeck d k).ps = s.ps := rfl
@[simp] theorem State.setDeck_lc (d : DeckId) (k : Deck) : (s.setDeck d k).lc = s.lc := rfl
@[simp] theorem State.setDeck_du (d : DeckId) (k : Deck) : (s.setDeck d k).du = s.du := rfl
@[simp] theorem State.setDeck_al (d : DeckId) (k : Deck) : (s.setDeck d k).al = s.al := rfl
@[simp] theorem State.setDeck_air (d : DeckId) (k : Deck) : (s.setDeck d k).air = s.air := rfl
@[simp] theorem State.setDeck_tl (d : DeckId) (k : Deck) : (s.setDeck d k).tl = s.tl := rfl
@[simp] theorem State.setDeck_cl (d : DeckId) (k : Deck) : (s.setDeck d k).cl = s.cl := rfl
@[simp] theorem State.setDeck_ev (d : DeckId) (k : Deck) : (s.setDeck d k).ev = s.ev := rfl
@[simp] theorem State.setDeck_pf (d : DeckId) (k : Deck) : (s.setDeck d k).pf = s.pf := rfl

/-! `State.setLine` -/

@[simp] theorem State.setLine_pending (n : LineId) (r : LineRec) : (s.setLine n r).pending = s.pending := rfl
@[simp] theorem State.setLine_pb (n : LineId) (r : LineRec) : (s.setLine n r).pb = s.pb := rfl
@[simp] theorem State.setLine_ap (n : LineId) (r : LineRec) : (s.setLine n r).ap = s.ap := rfl
@[simp] theorem State.setLine_sq (n : LineId) (r : LineRec) : (s.setLine n r).sq = s.sq := rfl
@[simp] theorem State.setLine_ps (n : LineId) (r : LineRec) : (s.setLine n r).ps = s.ps := rfl
@[simp] theorem State.setLine_lc (n : LineId) (r : LineRec) : (s.setLine n r).lc = { s.lc with lines := s.lc.lines.set n r } := rfl
@[simp] theorem State.setLine_du (n : LineId) (r : LineRec) : (s.setLine n r).du = s.du := rfl
@[simp] theorem State.setLine_al (n : LineId) (r : LineRec) : (s.setLine n r).al = s.al := rfl
@[simp] theorem State.setLine_air (n : LineId) (r : LineRec) : (s.setLine n r).air = s.air := rfl
@[simp] theorem State.setLine_tl (n : LineId) (r : LineRec) : (s.setLine n r).tl = s.tl := rfl
@[simp] theorem State.setLine_cl (n : LineId) (r : LineRec) : (s.setLine n r).cl = s.cl := rfl
@[simp] theorem State.setLine_ev (n : LineId) (r : LineRec) : (s.setLine n r).ev = s.ev := rfl
@[simp] theorem State.setLine_pf (n : LineId) (r : LineRec) : (s.setLine n r).pf = s.pf := rfl

/-! `State.enterLine` -/

@[simp] theorem State.enterLine_pending (n : LineId) (st : LineState) : (s.enterLine n st).pending = s.pending := rfl
@[simp] theorem State.enterLine_pb (n : LineId) (st : LineState) : (s.enterLine n st).pb = s.pb := rfl
@[simp] theorem State.enterLine_ap (n : LineId) (st : LineState) : (s.enterLine n st).ap = s.ap := rfl
@[simp] theorem State.enterLine_sq (n : LineId) (st : LineState) : (s.enterLine n st).sq = s.sq := rfl
@[simp] theorem State.enterLine_ps (n : LineId) (st : LineState) : (s.enterLine n st).ps = s.ps := rfl
@[simp] theorem State.enterLine_lc (n : LineId) (st : LineState) : (s.enterLine n st).lc = { s.lc with lines := s.lc.lines.set n ((s.lc.lines.get n).enter st s.alertActive s.ev.clock) } := rfl
@[simp] theorem State.enterLine_du (n : LineId) (st : LineState) : (s.enterLine n st).du = s.du := rfl
@[simp] theorem State.enterLine_al (n : LineId) (st : LineState) : (s.enterLine n st).al = s.al := rfl
@[simp] theorem State.enterLine_air (n : LineId) (st : LineState) : (s.enterLine n st).air = s.air := rfl
@[simp] theorem State.enterLine_tl (n : LineId) (st : LineState) : (s.enterLine n st).tl = s.tl := rfl
@[simp] theorem State.enterLine_cl (n : LineId) (st : LineState) : (s.enterLine n st).cl = s.cl := rfl
@[simp] theorem State.enterLine_ev (n : LineId) (st : LineState) : (s.enterLine n st).ev = s.ev := rfl
@[simp] theorem State.enterLine_pf (n : LineId) (st : LineState) : (s.enterLine n st).pf = s.pf := rfl

/-! `State.leaveOffers` -/

@[simp] theorem State.leaveOffers_pending (n : LineId) : (s.leaveOffers n).pending = s.pending := rfl
@[simp] theorem State.leaveOffers_pb (n : LineId) : (s.leaveOffers n).pb = s.pb := rfl
@[simp] theorem State.leaveOffers_ap (n : LineId) : (s.leaveOffers n).ap = s.ap := rfl
@[simp] theorem State.leaveOffers_sq (n : LineId) : (s.leaveOffers n).sq = s.sq := rfl
@[simp] theorem State.leaveOffers_ps (n : LineId) : (s.leaveOffers n).ps = { s.ps with records := s.ps.records.map fun r => { r with gone := r.gone.set n true } } := rfl
@[simp] theorem State.leaveOffers_lc (n : LineId) : (s.leaveOffers n).lc = s.lc := rfl
@[simp] theorem State.leaveOffers_du (n : LineId) : (s.leaveOffers n).du = s.du := rfl
@[simp] theorem State.leaveOffers_al (n : LineId) : (s.leaveOffers n).al = s.al := rfl
@[simp] theorem State.leaveOffers_air (n : LineId) : (s.leaveOffers n).air = s.air := rfl
@[simp] theorem State.leaveOffers_tl (n : LineId) : (s.leaveOffers n).tl = s.tl := rfl
@[simp] theorem State.leaveOffers_cl (n : LineId) : (s.leaveOffers n).cl = s.cl := rfl
@[simp] theorem State.leaveOffers_ev (n : LineId) : (s.leaveOffers n).ev = s.ev := rfl
@[simp] theorem State.leaveOffers_pf (n : LineId) : (s.leaveOffers n).pf = s.pf := rfl

/-! `State.joinQueue` -/

@[simp] theorem State.joinQueue_pending (n : LineId) (front : Bool) : (s.joinQueue n front).pending = s.pending := rfl
@[simp] theorem State.joinQueue_pb (n : LineId) (front : Bool) : (s.joinQueue n front).pb = s.pb := rfl
@[simp] theorem State.joinQueue_ap (n : LineId) (front : Bool) : (s.joinQueue n front).ap = s.ap := rfl
@[simp] theorem State.joinQueue_sq (n : LineId) (front : Bool) : (s.joinQueue n front).sq = s.sq := rfl
@[simp] theorem State.joinQueue_ps (n : LineId) (front : Bool) : (s.joinQueue n front).ps = s.ps := rfl
@[simp] theorem State.joinQueue_lc (n : LineId) (front : Bool) : (s.joinQueue n front).lc = { s.lc with queue := if front then n :: s.lc.queue else s.lc.queue ++ [n] } := rfl
@[simp] theorem State.joinQueue_du (n : LineId) (front : Bool) : (s.joinQueue n front).du = s.du := rfl
@[simp] theorem State.joinQueue_al (n : LineId) (front : Bool) : (s.joinQueue n front).al = s.al := rfl
@[simp] theorem State.joinQueue_air (n : LineId) (front : Bool) : (s.joinQueue n front).air = s.air := rfl
@[simp] theorem State.joinQueue_tl (n : LineId) (front : Bool) : (s.joinQueue n front).tl = s.tl := rfl
@[simp] theorem State.joinQueue_cl (n : LineId) (front : Bool) : (s.joinQueue n front).cl = s.cl := rfl
@[simp] theorem State.joinQueue_ev (n : LineId) (front : Bool) : (s.joinQueue n front).ev = s.ev.raise .queueChange := rfl
@[simp] theorem State.joinQueue_pf (n : LineId) (front : Bool) : (s.joinQueue n front).pf = s.pf := rfl

/-! `State.setDu` -/

@[simp] theorem State.setDu_pending (d : Delay) : (s.setDu d).pending = s.pending := rfl
@[simp] theorem State.setDu_pb (d : Delay) : (s.setDu d).pb = s.pb := rfl
@[simp] theorem State.setDu_ap (d : Delay) : (s.setDu d).ap = s.ap := rfl
@[simp] theorem State.setDu_sq (d : Delay) : (s.setDu d).sq = s.sq := rfl
@[simp] theorem State.setDu_ps (d : Delay) : (s.setDu d).ps = s.ps := rfl
@[simp] theorem State.setDu_lc (d : Delay) : (s.setDu d).lc = s.lc := rfl
@[simp] theorem State.setDu_du (d : Delay) : (s.setDu d).du = d := rfl
@[simp] theorem State.setDu_al (d : Delay) : (s.setDu d).al = s.al := rfl
@[simp] theorem State.setDu_air (d : Delay) : (s.setDu d).air = s.air := rfl
@[simp] theorem State.setDu_tl (d : Delay) : (s.setDu d).tl = s.tl := rfl
@[simp] theorem State.setDu_cl (d : Delay) : (s.setDu d).cl = s.cl := rfl
@[simp] theorem State.setDu_ev (d : Delay) : (s.setDu d).ev = s.ev := rfl
@[simp] theorem State.setDu_pf (d : Delay) : (s.setDu d).pf = s.pf := rfl

/-! `State.setTl` -/

@[simp] theorem State.setTl_pending (l : Link) : (s.setTl l).pending = s.pending := rfl
@[simp] theorem State.setTl_pb (l : Link) : (s.setTl l).pb = s.pb := rfl
@[simp] theorem State.setTl_ap (l : Link) : (s.setTl l).ap = s.ap := rfl
@[simp] theorem State.setTl_sq (l : Link) : (s.setTl l).sq = s.sq := rfl
@[simp] theorem State.setTl_ps (l : Link) : (s.setTl l).ps = s.ps := rfl
@[simp] theorem State.setTl_lc (l : Link) : (s.setTl l).lc = s.lc := rfl
@[simp] theorem State.setTl_du (l : Link) : (s.setTl l).du = s.du := rfl
@[simp] theorem State.setTl_al (l : Link) : (s.setTl l).al = s.al := rfl
@[simp] theorem State.setTl_air (l : Link) : (s.setTl l).air = s.air := rfl
@[simp] theorem State.setTl_tl (l : Link) : (s.setTl l).tl = l := rfl
@[simp] theorem State.setTl_cl (l : Link) : (s.setTl l).cl = s.cl := rfl
@[simp] theorem State.setTl_ev (l : Link) : (s.setTl l).ev = s.ev := rfl
@[simp] theorem State.setTl_pf (l : Link) : (s.setTl l).pf = s.pf := rfl

/-! `State.carrier` -/

@[simp] theorem State.carrier_pending (op : SiteOp) : (s.carrier op).pending = s.pending := rfl
@[simp] theorem State.carrier_pb (op : SiteOp) : (s.carrier op).pb = s.pb := rfl
@[simp] theorem State.carrier_ap (op : SiteOp) : (s.carrier op).ap = s.ap := rfl
@[simp] theorem State.carrier_sq (op : SiteOp) : (s.carrier op).sq = s.sq := rfl
@[simp] theorem State.carrier_ps (op : SiteOp) : (s.carrier op).ps = s.ps := rfl
@[simp] theorem State.carrier_lc (op : SiteOp) : (s.carrier op).lc = s.lc := rfl
@[simp] theorem State.carrier_du (op : SiteOp) : (s.carrier op).du = s.du := rfl
@[simp] theorem State.carrier_al (op : SiteOp) : (s.carrier op).al = s.al := rfl
@[simp] theorem State.carrier_air (op : SiteOp) : (s.carrier op).air = s.air := rfl
@[simp] theorem State.carrier_tl (op : SiteOp) : (s.carrier op).tl = s.tl.commandRole s.tl.active.role op := rfl
@[simp] theorem State.carrier_cl (op : SiteOp) : (s.carrier op).cl = s.cl := rfl
@[simp] theorem State.carrier_ev (op : SiteOp) : (s.carrier op).ev = s.ev := rfl
@[simp] theorem State.carrier_pf (op : SiteOp) : (s.carrier op).pf = s.pf := rfl

/-! `State.setCeiling` -/

@[simp] theorem State.setCeiling_pending (b : Bool) : (s.setCeiling b).pending = s.pending := rfl
@[simp] theorem State.setCeiling_pb (b : Bool) : (s.setCeiling b).pb = { s.pb with ceilingLowered := b } := rfl
@[simp] theorem State.setCeiling_ap (b : Bool) : (s.setCeiling b).ap = s.ap := rfl
@[simp] theorem State.setCeiling_sq (b : Bool) : (s.setCeiling b).sq = s.sq := rfl
@[simp] theorem State.setCeiling_ps (b : Bool) : (s.setCeiling b).ps = s.ps := rfl
@[simp] theorem State.setCeiling_lc (b : Bool) : (s.setCeiling b).lc = s.lc := rfl
@[simp] theorem State.setCeiling_du (b : Bool) : (s.setCeiling b).du = s.du := rfl
@[simp] theorem State.setCeiling_al (b : Bool) : (s.setCeiling b).al = s.al := rfl
@[simp] theorem State.setCeiling_air (b : Bool) : (s.setCeiling b).air = s.air := rfl
@[simp] theorem State.setCeiling_tl (b : Bool) : (s.setCeiling b).tl = s.tl := rfl
@[simp] theorem State.setCeiling_cl (b : Bool) : (s.setCeiling b).cl = s.cl := rfl
@[simp] theorem State.setCeiling_ev (b : Bool) : (s.setCeiling b).ev = s.ev.raise .ceiling := rfl
@[simp] theorem State.setCeiling_pf (b : Bool) : (s.setCeiling b).pf = s.pf := rfl

/-! `State.setAl` -/

@[simp] theorem State.setAl_pending (a : AlertUnit) : (s.setAl a).pending = s.pending := rfl
@[simp] theorem State.setAl_pb (a : AlertUnit) : (s.setAl a).pb = s.pb := rfl
@[simp] theorem State.setAl_ap (a : AlertUnit) : (s.setAl a).ap = s.ap := rfl
@[simp] theorem State.setAl_sq (a : AlertUnit) : (s.setAl a).sq = s.sq := rfl
@[simp] theorem State.setAl_ps (a : AlertUnit) : (s.setAl a).ps = s.ps := rfl
@[simp] theorem State.setAl_lc (a : AlertUnit) : (s.setAl a).lc = s.lc := rfl
@[simp] theorem State.setAl_du (a : AlertUnit) : (s.setAl a).du = s.du := rfl
@[simp] theorem State.setAl_al (a : AlertUnit) : (s.setAl a).al = a := rfl
@[simp] theorem State.setAl_air (a : AlertUnit) : (s.setAl a).air = s.air := rfl
@[simp] theorem State.setAl_tl (a : AlertUnit) : (s.setAl a).tl = s.tl := rfl
@[simp] theorem State.setAl_cl (a : AlertUnit) : (s.setAl a).cl = s.cl := rfl
@[simp] theorem State.setAl_ev (a : AlertUnit) : (s.setAl a).ev = s.ev := rfl
@[simp] theorem State.setAl_pf (a : AlertUnit) : (s.setAl a).pf = s.pf := rfl

/-! `State.sweep` -/

@[simp] theorem State.sweep_pending : (s.sweep).pending = s.pending := rfl
@[simp] theorem State.sweep_pb : (s.sweep).pb = s.pb := rfl
@[simp] theorem State.sweep_ap : (s.sweep).ap = s.ap := rfl
@[simp] theorem State.sweep_sq : (s.sweep).sq = s.sq := rfl
@[simp] theorem State.sweep_ps : (s.sweep).ps = s.ps := rfl
@[simp] theorem State.sweep_lc : (s.sweep).lc = s.lc := rfl
@[simp] theorem State.sweep_du : (s.sweep).du = s.du := rfl
@[simp] theorem State.sweep_al : (s.sweep).al = s.al.sweep s.pf.working.wake.alertWake := rfl
@[simp] theorem State.sweep_air : (s.sweep).air = s.air := rfl
@[simp] theorem State.sweep_tl : (s.sweep).tl = s.tl := rfl
@[simp] theorem State.sweep_cl : (s.sweep).cl = s.cl := rfl
@[simp] theorem State.sweep_ev : (s.sweep).ev = s.ev := rfl
@[simp] theorem State.sweep_pf : (s.sweep).pf = s.pf := rfl

/-! `State.setOnAir` -/

@[simp] theorem State.setOnAir_pending (o : OnAirAlert) : (s.setOnAir o).pending = s.pending := rfl
@[simp] theorem State.setOnAir_pb (o : OnAirAlert) : (s.setOnAir o).pb = s.pb := rfl
@[simp] theorem State.setOnAir_ap (o : OnAirAlert) : (s.setOnAir o).ap = s.ap := rfl
@[simp] theorem State.setOnAir_sq (o : OnAirAlert) : (s.setOnAir o).sq = s.sq := rfl
@[simp] theorem State.setOnAir_ps (o : OnAirAlert) : (s.setOnAir o).ps = s.ps := rfl
@[simp] theorem State.setOnAir_lc (o : OnAirAlert) : (s.setOnAir o).lc = s.lc := rfl
@[simp] theorem State.setOnAir_du (o : OnAirAlert) : (s.setOnAir o).du = s.du := rfl
@[simp] theorem State.setOnAir_al (o : OnAirAlert) : (s.setOnAir o).al = { s.al with onAir := some o } := rfl
@[simp] theorem State.setOnAir_air (o : OnAirAlert) : (s.setOnAir o).air = s.air := rfl
@[simp] theorem State.setOnAir_tl (o : OnAirAlert) : (s.setOnAir o).tl = s.tl := rfl
@[simp] theorem State.setOnAir_cl (o : OnAirAlert) : (s.setOnAir o).cl = s.cl := rfl
@[simp] theorem State.setOnAir_ev (o : OnAirAlert) : (s.setOnAir o).ev = s.ev := rfl
@[simp] theorem State.setOnAir_pf (o : OnAirAlert) : (s.setOnAir o).pf = s.pf := rfl

/-! `State.setAir` -/

@[simp] theorem State.setAir_pending (a : AirState) : (s.setAir a).pending = s.pending := rfl
@[simp] theorem State.setAir_pb (a : AirState) : (s.setAir a).pb = s.pb := rfl
@[simp] theorem State.setAir_ap (a : AirState) : (s.setAir a).ap = s.ap := rfl
@[simp] theorem State.setAir_sq (a : AirState) : (s.setAir a).sq = s.sq := rfl
@[simp] theorem State.setAir_ps (a : AirState) : (s.setAir a).ps = s.ps := rfl
@[simp] theorem State.setAir_lc (a : AirState) : (s.setAir a).lc = s.lc := rfl
@[simp] theorem State.setAir_du (a : AirState) : (s.setAir a).du = s.du := rfl
@[simp] theorem State.setAir_al (a : AirState) : (s.setAir a).al = s.al := rfl
@[simp] theorem State.setAir_air (a : AirState) : (s.setAir a).air = { s.air with state := a } := rfl
@[simp] theorem State.setAir_tl (a : AirState) : (s.setAir a).tl = s.tl := rfl
@[simp] theorem State.setAir_cl (a : AirState) : (s.setAir a).cl = s.cl := rfl
@[simp] theorem State.setAir_ev (a : AirState) : (s.setAir a).ev = s.ev := rfl
@[simp] theorem State.setAir_pf (a : AirState) : (s.setAir a).pf = s.pf := rfl

/-! `State.setMonitor` -/

@[simp] theorem State.setMonitor_pending (m : Monitor) : (s.setMonitor m).pending = s.pending := rfl
@[simp] theorem State.setMonitor_pb (m : Monitor) : (s.setMonitor m).pb = s.pb := rfl
@[simp] theorem State.setMonitor_ap (m : Monitor) : (s.setMonitor m).ap = s.ap := rfl
@[simp] theorem State.setMonitor_sq (m : Monitor) : (s.setMonitor m).sq = s.sq := rfl
@[simp] theorem State.setMonitor_ps (m : Monitor) : (s.setMonitor m).ps = s.ps := rfl
@[simp] theorem State.setMonitor_lc (m : Monitor) : (s.setMonitor m).lc = s.lc := rfl
@[simp] theorem State.setMonitor_du (m : Monitor) : (s.setMonitor m).du = s.du := rfl
@[simp] theorem State.setMonitor_al (m : Monitor) : (s.setMonitor m).al = s.al := rfl
@[simp] theorem State.setMonitor_air (m : Monitor) : (s.setMonitor m).air = { s.air with monitor := m } := rfl
@[simp] theorem State.setMonitor_tl (m : Monitor) : (s.setMonitor m).tl = s.tl := rfl
@[simp] theorem State.setMonitor_cl (m : Monitor) : (s.setMonitor m).cl = s.cl := rfl
@[simp] theorem State.setMonitor_ev (m : Monitor) : (s.setMonitor m).ev = s.ev := rfl
@[simp] theorem State.setMonitor_pf (m : Monitor) : (s.setMonitor m).pf = s.pf := rfl

/-! `State.setPs` -/

@[simp] theorem State.setPs_pending (p : Stack) : (s.setPs p).pending = s.pending := rfl
@[simp] theorem State.setPs_pb (p : Stack) : (s.setPs p).pb = s.pb := rfl
@[simp] theorem State.setPs_ap (p : Stack) : (s.setPs p).ap = s.ap := rfl
@[simp] theorem State.setPs_sq (p : Stack) : (s.setPs p).sq = s.sq := rfl
@[simp] theorem State.setPs_ps (p : Stack) : (s.setPs p).ps = p := rfl
@[simp] theorem State.setPs_lc (p : Stack) : (s.setPs p).lc = s.lc := rfl
@[simp] theorem State.setPs_du (p : Stack) : (s.setPs p).du = s.du := rfl
@[simp] theorem State.setPs_al (p : Stack) : (s.setPs p).al = s.al := rfl
@[simp] theorem State.setPs_air (p : Stack) : (s.setPs p).air = s.air := rfl
@[simp] theorem State.setPs_tl (p : Stack) : (s.setPs p).tl = s.tl := rfl
@[simp] theorem State.setPs_cl (p : Stack) : (s.setPs p).cl = s.cl := rfl
@[simp] theorem State.setPs_ev (p : Stack) : (s.setPs p).ev = s.ev := rfl
@[simp] theorem State.setPs_pf (p : Stack) : (s.setPs p).pf = s.pf := rfl

/-! `State.setPf` -/

@[simp] theorem State.setPf_pending (p : ProfileStore) : (s.setPf p).pending = s.pending := rfl
@[simp] theorem State.setPf_pb (p : ProfileStore) : (s.setPf p).pb = s.pb := rfl
@[simp] theorem State.setPf_ap (p : ProfileStore) : (s.setPf p).ap = s.ap := rfl
@[simp] theorem State.setPf_sq (p : ProfileStore) : (s.setPf p).sq = s.sq := rfl
@[simp] theorem State.setPf_ps (p : ProfileStore) : (s.setPf p).ps = s.ps := rfl
@[simp] theorem State.setPf_lc (p : ProfileStore) : (s.setPf p).lc = s.lc := rfl
@[simp] theorem State.setPf_du (p : ProfileStore) : (s.setPf p).du = s.du := rfl
@[simp] theorem State.setPf_al (p : ProfileStore) : (s.setPf p).al = s.al := rfl
@[simp] theorem State.setPf_air (p : ProfileStore) : (s.setPf p).air = s.air := rfl
@[simp] theorem State.setPf_tl (p : ProfileStore) : (s.setPf p).tl = s.tl := rfl
@[simp] theorem State.setPf_cl (p : ProfileStore) : (s.setPf p).cl = s.cl := rfl
@[simp] theorem State.setPf_ev (p : ProfileStore) : (s.setPf p).ev = s.ev := rfl
@[simp] theorem State.setPf_pf (p : ProfileStore) : (s.setPf p).pf = p := rfl

/-! `State.setLane` -/

@[simp] theorem State.setLane_pending (l : LaneId) (x : Lane) : (s.setLane l x).pending = s.pending := rfl
@[simp] theorem State.setLane_pb (l : LaneId) (x : Lane) : (s.setLane l x).pb = s.pb := rfl
@[simp] theorem State.setLane_ap (l : LaneId) (x : Lane) : (s.setLane l x).ap = s.ap := rfl
@[simp] theorem State.setLane_sq (l : LaneId) (x : Lane) : (s.setLane l x).sq = s.sq := rfl
@[simp] theorem State.setLane_ps (l : LaneId) (x : Lane) : (s.setLane l x).ps = s.ps := rfl
@[simp] theorem State.setLane_lc (l : LaneId) (x : Lane) : (s.setLane l x).lc = s.lc := rfl
@[simp] theorem State.setLane_du (l : LaneId) (x : Lane) : (s.setLane l x).du = s.du := rfl
@[simp] theorem State.setLane_al (l : LaneId) (x : Lane) : (s.setLane l x).al = s.al := rfl
@[simp] theorem State.setLane_air (l : LaneId) (x : Lane) : (s.setLane l x).air = s.air := rfl
@[simp] theorem State.setLane_tl (l : LaneId) (x : Lane) : (s.setLane l x).tl = s.tl := rfl
@[simp] theorem State.setLane_cl (l : LaneId) (x : Lane) : (s.setLane l x).cl = s.cl.set l x := rfl
@[simp] theorem State.setLane_ev (l : LaneId) (x : Lane) : (s.setLane l x).ev = s.ev := rfl
@[simp] theorem State.setLane_pf (l : LaneId) (x : Lane) : (s.setLane l x).pf = s.pf := rfl

/-! `State.place` -/

@[simp] theorem State.place_pending (l : LaneId) (c : ReplyCode) (b : List Byte) : (s.place l c b).pending = s.pending := rfl
@[simp] theorem State.place_pb (l : LaneId) (c : ReplyCode) (b : List Byte) : (s.place l c b).pb = s.pb := rfl
@[simp] theorem State.place_ap (l : LaneId) (c : ReplyCode) (b : List Byte) : (s.place l c b).ap = s.ap := rfl
@[simp] theorem State.place_sq (l : LaneId) (c : ReplyCode) (b : List Byte) : (s.place l c b).sq = s.sq := rfl
@[simp] theorem State.place_ps (l : LaneId) (c : ReplyCode) (b : List Byte) : (s.place l c b).ps = s.ps := rfl
@[simp] theorem State.place_lc (l : LaneId) (c : ReplyCode) (b : List Byte) : (s.place l c b).lc = s.lc := rfl
@[simp] theorem State.place_du (l : LaneId) (c : ReplyCode) (b : List Byte) : (s.place l c b).du = s.du := rfl
@[simp] theorem State.place_al (l : LaneId) (c : ReplyCode) (b : List Byte) : (s.place l c b).al = s.al := rfl
@[simp] theorem State.place_air (l : LaneId) (c : ReplyCode) (b : List Byte) : (s.place l c b).air = s.air := rfl
@[simp] theorem State.place_tl (l : LaneId) (c : ReplyCode) (b : List Byte) : (s.place l c b).tl = s.tl := rfl
@[simp] theorem State.place_cl (l : LaneId) (c : ReplyCode) (b : List Byte) : (s.place l c b).cl = s.cl.set l ((s.cl.get l).place c b) := rfl
@[simp] theorem State.place_ev (l : LaneId) (c : ReplyCode) (b : List Byte) : (s.place l c b).ev = s.ev := rfl
@[simp] theorem State.place_pf (l : LaneId) (c : ReplyCode) (b : List Byte) : (s.place l c b).pf = s.pf := rfl

/-! `State.setController` -/

@[simp] theorem State.setController_pending (src : Source) (c : Controller) : (s.setController src c).pending = s.pending := rfl
@[simp] theorem State.setController_pb (src : Source) (c : Controller) : (s.setController src c).pb = { s.pb with roster := s.pb.roster.set src { s.pb.roster.get src with controller := c } } := rfl
@[simp] theorem State.setController_ap (src : Source) (c : Controller) : (s.setController src c).ap = s.ap := rfl
@[simp] theorem State.setController_sq (src : Source) (c : Controller) : (s.setController src c).sq = s.sq := rfl
@[simp] theorem State.setController_ps (src : Source) (c : Controller) : (s.setController src c).ps = s.ps := rfl
@[simp] theorem State.setController_lc (src : Source) (c : Controller) : (s.setController src c).lc = s.lc := rfl
@[simp] theorem State.setController_du (src : Source) (c : Controller) : (s.setController src c).du = s.du := rfl
@[simp] theorem State.setController_al (src : Source) (c : Controller) : (s.setController src c).al = s.al := rfl
@[simp] theorem State.setController_air (src : Source) (c : Controller) : (s.setController src c).air = s.air := rfl
@[simp] theorem State.setController_tl (src : Source) (c : Controller) : (s.setController src c).tl = s.tl := rfl
@[simp] theorem State.setController_cl (src : Source) (c : Controller) : (s.setController src c).cl = s.cl := rfl
@[simp] theorem State.setController_ev (src : Source) (c : Controller) : (s.setController src c).ev = s.ev := rfl
@[simp] theorem State.setController_pf (src : Source) (c : Controller) : (s.setController src c).pf = s.pf := rfl

/-! `State.setEv` -/

@[simp] theorem State.setEv_pending (e : EventUnit) : (s.setEv e).pending = s.pending := rfl
@[simp] theorem State.setEv_pb (e : EventUnit) : (s.setEv e).pb = s.pb := rfl
@[simp] theorem State.setEv_ap (e : EventUnit) : (s.setEv e).ap = s.ap := rfl
@[simp] theorem State.setEv_sq (e : EventUnit) : (s.setEv e).sq = s.sq := rfl
@[simp] theorem State.setEv_ps (e : EventUnit) : (s.setEv e).ps = s.ps := rfl
@[simp] theorem State.setEv_lc (e : EventUnit) : (s.setEv e).lc = s.lc := rfl
@[simp] theorem State.setEv_du (e : EventUnit) : (s.setEv e).du = s.du := rfl
@[simp] theorem State.setEv_al (e : EventUnit) : (s.setEv e).al = s.al := rfl
@[simp] theorem State.setEv_air (e : EventUnit) : (s.setEv e).air = s.air := rfl
@[simp] theorem State.setEv_tl (e : EventUnit) : (s.setEv e).tl = s.tl := rfl
@[simp] theorem State.setEv_cl (e : EventUnit) : (s.setEv e).cl = s.cl := rfl
@[simp] theorem State.setEv_ev (e : EventUnit) : (s.setEv e).ev = e := rfl
@[simp] theorem State.setEv_pf (e : EventUnit) : (s.setEv e).pf = s.pf := rfl

/-! `State.raiseIf` -/

@[simp] theorem State.raiseIf_pending (c : Bool) (k : EventKind) : (s.raiseIf c k).pending = s.pending := by cases c <;> rfl
@[simp] theorem State.raiseIf_pb (c : Bool) (k : EventKind) : (s.raiseIf c k).pb = s.pb := by cases c <;> rfl
@[simp] theorem State.raiseIf_ap (c : Bool) (k : EventKind) : (s.raiseIf c k).ap = s.ap := by cases c <;> rfl
@[simp] theorem State.raiseIf_sq (c : Bool) (k : EventKind) : (s.raiseIf c k).sq = s.sq := by cases c <;> rfl
@[simp] theorem State.raiseIf_ps (c : Bool) (k : EventKind) : (s.raiseIf c k).ps = s.ps := by cases c <;> rfl
@[simp] theorem State.raiseIf_lc (c : Bool) (k : EventKind) : (s.raiseIf c k).lc = s.lc := by cases c <;> rfl
@[simp] theorem State.raiseIf_du (c : Bool) (k : EventKind) : (s.raiseIf c k).du = s.du := by cases c <;> rfl
@[simp] theorem State.raiseIf_al (c : Bool) (k : EventKind) : (s.raiseIf c k).al = s.al := by cases c <;> rfl
@[simp] theorem State.raiseIf_air (c : Bool) (k : EventKind) : (s.raiseIf c k).air = s.air := by cases c <;> rfl
@[simp] theorem State.raiseIf_tl (c : Bool) (k : EventKind) : (s.raiseIf c k).tl = s.tl := by cases c <;> rfl
@[simp] theorem State.raiseIf_cl (c : Bool) (k : EventKind) : (s.raiseIf c k).cl = s.cl := by cases c <;> rfl
@[simp] theorem State.raiseIf_pf (c : Bool) (k : EventKind) : (s.raiseIf c k).pf = s.pf := by cases c <;> rfl
@[simp] theorem State.raiseIf_true (k : EventKind) : s.raiseIf true k = s.raise k := rfl
@[simp] theorem State.raiseIf_false (k : EventKind) : s.raiseIf false k = s := rfl

/-! Readers through the tables -/

@[simp] theorem PerLane_get_set_self {α : Type} (t : PerLane α) (i : LaneId) (v : α) : (t.set i v).get i = v := by cases i <;> rfl
theorem PerLane_get_set {α : Type} (t : PerLane α) (i j : LaneId) (v : α) : (t.set i v).get j = if j = i then v else t.get j := by cases i <;> cases j <;> rfl
@[simp] theorem PerLane_set_set {α : Type} (t : PerLane α) (i : LaneId) (v w : α) : (t.set i v).set i w = t.set i w := by cases i <;> rfl
@[simp] theorem PerLane_set_get {α : Type} (t : PerLane α) (i : LaneId) : t.set i (t.get i) = t := by cases i <;> rfl
@[simp] theorem PerSource_get_set_self {α : Type} (t : PerSource α) (i : Source) (v : α) : (t.set i v).get i = v := by cases i <;> rfl
theorem PerSource_get_set {α : Type} (t : PerSource α) (i j : Source) (v : α) : (t.set i v).get j = if j = i then v else t.get j := by cases i <;> cases j <;> rfl
@[simp] theorem PerSource_set_set {α : Type} (t : PerSource α) (i : Source) (v w : α) : (t.set i v).set i w = t.set i w := by cases i <;> rfl
@[simp] theorem PerSource_set_get {α : Type} (t : PerSource α) (i : Source) : t.set i (t.get i) = t := by cases i <;> rfl
@[simp] theorem PerSource_get_mapWith {α β : Type} (f : Source → α → β) (t : PerSource α) (i : Source) : (t.mapWith f).get i = f i (t.get i) := by cases i <;> rfl
@[simp] theorem PerLine_get_set_self {α : Type} (t : PerLine α) (i : LineId) (v : α) : (t.set i v).get i = v := by cases i <;> rfl
theorem PerLine_get_set {α : Type} (t : PerLine α) (i j : LineId) (v : α) : (t.set i v).get j = if j = i then v else t.get j := by cases i <;> cases j <;> rfl
@[simp] theorem PerLine_set_set {α : Type} (t : PerLine α) (i : LineId) (v w : α) : (t.set i v).set i w = t.set i w := by cases i <;> rfl
@[simp] theorem PerLine_set_get {α : Type} (t : PerLine α) (i : LineId) : t.set i (t.get i) = t := by cases i <;> rfl
@[simp] theorem PerLine_get_mapWith {α β : Type} (f : LineId → α → β) (t : PerLine α) (i : LineId) : (t.mapWith f).get i = f i (t.get i) := by cases i <;> rfl
@[simp] theorem PerUnit_get_set_self {α : Type} (t : PerUnit α) (i : UnitId) (v : α) : (t.set i v).get i = v := by cases i <;> rfl
theorem PerUnit_get_set {α : Type} (t : PerUnit α) (i j : UnitId) (v : α) : (t.set i v).get j = if j = i then v else t.get j := by cases i <;> cases j <;> rfl
@[simp] theorem PerUnit_set_set {α : Type} (t : PerUnit α) (i : UnitId) (v w : α) : (t.set i v).set i w = t.set i w := by cases i <;> rfl
@[simp] theorem PerUnit_set_get {α : Type} (t : PerUnit α) (i : UnitId) : t.set i (t.get i) = t := by cases i <;> rfl
@[simp] theorem Sequencer.deck_setDeck_self (q : Sequencer) (d : DeckId) (k : Deck) : (q.setDeck d k).deck d = k := by cases d <;> rfl
theorem Sequencer.deck_setDeck (q : Sequencer) (d e : DeckId) (k : Deck) : (q.setDeck d k).deck e = if e = d then k else q.deck e := by cases d <;> cases e <;> rfl
@[simp] theorem Sequencer.setDeck_list (q : Sequencer) (d : DeckId) (k : Deck) : (q.setDeck d k).list = q.list := by cases d <;> rfl
@[simp] theorem Sequencer.setDeck_tail (q : Sequencer) (d : DeckId) (k : Deck) : (q.setDeck d k).tail = q.tail := by cases d <;> rfl
@[simp] theorem Sequencer.setDeck_state (q : Sequencer) (d : DeckId) (k : Deck) : (q.setDeck d k).state = q.state := by cases d <;> rfl
@[simp] theorem Sequencer.setDeck_liveStart (q : Sequencer) (d : DeckId) (k : Deck) : (q.setDeck d k).liveStart = q.liveStart := by cases d <;> rfl
@[simp] theorem Sequencer.setDeck_done (q : Sequencer) (d : DeckId) (k : Deck) : (q.setDeck d k).done = q.done := by cases d <;> rfl
@[simp] theorem Sequencer.setDeck_doneOverflow (q : Sequencer) (d : DeckId) (k : Deck) : (q.setDeck d k).doneOverflow = q.doneOverflow := by cases d <;> rfl
@[simp] theorem Sequencer.setDeck_segueTaken (q : Sequencer) (d : DeckId) (k : Deck) : (q.setDeck d k).segueTaken = q.segueTaken := by cases d <;> rfl
@[simp] theorem Sequencer.setDeck_breakSignal (q : Sequencer) (d : DeckId) (k : Deck) : (q.setDeck d k).breakSignal = q.breakSignal := by cases d <;> rfl
/-- All that a stop does: a segue point that stands due is taken, the decks pause, STOPPED (R44, R47). -/
theorem Sequencer.stop_eq (q : Sequencer) :
    q.stop = { q with
      deckA := q.deckA.pause
      deckB := q.deckB.pause
      state := .stopped
      segueTaken := q.segueTaken || (q.state = .running && q.headAtSegue)
      breakSignal := q.breakSignal || (q.state = .running && q.headAtSegue && !q.segueTaken) || q.state ≠ .stopped } := by
  unfold Sequencer.stop Sequencer.markSegue
  cases hs : q.state <;> cases hh : q.headAtSegue <;> cases ht : q.segueTaken <;>
    simp [hs, ht, Sequencer.pause, Sequencer.enter]

/-- All that a push does to the sequencer: a segue point that stands due is taken, the decks pause, STOPPED at a BREAK_IN and PREEMPTED
at any other cause; an ALERT leaves no break opportunity standing (R46, R47, R118). -/
theorem Sequencer.preempt_eq (q : Sequencer) (c : Cause) :
    q.preempt c = { q with
      deckA := q.deckA.pause
      deckB := q.deckB.pause
      state := if c = .breakIn then .stopped else .preempted
      segueTaken := q.segueTaken || (q.state = .running && q.headAtSegue)
      breakSignal := (q.breakSignal || (q.state = .running && q.headAtSegue && !q.segueTaken) ||
        (c = .breakIn && q.state ≠ .stopped)) && c ≠ .alert } := by
  unfold Sequencer.preempt Sequencer.markSegue
  cases hs : q.state <;> cases hh : q.headAtSegue <;> cases ht : q.segueTaken <;> cases c <;>
    simp [hs, ht, Sequencer.pause, Sequencer.enter]

/-- A line that a pop returns is a saved one, in HOLD, not gone since the push (R66, R88). -/
theorem LineController.mem_returned {c : LineController} {saved : List LineId} {gone : PerLine Bool} {n : LineId}
    (h : n ∈ c.returned saved gone) : n ∈ saved ∧ (c.lines.get n).state = .hold ∧ gone.get n = false := by
  simpa [LineController.returned] using List.mem_of_mem_take h

/-- A pop returns no more lines than have room on the air (R66). -/
theorem LineController.returned_length (c : LineController) (saved : List LineId) (gone : PerLine Bool) :
    (c.returned saved gone).length ≤ 2 - c.onAirCount := by
  simp [LineController.returned, Config.airLines]

@[simp] theorem EventUnit.raise_clock (e : EventUnit) (k : EventKind) : (e.raise k).clock = e.clock := rfl
@[simp] theorem EventUnit.raise_enable (e : EventUnit) (k : EventKind) : (e.raise k).enable = e.enable := rfl
@[simp] theorem State.lane_eq (l : LaneId) : s.lane l = s.cl.get l := rfl
@[simp] theorem State.entry_eq (src : Source) : s.entry src = s.pb.roster.get src := rfl
@[simp] theorem State.line_eq (n : LineId) : s.line n = s.lc.lines.get n := rfl
@[simp] theorem State.deck_eq (d : DeckId) : s.deck d = s.sq.deck d := rfl

end Sys2Proof.Machine
end

