-- ==== Sys2Proof/Laws/Lanes.lean ====
section
/-! SUPPORT. What the shared operations of the control lanes do, said once: the body read from a transaction, a request taken, a
request turned away. -/

namespace Sys2Proof.Machine

/-- A transaction that carries a body gives that body, whatever byte 0 and the bytes after it are. -/
theorem requestBody_carries (code : Byte) {rest body : List Byte} (h : carries rest body) :
    requestBody ((code :: rest).take Config.receiveMax) = some body := by
  obtain ⟨hl, more, rfl⟩ := h
  have h1 : (BitVec.ofNat 8 body.length).toNat = body.length := by
    simp only [BitVec.toNat_ofNat]; omega
  have h2 : ((body ++ more).take 60).take body.length = body := by
    rw [List.take_take, Nat.min_eq_left hl, List.take_left']
    rfl
  simp only [Config.receiveMax, List.take_succ_cons, requestBody, Config.bodyMax, h1, h2]
  have h3 : body.length ≤ ((body ++ more).take 60).length := by simp; omega
  rw [if_pos ⟨hl, h3⟩]

/-- What a lane holds after a transaction that it hears. -/
theorem Lane.finish_rx {x : Lane} (h : x.phase ≠ .waitRise) (bytes : List Byte) :
    (x.finish bytes).rx = bytes.take Config.receiveMax := by
  unfold Lane.finish
  cases hp : x.phase with
  | idle => rfl
  | inTransaction => rfl
  | waitRise => exact absurd hp h

/-- Ending a transaction leaves the in-flight flag. -/
@[simp] theorem Lane.finish_inFlight (x : Lane) (bytes : List Byte) : (x.finish bytes).inFlight = x.inFlight := by
  unfold Lane.finish
  cases x.phase <;> rfl

/-- Ending a transaction leaves the collision flag. -/
@[simp] theorem Lane.finish_collision (x : Lane) (bytes : List Byte) : (x.finish bytes).collision = x.collision := by
  unfold Lane.finish
  cases x.phase <;> rfl

/-- Ending a transaction leaves the error count. -/
@[simp] theorem Lane.finish_errors (x : Lane) (bytes : List Byte) : (x.finish bytes).errors = x.errors := by
  unfold Lane.finish
  cases x.phase <;> rfl

/-- A transaction that ends leaves none in progress. -/
@[simp] theorem Lane.finish_phase (x : Lane) (bytes : List Byte) : (x.finish bytes).phase = .idle := by
  unfold Lane.finish
  cases x.phase <;> rfl

/-- Before any bit of the transaction has been clocked, every bytes can be those of it. -/
theorem Lane.agrees_nil {x : Lane} (h : x.bits = []) (bytes : List Byte) : x.agrees bytes = true := by
  unfold Lane.agrees
  rw [h]
  simp [List.isPrefixOf]

/-- Bytes that are those of the transaction end it. -/
theorem State.heard_agrees {s : State} {l : LaneId} {bytes : List Byte} (hh : s.pf.held = false)
    (h : (s.cl.get l).agrees bytes = true) : s.heard l bytes = s.setLane l ((s.cl.get l).finish bytes) := by
  unfold State.heard
  rw [if_neg (by simp [hh])]
  exact if_pos h

/-- Bytes that are not those of the transaction in progress end nothing. -/
theorem State.heard_disagrees {s : State} {l : LaneId} {bytes : List Byte} (hh : s.pf.held = false)
    (h : (s.cl.get l).agrees bytes = false) : s.heard l bytes = s := by
  unfold State.heard
  rw [if_neg (by simp [hh])]
  exact if_neg (by simp [h])

/-- While power-on is held a transaction's end is only a rise of LSEL (R188). -/
theorem State.heard_held {s : State} (hh : s.pf.held = true) (l : LaneId) (bytes : List Byte) :
    s.heard l bytes = s.setLane l ((s.cl.get l).heldAt true) := by
  unfold State.heard
  exact if_pos hh

/-! ### Bits -/

/-- The bits of a byte, most significant first, make that byte. -/
theorem byteOfBits_getLsbD (b : Byte) :
    byteOfBits (b.getLsbD 7) (b.getLsbD 6) (b.getLsbD 5) (b.getLsbD 4) (b.getLsbD 3) (b.getLsbD 2) (b.getLsbD 1) (b.getLsbD 0) = b := by
  revert b; decide +kernel

/-- A whole byte of bits is read first (R163). -/
theorem bytesIn_byteBits (b : Byte) (more : List Bool) : bytesIn (byteBits b ++ more) = b :: bytesIn more := by
  show byteOfBits _ _ _ _ _ _ _ _ :: bytesIn more = _
  rw [byteOfBits_getLsbD]

/-- Bytes clocked in bit by bit are those bytes (R163). -/
theorem bytesIn_bitsOf (bytes : List Byte) : bytesIn (bitsOf bytes) = bytes := by
  induction bytes with
  | nil => rfl
  | cons b bs ih => rw [bitsOf, List.flatMap_cons, bytesIn_byteBits]; exact congrArg _ ih

/-- Eight bits to a byte. -/
theorem bitsOf_length (bytes : List Byte) : (bitsOf bytes).length = 8 * bytes.length := by
  induction bytes with
  | nil => rfl
  | cons b bs ih =>
    rw [bitsOf, List.flatMap_cons, List.length_append, ← bitsOf, ih, List.length_cons]
    simp [byteBits]
    omega

/-- Bit `j` of bytes sent most significant bit first is bit `7 - j % 8` of byte `j / 8` (R163, R176). -/
theorem bitsOf_getElem? (bytes : List Byte) (j : Nat) :
    (bitsOf bytes)[j]? = (bytes[j / 8]?).map fun b => b.getLsbD (7 - j % 8) := by
  induction bytes generalizing j with
  | nil => simp [bitsOf]
  | cons b bs ih =>
    rw [bitsOf, List.flatMap_cons, ← bitsOf]
    by_cases h : j < 8
    · rw [List.getElem?_append_left (by simpa [byteBits] using h)]
      interval_cases j <;> rfl
    · obtain ⟨k, rfl⟩ : ∃ k, j = 8 + k := ⟨j - 8, by omega⟩
      rw [List.getElem?_append_right (by simp [byteBits]), show 8 + k - (byteBits b).length = k by simp [byteBits], ih,
        show (8 + k) / 8 = k / 8 + 1 by omega, show (8 + k) % 8 = k % 8 by omega, List.getElem?_cons_succ]

/-- The bits of an incomplete byte are discarded (R163). -/
theorem bytesIn_short {bits : List Bool} (h : bits.length < 8) : bytesIn bits = [] := by
  match bits, h with
  | [], _ | [_], _ | [_, _], _ | [_, _, _], _ | [_, _, _, _], _ | [_, _, _, _, _], _ | [_, _, _, _, _, _], _
  | [_, _, _, _, _, _, _], _ => rfl
  | _ :: _ :: _ :: _ :: _ :: _ :: _ :: _ :: rest, h => simp only [List.length_cons] at h; omega

/-- When the lane timer runs (R169). -/
theorem Lane.timing_iff (x : Lane) : x.timing = true ↔ x.phase = .inTransaction ∧ x.timer < 622080 := by
  show (decide (x.phase = .inTransaction) && decide (x.timer < 622080)) = true ↔ _
  simp

/-- What core clocks leave of a lane: all but its timer. -/
theorem Lane.elapse_eq (x : Lane) (n : Nat) : ∃ t, x.elapse n = { x with timer := t } := by
  unfold Lane.elapse
  split
  · exact ⟨_, rfl⟩
  · exact ⟨x.timer, rfl⟩

/-- What an edge of LCLK leaves of a lane: all but the timer, the bits either way and the receive buffer (R163, R167, R169). -/
theorem Lane.edge_eq (x : Lane) (e : LclkEdge) :
    ∃ t bits sent rx, x.edge e = { x with timer := t, bits := bits, sent := sent, rx := rx } := by
  obtain ⟨t, h⟩ := x.elapse_eq e.wait
  simp only [Lane.edge, h]
  split
  · split
    · exact ⟨_, _, _, _, rfl⟩
    · exact ⟨_, _, _, _, rfl⟩
  · exact ⟨_, _, _, _, rfl⟩

/-- What a sample period leaves of a lane: its phase, its reply and its flags stay, whatever its edges. -/
theorem Lane.clocked_eq (x : Lane) (es : List LclkEdge) :
    ∃ t bits sent rx, x.clocked es = { x with timer := t, bits := bits, sent := sent, rx := rx } := by
  have fold : ∀ (es : List LclkEdge) (x : Lane),
      ∃ t bits sent rx, es.foldl Lane.edge x = { x with timer := t, bits := bits, sent := sent, rx := rx } := by
    intro es
    induction es with
    | nil => exact fun x => ⟨x.timer, x.bits, x.sent, x.rx, rfl⟩
    | cons e es ih =>
      intro x
      obtain ⟨t, b, o, r, h⟩ := x.edge_eq e
      obtain ⟨t', b', o', r', h'⟩ := ih (x.edge e)
      exact ⟨t', b', o', r', by rw [List.foldl_cons, h', h]⟩
  obtain ⟨t, b, o, r, h⟩ := fold es x
  unfold Lane.clocked
  rw [h]
  obtain ⟨t', h'⟩ := Lane.elapse_eq { x with timer := t, bits := b, sent := o, rx := r }
    (Config.clocksPerSample - es.foldl (fun acc e => acc + e.wait) 0)
  exact ⟨t', b, o, r, h'⟩

/-! ### Requests -/

/-- The whole of `transact` on a lane that asks, for a request of the table that the lane may send and whose body is long
enough: the owner judges the body in the state that has heard the transaction, and its reply, if it gives one, is placed. -/
theorem State.transact_asks {s : State} {l : LaneId} {rest body : List Byte} (h : s.asks l rest body) (code : Byte)
    {allowed : Bool} (ha : allowed = true) {need : Nat} (hn : need ≤ body.length)
    (own : List Byte → State → State × Option (ReplyCode × List Byte)) :
    s.transact l code rest true allowed need own =
      match own body (s.setLane l ((s.cl.get l).finish (code :: rest))) with
      | (t, some (c, b)) => t.place l c b
      | (t, none) => t := by
  obtain ⟨⟨hp, hf, hz, hh⟩, hc⟩ := h
  simp only [State.lane_eq] at hp hf hz
  have hb := requestBody_carries code hc
  have hg := Lane.agrees_nil hz (code :: rest)
  unfold State.transact
  rw [State.heard_agrees hh hg]
  simp only [State.lane_eq, State.setLane_cl, PerLane_get_set_self, Lane.finish_inFlight, Lane.finish_rx hp, hb, hf, ha, hg,
    hh, hp, decide_false, Bool.or_self, Bool.false_eq_true, if_false, Bool.not_true, Nat.not_lt.mpr hn]
  all_goals rfl

/-- A request taken by an owner that answers at once. -/
theorem State.request_asks {s : State} {l : LaneId} {rest body : List Byte} (h : s.asks l rest body) (code : Byte)
    {allowed : Bool} (ha : allowed = true) {need : Nat} (hn : need ≤ body.length) (own : List Byte → State → Answer) :
    s.request l code rest allowed need own =
      (own body (s.setLane l ((s.cl.get l).finish (code :: rest)))).state.place l
        (own body (s.setLane l ((s.cl.get l).finish (code :: rest)))).code
        (own body (s.setLane l ((s.cl.get l).finish (code :: rest)))).body := by
  unfold State.request
  rw [State.transact_asks h code ha hn]

/-- A request from a lane that may not send it is answered REFUSED, and nothing but the lane changes (R164 check 4). -/
theorem State.transact_refused {s : State} {l : LaneId} {rest body : List Byte} (h : s.asks l rest body) (code : Byte)
    (need : Nat) (own : List Byte → State → State × Option (ReplyCode × List Byte)) :
    s.transact l code rest true false need own = { s with cl := s.replied l (code :: rest) .refused [] } := by
  obtain ⟨⟨hp, hf, hz, hh⟩, hc⟩ := h
  simp only [State.lane_eq] at hp hf hz
  have hb := requestBody_carries code hc
  have hg := Lane.agrees_nil hz (code :: rest)
  unfold State.transact
  rw [State.heard_agrees hh hg]
  simp only [State.lane_eq, State.setLane_cl, PerLane_get_set_self, Lane.finish_inFlight, Lane.finish_rx hp, hb, hf, hg,
    hh, hp, decide_false, Bool.or_self, Bool.false_eq_true, if_false, Bool.not_true, Bool.not_false, if_true]
  unfold State.place State.replied State.setLane
  simp

/-- A request whose code is in no table row is answered UNKNOWN, and nothing but the lane changes (R164 check 3). -/
theorem State.transact_unknown {s : State} {l : LaneId} {rest body : List Byte} (h : s.asks l rest body) (code : Byte)
    (allowed : Bool) (need : Nat) (own : List Byte → State → State × Option (ReplyCode × List Byte)) :
    s.transact l code rest false allowed need own = { s with cl := s.replied l (code :: rest) .unknown [] } := by
  obtain ⟨⟨hp, hf, hz, hh⟩, hc⟩ := h
  simp only [State.lane_eq] at hp hf hz
  have hb := requestBody_carries code hc
  have hg := Lane.agrees_nil hz (code :: rest)
  unfold State.transact
  rw [State.heard_agrees hh hg]
  simp only [State.lane_eq, State.setLane_cl, PerLane_get_set_self, Lane.finish_inFlight, Lane.finish_rx hp, hb, hf, hg,
    hh, hp, decide_false, Bool.false_eq_true, if_false, Bool.not_false, if_true]
  unfold State.place State.replied State.setLane
  simp

/-- A request on a lane in flight is a collision: it sets the flag and changes nothing else but the lane (R164 check 1, R166). -/
theorem State.transact_collides {s : State} {l : LaneId} (hh : s.pf.held = false) (hp : (s.lane l).phase ≠ .waitRise) (hf : (s.lane l).inFlight = true)
    (code : Byte) (rest : List Byte) (hg : (s.lane l).agrees (code :: rest) = true) (known allowed : Bool) (need : Nat)
    (own : List Byte → State → State × Option (ReplyCode × List Byte)) :
    s.transact l code rest known allowed need own =
      { s with cl := s.cl.set l { (s.lane l).finish (code :: rest) with collision := true } } := by
  simp only [State.lane_eq] at hp hf hg
  unfold State.transact
  rw [State.heard_agrees hh hg]
  simp only [State.lane_eq, State.setLane_cl, PerLane_get_set_self, Lane.finish_inFlight, hf, hg, hh, hp, decide_false, Bool.not_true,
    Bool.or_self, Bool.false_eq_true, if_false, if_true]
  unfold State.setLane
  simp

/-- Bytes that are not those of the transaction in progress carry no request and change nothing (log 2). -/
theorem State.transact_disagrees {s : State} {l : LaneId} {code : Byte} {rest : List Byte} (hh : s.pf.held = false)
    (h : (s.lane l).agrees (code :: rest) = false) (known allowed : Bool) (need : Nat)
    (own : List Byte → State → State × Option (ReplyCode × List Byte)) : s.transact l code rest known allowed need own = s := by
  simp only [State.lane_eq] at h
  unfold State.transact
  rw [State.heard_disagrees hh h]
  simp [h]

/-- A transaction on a lane that waits for the rise of LSEL carries no request (R169, R170). -/
theorem State.transact_waits {s : State} {l : LaneId} (hh : s.pf.held = false) (hp : (s.lane l).phase = .waitRise) (code : Byte) (rest : List Byte)
    (known allowed : Bool) (need : Nat) (own : List Byte → State → State × Option (ReplyCode × List Byte)) :
    s.transact l code rest known allowed need own = { s with cl := s.lanesHeard l (code :: rest) } := by
  have hg : (s.cl.get l).agrees (code :: rest) = true := by
    simp only [State.lane_eq] at hp
    unfold Lane.agrees
    simp [hp]
  unfold State.transact
  rw [State.heard_agrees hh hg]
  simp only [hp, decide_true, Bool.or_true, Bool.true_or, if_true]
  rfl

/-- While power-on is held no transaction carries a request (R188). -/
theorem State.transact_held {s : State} (hh : s.pf.held = true) (l : LaneId) (code : Byte) (rest : List Byte)
    (known allowed : Bool) (need : Nat) (own : List Byte → State → State × Option (ReplyCode × List Byte)) :
    s.transact l code rest known allowed need own = s.setLane l ((s.cl.get l).heldAt true) := by
  unfold State.transact
  rw [State.heard_held hh]
  simp only [hh, Bool.true_or, if_true]

end Sys2Proof.Machine
end

