-- ==== Sys2Proof/Laws/Frames.lean ====
section
/-! SUPPORT. What every shared operation and every owner of a request leaves alone, whatever it finds: the queue of waiting
commands, the profile store and the air clock; and what a mix is, held, running and settled. One lemma a field, so that no later proof
unfolds an operation for them. -/

set_option linter.all false

namespace Sys2Proof.Machine

/-- A fold over operations that keep a part of the state keeps it. -/
theorem foldl_state_keeps {α β : Type} (P : State → β) (f : State → α → State) (h : ∀ s a, P (f s a) = P s)
    (xs : List α) (s : State) : P (xs.foldl f s) = P s := by
  induction xs generalizing s with
  | nil => rfl
  | cons x xs ih => rw [List.foldl_cons, ih, h]

@[simp] theorem State.raiseIf_ev_clock (s : State) (c : Bool) (k : EventKind) : (s.raiseIf c k).ev.clock = s.ev.clock := by
  cases c <;> rfl
@[simp] theorem State.reply_state (s : State) (c : ReplyCode) : (s.reply c).state = s := rfl
@[simp] theorem State.done_state (s : State) : s.done.state = s := rfl
@[simp] theorem Answer.thenBreak_state (a : Answer) : a.thenBreak.state = a.state.takeBreak := rfl
@[simp] theorem answer_state (r : State × ReplyCode) : (answer r).state = r.1 := rfl

@[simp] theorem State.freeDeck_pending (s : State) (d : DeckId) : (State.freeDeck s d).pending = s.pending := by
  unfold State.freeDeck; try dsimp only
  (repeat' split) <;> (first | (simp [apply_ite State.pending]; done) | rfl)
@[simp] theorem State.freeDeck_ev (s : State) (d : DeckId) : (State.freeDeck s d).ev = s.ev := by
  unfold State.freeDeck; try dsimp only
  (repeat' split) <;> (first | (simp [apply_ite State.ev]; done) | rfl)
@[simp] theorem State.freeDeck_pf (s : State) (d : DeckId) : (State.freeDeck s d).pf = s.pf := by
  unfold State.freeDeck; try dsimp only
  (repeat' split) <;> (first | (simp [apply_ite State.pf]; done) | rfl)

@[simp] theorem State.bindDeck_pending (s : State) (d : DeckId) (id : Nat) : (State.bindDeck s d id).pending = s.pending := by
  unfold State.bindDeck; try dsimp only
  (repeat' split) <;> (first | (simp [apply_ite State.pending]; done) | rfl)
@[simp] theorem State.bindDeck_pf (s : State) (d : DeckId) (id : Nat) : (State.bindDeck s d id).pf = s.pf := by
  unfold State.bindDeck; try dsimp only
  (repeat' split) <;> (first | (simp [apply_ite State.pf]; done) | rfl)
@[simp] theorem State.bindDeck_ev_clock (s : State) (d : DeckId) (id : Nat) : (State.bindDeck s d id).ev.clock = s.ev.clock := by
  unfold State.bindDeck; try dsimp only
  (repeat' split) <;> (first | (simp [apply_ite State.ev, apply_ite EventUnit.clock]; done) | rfl)

@[simp] theorem State.addDone_pending (s : State) (r : DoneRecord) : (State.addDone s r).pending = s.pending := by
  unfold State.addDone; try dsimp only
  (repeat' split) <;> (first | (simp [apply_ite State.pending]; done) | rfl)
@[simp] theorem State.addDone_pf (s : State) (r : DoneRecord) : (State.addDone s r).pf = s.pf := by
  unfold State.addDone; try dsimp only
  (repeat' split) <;> (first | (simp [apply_ite State.pf]; done) | rfl)
@[simp] theorem State.addDone_ev_clock (s : State) (r : DoneRecord) : (State.addDone s r).ev.clock = s.ev.clock := by
  unfold State.addDone; try dsimp only
  (repeat' split) <;> (first | (simp [apply_ite State.ev, apply_ite EventUnit.clock]; done) | rfl)

@[simp] theorem State.dropHead_pending (s : State) : (State.dropHead s).pending = s.pending := by
  unfold State.dropHead; try dsimp only
  (repeat' split) <;> (first | (simp [apply_ite State.pending]; done) | rfl)
@[simp] theorem State.dropHead_ev (s : State) : (State.dropHead s).ev = s.ev := by
  unfold State.dropHead; try dsimp only
  (repeat' split) <;> (first | (simp [apply_ite State.ev]; done) | rfl)
@[simp] theorem State.dropHead_pf (s : State) : (State.dropHead s).pf = s.pf := by
  unfold State.dropHead; try dsimp only
  (repeat' split) <;> (first | (simp [apply_ite State.pf]; done) | rfl)

@[simp] theorem State.cueOnce_pending (s : State) : (State.cueOnce s).pending = s.pending := by
  unfold State.cueOnce; try dsimp only
  (repeat' split) <;> (first | (simp [apply_ite State.pending]; done) | rfl)
@[simp] theorem State.cueOnce_pf (s : State) : (State.cueOnce s).pf = s.pf := by
  unfold State.cueOnce; try dsimp only
  (repeat' split) <;> (first | (simp [apply_ite State.pf]; done) | rfl)
@[simp] theorem State.cueOnce_ev_clock (s : State) : (State.cueOnce s).ev.clock = s.ev.clock := by
  unfold State.cueOnce; try dsimp only
  (repeat' split) <;> (first | (simp [apply_ite State.ev, apply_ite EventUnit.clock]; done) | rfl)

@[simp] theorem State.cue_pending (s : State) : (State.cue s).pending = s.pending := by
  unfold State.cue; try dsimp only
  (repeat' split) <;> (first | (simp [apply_ite State.pending]; done) | rfl)
@[simp] theorem State.cue_pf (s : State) : (State.cue s).pf = s.pf := by
  unfold State.cue; try dsimp only
  (repeat' split) <;> (first | (simp [apply_ite State.pf]; done) | rfl)
@[simp] theorem State.cue_ev_clock (s : State) : (State.cue s).ev.clock = s.ev.clock := by
  unfold State.cue; try dsimp only
  (repeat' split) <;> (first | (simp [apply_ite State.ev, apply_ite EventUnit.clock]; done) | rfl)

@[simp] theorem State.endItem_pending (s : State) (d : DeckId) : (State.endItem s d).pending = s.pending := by
  unfold State.endItem; try dsimp only
  (repeat' split) <;> (first | (simp [apply_ite State.pending]; done) | rfl)
@[simp] theorem State.endItem_pf (s : State) (d : DeckId) : (State.endItem s d).pf = s.pf := by
  unfold State.endItem; try dsimp only
  (repeat' split) <;> (first | (simp [apply_ite State.pf]; done) | rfl)
@[simp] theorem State.endItem_ev_clock (s : State) (d : DeckId) : (State.endItem s d).ev.clock = s.ev.clock := by
  unfold State.endItem; try dsimp only
  (repeat' split) <;> (first | (simp [apply_ite State.ev, apply_ite EventUnit.clock]; done) | rfl)

@[simp] theorem State.headToTail_pending (s : State) : (State.headToTail s).pending = s.pending := by
  unfold State.headToTail; try dsimp only
  (repeat' split) <;> (first | (simp [apply_ite State.pending]; done) | rfl)
@[simp] theorem State.headToTail_ev (s : State) : (State.headToTail s).ev = s.ev := by
  unfold State.headToTail; try dsimp only
  (repeat' split) <;> (first | (simp [apply_ite State.ev]; done) | rfl)
@[simp] theorem State.headToTail_pf (s : State) : (State.headToTail s).pf = s.pf := by
  unfold State.headToTail; try dsimp only
  (repeat' split) <;> (first | (simp [apply_ite State.pf]; done) | rfl)

@[simp] theorem State.halt_pending (s : State) : (State.halt s).pending = s.pending := by
  unfold State.halt; try dsimp only
  (repeat' split) <;> (first | (simp [apply_ite State.pending]; done) | rfl)
@[simp] theorem State.halt_pf (s : State) : (State.halt s).pf = s.pf := by
  unfold State.halt; try dsimp only
  (repeat' split) <;> (first | (simp [apply_ite State.pf]; done) | rfl)
@[simp] theorem State.halt_ev_clock (s : State) : (State.halt s).ev.clock = s.ev.clock := by
  unfold State.halt; try dsimp only
  (repeat' split) <;> (first | (simp [apply_ite State.ev, apply_ite EventUnit.clock]; done) | rfl)

@[simp] theorem State.startItem_pending (s : State) (d : DeckId) (i : Item) (late : Bool) : (State.startItem s d i late).pending = s.pending := by
  unfold State.startItem; try dsimp only
  (repeat' split) <;> (first | (simp [apply_ite State.pending]; done) | rfl)
@[simp] theorem State.startItem_pf (s : State) (d : DeckId) (i : Item) (late : Bool) : (State.startItem s d i late).pf = s.pf := by
  unfold State.startItem; try dsimp only
  (repeat' split) <;> (first | (simp [apply_ite State.pf]; done) | rfl)
@[simp] theorem State.startItem_ev_clock (s : State) (d : DeckId) (i : Item) (late : Bool) : (State.startItem s d i late).ev.clock = s.ev.clock := by
  unfold State.startItem; try dsimp only
  (repeat' split) <;> (first | (simp [apply_ite State.ev, apply_ite EventUnit.clock]; done) | rfl)

@[simp] theorem State.takeStart_pending (s : State) (late : Bool) : (State.takeStart s late).pending = s.pending := by
  unfold State.takeStart; try dsimp only
  (repeat' split) <;> (first | (simp [apply_ite State.pending]; done) | rfl)
@[simp] theorem State.takeStart_pf (s : State) (late : Bool) : (State.takeStart s late).pf = s.pf := by
  unfold State.takeStart; try dsimp only
  (repeat' split) <;> (first | (simp [apply_ite State.pf]; done) | rfl)
@[simp] theorem State.takeStart_ev_clock (s : State) (late : Bool) : (State.takeStart s late).ev.clock = s.ev.clock := by
  unfold State.takeStart; try dsimp only
  (repeat' split) <;> (first | (simp [apply_ite State.ev, apply_ite EventUnit.clock]; done) | rfl)

@[simp] theorem State.markSegue_pending (s : State) : (State.markSegue s).pending = s.pending := rfl
@[simp] theorem State.markSegue_pb (s : State) : (State.markSegue s).pb = s.pb := rfl
@[simp] theorem State.markSegue_ap (s : State) : (State.markSegue s).ap = s.ap := rfl
@[simp] theorem State.markSegue_ps (s : State) : (State.markSegue s).ps = s.ps := rfl
@[simp] theorem State.markSegue_lc (s : State) : (State.markSegue s).lc = s.lc := rfl
@[simp] theorem State.markSegue_du (s : State) : (State.markSegue s).du = s.du := rfl
@[simp] theorem State.markSegue_al (s : State) : (State.markSegue s).al = s.al := rfl
@[simp] theorem State.markSegue_air (s : State) : (State.markSegue s).air = s.air := rfl
@[simp] theorem State.markSegue_tl (s : State) : (State.markSegue s).tl = s.tl := rfl
@[simp] theorem State.markSegue_cl (s : State) : (State.markSegue s).cl = s.cl := rfl
@[simp] theorem State.markSegue_ev (s : State) : (State.markSegue s).ev = s.ev := rfl
@[simp] theorem State.markSegue_pf (s : State) : (State.markSegue s).pf = s.pf := rfl

@[simp] theorem State.review_pending (s : State) (late : Bool) : (State.review s late).pending = s.pending := by
  unfold State.review; try dsimp only
  (repeat' split) <;> (first | (simp [apply_ite State.pending]; done) | rfl)
@[simp] theorem State.review_pf (s : State) (late : Bool) : (State.review s late).pf = s.pf := by
  unfold State.review; try dsimp only
  (repeat' split) <;> (first | (simp [apply_ite State.pf]; done) | rfl)
@[simp] theorem State.review_ev_clock (s : State) (late : Bool) : (State.review s late).ev.clock = s.ev.clock := by
  unfold State.review; try dsimp only
  (repeat' split) <;> (first | (simp [apply_ite State.ev, apply_ite EventUnit.clock]; done) | rfl)

@[simp] theorem State.takeHeadPoint_pending (s : State) (d : DeckId) : (State.takeHeadPoint s d).pending = s.pending := by
  unfold State.takeHeadPoint; try dsimp only
  (repeat' split) <;> (first | (simp [apply_ite State.pending]; done) | rfl)
@[simp] theorem State.takeHeadPoint_pf (s : State) (d : DeckId) : (State.takeHeadPoint s d).pf = s.pf := by
  unfold State.takeHeadPoint; try dsimp only
  (repeat' split) <;> (first | (simp [apply_ite State.pf]; done) | rfl)
@[simp] theorem State.takeHeadPoint_ev_clock (s : State) (d : DeckId) : (State.takeHeadPoint s d).ev.clock = s.ev.clock := by
  unfold State.takeHeadPoint; try dsimp only
  (repeat' split) <;> (first | (simp [apply_ite State.ev, apply_ite EventUnit.clock]; done) | rfl)

@[simp] theorem State.seguePoint_pending (s : State) : (State.seguePoint s).pending = s.pending := by
  unfold State.seguePoint; try dsimp only
  (repeat' split) <;> (first | (simp [apply_ite State.pending]; done) | rfl)
@[simp] theorem State.seguePoint_pf (s : State) : (State.seguePoint s).pf = s.pf := by
  unfold State.seguePoint; try dsimp only
  (repeat' split) <;> (first | (simp [apply_ite State.pf]; done) | rfl)
@[simp] theorem State.seguePoint_ev_clock (s : State) : (State.seguePoint s).ev.clock = s.ev.clock := by
  unfold State.seguePoint; try dsimp only
  (repeat' split) <;> (first | (simp [apply_ite State.ev, apply_ite EventUnit.clock]; done) | rfl)

@[simp] theorem State.itemEnd_pending (s : State) (d : DeckId) : (State.itemEnd s d).pending = s.pending := by
  unfold State.itemEnd; try dsimp only
  (repeat' split) <;> (first | (simp [apply_ite State.pending]; done) | rfl)
@[simp] theorem State.itemEnd_pf (s : State) (d : DeckId) : (State.itemEnd s d).pf = s.pf := by
  unfold State.itemEnd; try dsimp only
  (repeat' split) <;> (first | (simp [apply_ite State.pf]; done) | rfl)
@[simp] theorem State.itemEnd_ev_clock (s : State) (d : DeckId) : (State.itemEnd s d).ev.clock = s.ev.clock := by
  unfold State.itemEnd; try dsimp only
  (repeat' split) <;> (first | (simp [apply_ite State.ev, apply_ite EventUnit.clock]; done) | rfl)

@[simp] theorem State.fadeOutPoint_pending (s : State) (d : DeckId) : (State.fadeOutPoint s d).pending = s.pending := by
  unfold State.fadeOutPoint; try dsimp only
  (repeat' split) <;> (first | (simp [apply_ite State.pending]; done) | rfl)
@[simp] theorem State.fadeOutPoint_ev (s : State) (d : DeckId) : (State.fadeOutPoint s d).ev = s.ev := by
  unfold State.fadeOutPoint; try dsimp only
  (repeat' split) <;> (first | (simp [apply_ite State.ev]; done) | rfl)
@[simp] theorem State.fadeOutPoint_pf (s : State) (d : DeckId) : (State.fadeOutPoint s d).pf = s.pf := by
  unfold State.fadeOutPoint; try dsimp only
  (repeat' split) <;> (first | (simp [apply_ite State.pf]; done) | rfl)

@[simp] theorem State.resumeDeck_pending (s : State) (d : DeckId) : (State.resumeDeck s d).pending = s.pending := by
  unfold State.resumeDeck; try dsimp only
  (repeat' split) <;> (first | (simp [apply_ite State.pending]; done) | rfl)
@[simp] theorem State.resumeDeck_ev (s : State) (d : DeckId) : (State.resumeDeck s d).ev = s.ev := by
  unfold State.resumeDeck; try dsimp only
  (repeat' split) <;> (first | (simp [apply_ite State.ev]; done) | rfl)
@[simp] theorem State.resumeDeck_pf (s : State) (d : DeckId) : (State.resumeDeck s d).pf = s.pf := by
  unfold State.resumeDeck; try dsimp only
  (repeat' split) <;> (first | (simp [apply_ite State.pf]; done) | rfl)

@[simp] theorem State.abandon_pending (s : State) (d : DeckId) : (State.abandon s d).pending = s.pending := by
  unfold State.abandon; try dsimp only
  (repeat' split) <;> (first | (simp [apply_ite State.pending]; done) | rfl)
@[simp] theorem State.abandon_pf (s : State) (d : DeckId) : (State.abandon s d).pf = s.pf := by
  unfold State.abandon; try dsimp only
  (repeat' split) <;> (first | (simp [apply_ite State.pf]; done) | rfl)
@[simp] theorem State.abandon_ev_clock (s : State) (d : DeckId) : (State.abandon s d).ev.clock = s.ev.clock := by
  unfold State.abandon; try dsimp only
  (repeat' split) <;> (first | (simp [apply_ite State.ev, apply_ite EventUnit.clock]; done) | rfl)

@[simp] theorem State.reposition_pending (s : State) (d : DeckId) (position : Nat) : (State.reposition s d position).pending = s.pending := by
  unfold State.reposition; try dsimp only
  (repeat' split) <;> (first | (simp [apply_ite State.pending]; done) | rfl)
@[simp] theorem State.reposition_ev (s : State) (d : DeckId) (position : Nat) : (State.reposition s d position).ev = s.ev := by
  unfold State.reposition; try dsimp only
  (repeat' split) <;> (first | (simp [apply_ite State.ev]; done) | rfl)
@[simp] theorem State.reposition_pf (s : State) (d : DeckId) (position : Nat) : (State.reposition s d position).pf = s.pf := by
  unfold State.reposition; try dsimp only
  (repeat' split) <;> (first | (simp [apply_ite State.pf]; done) | rfl)

@[simp] theorem State.leaveQueue_pending (s : State) (n : LineId) : (State.leaveQueue s n).pending = s.pending := by
  unfold State.leaveQueue; try dsimp only
  (repeat' split) <;> (first | (simp [apply_ite State.pending]; done) | rfl)
@[simp] theorem State.leaveQueue_pf (s : State) (n : LineId) : (State.leaveQueue s n).pf = s.pf := by
  unfold State.leaveQueue; try dsimp only
  (repeat' split) <;> (first | (simp [apply_ite State.pf]; done) | rfl)
@[simp] theorem State.leaveQueue_ev_clock (s : State) (n : LineId) : (State.leaveQueue s n).ev.clock = s.ev.clock := by
  unfold State.leaveQueue; try dsimp only
  (repeat' split) <;> (first | (simp [apply_ite State.ev, apply_ite EventUnit.clock]; done) | rfl)

@[simp] theorem State.dropLine_pending (s : State) (n : LineId) : (State.dropLine s n).pending = s.pending := by
  unfold State.dropLine; try dsimp only
  (repeat' split) <;> (first | (simp [apply_ite State.pending]; done) | rfl)
@[simp] theorem State.dropLine_pf (s : State) (n : LineId) : (State.dropLine s n).pf = s.pf := by
  unfold State.dropLine; try dsimp only
  (repeat' split) <;> (first | (simp [apply_ite State.pf]; done) | rfl)
@[simp] theorem State.dropLine_ev_clock (s : State) (n : LineId) : (State.dropLine s n).ev.clock = s.ev.clock := by
  unfold State.dropLine; try dsimp only
  (repeat' split) <;> (first | (simp [apply_ite State.ev, apply_ite EventUnit.clock]; done) | rfl)

@[simp] theorem State.ringArmed_pending (s : State) (n : LineId) : (State.ringArmed s n).pending = s.pending := by
  unfold State.ringArmed; try dsimp only
  (repeat' split) <;> (first | (simp [apply_ite State.pending]; done) | rfl)
@[simp] theorem State.ringArmed_ev (s : State) (n : LineId) : (State.ringArmed s n).ev = s.ev := by
  unfold State.ringArmed; try dsimp only
  (repeat' split) <;> (first | (simp [apply_ite State.ev]; done) | rfl)
@[simp] theorem State.ringArmed_pf (s : State) (n : LineId) : (State.ringArmed s n).pf = s.pf := by
  unfold State.ringArmed; try dsimp only
  (repeat' split) <;> (first | (simp [apply_ite State.pf]; done) | rfl)

@[simp] theorem State.ringBurst_pending (s : State) (n : LineId) : (State.ringBurst s n).pending = s.pending := by
  unfold State.ringBurst; try dsimp only
  (repeat' split) <;> (first | (simp [apply_ite State.pending]; done) | rfl)
@[simp] theorem State.ringBurst_pf (s : State) (n : LineId) : (State.ringBurst s n).pf = s.pf := by
  unfold State.ringBurst; try dsimp only
  (repeat' split) <;> (first | (simp [apply_ite State.pf]; done) | rfl)
@[simp] theorem State.ringBurst_ev_clock (s : State) (n : LineId) : (State.ringBurst s n).ev.clock = s.ev.clock := by
  unfold State.ringBurst; try dsimp only
  (repeat' split) <;> (first | (simp [apply_ite State.ev, apply_ite EventUnit.clock]; done) | rfl)

@[simp] theorem State.ringExpiry_pending (s : State) (n : LineId) : (State.ringExpiry s n).pending = s.pending := by
  unfold State.ringExpiry; try dsimp only
  (repeat' split) <;> (first | (simp [apply_ite State.pending]; done) | rfl)
@[simp] theorem State.ringExpiry_pf (s : State) (n : LineId) : (State.ringExpiry s n).pf = s.pf := by
  unfold State.ringExpiry; try dsimp only
  (repeat' split) <;> (first | (simp [apply_ite State.pf]; done) | rfl)
@[simp] theorem State.ringExpiry_ev_clock (s : State) (n : LineId) : (State.ringExpiry s n).ev.clock = s.ev.clock := by
  unfold State.ringExpiry; try dsimp only
  (repeat' split) <;> (first | (simp [apply_ite State.ev, apply_ite EventUnit.clock]; done) | rfl)

@[simp] theorem State.loopLoss_pending (s : State) (n : LineId) : (State.loopLoss s n).pending = s.pending := by
  unfold State.loopLoss; try dsimp only
  (repeat' split) <;> (first | (simp [apply_ite State.pending]; done) | rfl)
@[simp] theorem State.loopLoss_pf (s : State) (n : LineId) : (State.loopLoss s n).pf = s.pf := by
  unfold State.loopLoss; try dsimp only
  (repeat' split) <;> (first | (simp [apply_ite State.pf]; done) | rfl)
@[simp] theorem State.loopLoss_ev_clock (s : State) (n : LineId) : (State.loopLoss s n).ev.clock = s.ev.clock := by
  unfold State.loopLoss; try dsimp only
  (repeat' split) <;> (first | (simp [apply_ite State.ev, apply_ite EventUnit.clock]; done) | rfl)

@[simp] theorem State.holdLong_pending (s : State) (n : LineId) : (State.holdLong s n).pending = s.pending := by
  unfold State.holdLong; try dsimp only
  (repeat' split) <;> (first | (simp [apply_ite State.pending]; done) | rfl)
@[simp] theorem State.holdLong_pf (s : State) (n : LineId) : (State.holdLong s n).pf = s.pf := by
  unfold State.holdLong; try dsimp only
  (repeat' split) <;> (first | (simp [apply_ite State.pf]; done) | rfl)
@[simp] theorem State.holdLong_ev_clock (s : State) (n : LineId) : (State.holdLong s n).ev.clock = s.ev.clock := by
  unfold State.holdLong; try dsimp only
  (repeat' split) <;> (first | (simp [apply_ite State.ev, apply_ite EventUnit.clock]; done) | rfl)

@[simp] theorem State.lookChangeover_pending (s : State) : (State.lookChangeover s).pending = s.pending := by
  unfold State.lookChangeover; try dsimp only
  (repeat' split) <;> (first | (simp [apply_ite State.pending]; done) | rfl)
@[simp] theorem State.lookChangeover_pf (s : State) : (State.lookChangeover s).pf = s.pf := by
  unfold State.lookChangeover; try dsimp only
  (repeat' split) <;> (first | (simp [apply_ite State.pf]; done) | rfl)
@[simp] theorem State.lookChangeover_ev_clock (s : State) : (State.lookChangeover s).ev.clock = s.ev.clock := by
  unfold State.lookChangeover; try dsimp only
  (repeat' split) <;> (first | (simp [apply_ite State.ev, apply_ite EventUnit.clock]; done) | rfl)

@[simp] theorem State.announceAir_pending (s : State) (old : AirState) : (State.announceAir s old).pending = s.pending := by
  unfold State.announceAir; try dsimp only
  (repeat' split) <;> (first | (simp [apply_ite State.pending]; done) | rfl)
@[simp] theorem State.announceAir_pf (s : State) (old : AirState) : (State.announceAir s old).pf = s.pf := by
  unfold State.announceAir; try dsimp only
  (repeat' split) <;> (first | (simp [apply_ite State.pf]; done) | rfl)
@[simp] theorem State.announceAir_ev_clock (s : State) (old : AirState) : (State.announceAir s old).ev.clock = s.ev.clock := by
  unfold State.announceAir; try dsimp only
  (repeat' split) <;> (first | (simp [apply_ite State.ev, apply_ite EventUnit.clock]; done) | rfl)

@[simp] theorem State.endWake_pending (s : State) : (State.endWake s).pending = s.pending := by
  unfold State.endWake; try dsimp only
  (repeat' split) <;> (first | (simp [apply_ite State.pending]; done) | rfl)
@[simp] theorem State.endWake_pf (s : State) : (State.endWake s).pf = s.pf := by
  unfold State.endWake; try dsimp only
  (repeat' split) <;> (first | (simp [apply_ite State.pf]; done) | rfl)
@[simp] theorem State.endWake_ev_clock (s : State) : (State.endWake s).ev.clock = s.ev.clock := by
  unfold State.endWake; try dsimp only
  (repeat' split) <;> (first | (simp [apply_ite State.ev, apply_ite EventUnit.clock]; done) | rfl)

@[simp] theorem State.breakInChanges_pending (s : State) : (State.breakInChanges s).pending = s.pending := by
  unfold State.breakInChanges; try dsimp only
  (repeat' split) <;> (first | (simp [apply_ite State.pending]; done) | rfl)
@[simp] theorem State.breakInChanges_ev (s : State) : (State.breakInChanges s).ev = s.ev := by
  unfold State.breakInChanges; try dsimp only
  (repeat' split) <;> (first | (simp [apply_ite State.ev]; done) | rfl)
@[simp] theorem State.breakInChanges_pf (s : State) : (State.breakInChanges s).pf = s.pf := by
  unfold State.breakInChanges; try dsimp only
  (repeat' split) <;> (first | (simp [apply_ite State.pf]; done) | rfl)

@[simp] theorem State.alertChanges_pending (s : State) : (State.alertChanges s).pending = s.pending := by
  unfold State.alertChanges; try dsimp only
  (repeat' split) <;> (first | (simp [apply_ite State.pending]; done) | rfl)
@[simp] theorem State.alertChanges_ev (s : State) : (State.alertChanges s).ev = s.ev := by
  unfold State.alertChanges; try dsimp only
  (repeat' split) <;> (first | (simp [apply_ite State.ev]; done) | rfl)
@[simp] theorem State.alertChanges_pf (s : State) : (State.alertChanges s).pf = s.pf := by
  unfold State.alertChanges; try dsimp only
  (repeat' split) <;> (first | (simp [apply_ite State.pf]; done) | rfl)

@[simp] theorem State.fallbackChanges_pending (s : State) : (State.fallbackChanges s).pending = s.pending := by
  unfold State.fallbackChanges; try dsimp only
  (repeat' split) <;> (first | (simp [apply_ite State.pending]; done) | rfl)
@[simp] theorem State.fallbackChanges_ev (s : State) : (State.fallbackChanges s).ev = s.ev := by
  unfold State.fallbackChanges; try dsimp only
  (repeat' split) <;> (first | (simp [apply_ite State.ev]; done) | rfl)
@[simp] theorem State.fallbackChanges_pf (s : State) : (State.fallbackChanges s).pf = s.pf := by
  unfold State.fallbackChanges; try dsimp only
  (repeat' split) <;> (first | (simp [apply_ite State.pf]; done) | rfl)

@[simp] theorem State.causeChanges_pending (s : State) (c : Cause) : (State.causeChanges s c).pending = s.pending := by
  unfold State.causeChanges; try dsimp only
  (repeat' split) <;> (first | (simp [apply_ite State.pending]; done) | rfl)
@[simp] theorem State.causeChanges_ev (s : State) (c : Cause) : (State.causeChanges s c).ev = s.ev := by
  unfold State.causeChanges; try dsimp only
  (repeat' split) <;> (first | (simp [apply_ite State.ev]; done) | rfl)
@[simp] theorem State.causeChanges_pf (s : State) (c : Cause) : (State.causeChanges s c).pf = s.pf := by
  unfold State.causeChanges; try dsimp only
  (repeat' split) <;> (first | (simp [apply_ite State.pf]; done) | rfl)

@[simp] theorem State.push_pending (s : State) (c : Cause) : (State.push s c).pending = s.pending := by
  unfold State.push; try dsimp only
  (repeat' split) <;> (first | (simp [apply_ite State.pending]; done) | rfl)
@[simp] theorem State.push_pf (s : State) (c : Cause) : (State.push s c).pf = s.pf := by
  unfold State.push; try dsimp only
  (repeat' split) <;> (first | (simp [apply_ite State.pf]; done) | rfl)
@[simp] theorem State.push_ev_clock (s : State) (c : Cause) : (State.push s c).ev.clock = s.ev.clock := by
  unfold State.push; try dsimp only
  (repeat' split) <;> (first | (simp [apply_ite State.ev, apply_ite EventUnit.clock]; done) | rfl)

@[simp] theorem State.applyKind_pending (s : State) (k : ResumeKind) : (State.applyKind s k).pending = s.pending := by
  unfold State.applyKind; try dsimp only
  (repeat' split) <;> (first | (simp [apply_ite State.pending]; done) | rfl)
@[simp] theorem State.applyKind_pf (s : State) (k : ResumeKind) : (State.applyKind s k).pf = s.pf := by
  unfold State.applyKind; try dsimp only
  (repeat' split) <;> (first | (simp [apply_ite State.pf]; done) | rfl)
@[simp] theorem State.applyKind_ev_clock (s : State) (k : ResumeKind) : (State.applyKind s k).ev.clock = s.ev.clock := by
  unfold State.applyKind; try dsimp only
  (repeat' split) <;> (first | (simp [apply_ite State.ev, apply_ite EventUnit.clock]; done) | rfl)

@[simp] theorem State.restoreEntry_pending (s : State) (r : Context) (reprised : Option DeckId) (src : Source) : (State.restoreEntry s r reprised src).pending = s.pending := by
  unfold State.restoreEntry; try dsimp only
  (repeat' split) <;> (first | (simp [apply_ite State.pending]; done) | rfl)
@[simp] theorem State.restoreEntry_ev (s : State) (r : Context) (reprised : Option DeckId) (src : Source) : (State.restoreEntry s r reprised src).ev = s.ev := by
  unfold State.restoreEntry; try dsimp only
  (repeat' split) <;> (first | (simp [apply_ite State.ev]; done) | rfl)
@[simp] theorem State.restoreEntry_pf (s : State) (r : Context) (reprised : Option DeckId) (src : Source) : (State.restoreEntry s r reprised src).pf = s.pf := by
  unfold State.restoreEntry; try dsimp only
  (repeat' split) <;> (first | (simp [apply_ite State.pf]; done) | rfl)

@[simp] theorem State.restoreDeckEntry_pending (s : State) (r : Context) (reprised : Option DeckId) (d : DeckId) (saved : Option DeckSnapshot) : (State.restoreDeckEntry s r reprised d saved).pending = s.pending := by
  unfold State.restoreDeckEntry; try dsimp only
  (repeat' split) <;> (first | (simp [apply_ite State.pending]; done) | rfl)
@[simp] theorem State.restoreDeckEntry_ev (s : State) (r : Context) (reprised : Option DeckId) (d : DeckId) (saved : Option DeckSnapshot) : (State.restoreDeckEntry s r reprised d saved).ev = s.ev := by
  unfold State.restoreDeckEntry; try dsimp only
  (repeat' split) <;> (first | (simp [apply_ite State.ev]; done) | rfl)
@[simp] theorem State.restoreDeckEntry_pf (s : State) (r : Context) (reprised : Option DeckId) (d : DeckId) (saved : Option DeckSnapshot) : (State.restoreDeckEntry s r reprised d saved).pf = s.pf := by
  unfold State.restoreDeckEntry; try dsimp only
  (repeat' split) <;> (first | (simp [apply_ite State.pf]; done) | rfl)

@[simp] theorem State.restoreRoster_pending (s : State) (r : Context) (reprised : Option DeckId) : (State.restoreRoster s r reprised).pending = s.pending := by
  unfold State.restoreRoster; try dsimp only
  (repeat' split) <;> (first | (simp [apply_ite State.pending]; done) | rfl)
@[simp] theorem State.restoreRoster_ev (s : State) (r : Context) (reprised : Option DeckId) : (State.restoreRoster s r reprised).ev = s.ev := by
  unfold State.restoreRoster; try dsimp only
  (repeat' split) <;> (first | (simp [apply_ite State.ev]; done) | rfl)
@[simp] theorem State.restoreRoster_pf (s : State) (r : Context) (reprised : Option DeckId) : (State.restoreRoster s r reprised).pf = s.pf := by
  unfold State.restoreRoster; try dsimp only
  (repeat' split) <;> (first | (simp [apply_ite State.pf]; done) | rfl)

@[simp] theorem State.restoreLines_pending (s : State) (r : Context) : (State.restoreLines s r).pending = s.pending := by
  unfold State.restoreLines; try dsimp only
  (repeat' split) <;> (first | (simp [foldl_state_keeps State.pending]; done) | rfl)
@[simp] theorem State.restoreLines_ev (s : State) (r : Context) : (State.restoreLines s r).ev = s.ev := by
  unfold State.restoreLines; try dsimp only
  (repeat' split) <;> (first | (simp [foldl_state_keeps State.ev]; done) | rfl)
@[simp] theorem State.restoreLines_pf (s : State) (r : Context) : (State.restoreLines s r).pf = s.pf := by
  unfold State.restoreLines; try dsimp only
  (repeat' split) <;> (first | (simp [foldl_state_keeps State.pf]; done) | rfl)

@[simp] theorem State.restoreDelay_pending (s : State) (r : Context) : (State.restoreDelay s r).pending = s.pending := by
  unfold State.restoreDelay; try dsimp only
  (repeat' split) <;> (first | (simp [apply_ite State.pending]; done) | rfl)
@[simp] theorem State.restoreDelay_pf (s : State) (r : Context) : (State.restoreDelay s r).pf = s.pf := by
  unfold State.restoreDelay; try dsimp only
  (repeat' split) <;> (first | (simp [apply_ite State.pf]; done) | rfl)
@[simp] theorem State.restoreDelay_ev_clock (s : State) (r : Context) : (State.restoreDelay s r).ev.clock = s.ev.clock := by
  unfold State.restoreDelay; try dsimp only
  (repeat' split) <;> (first | (simp [apply_ite State.ev, apply_ite EventUnit.clock]; done) | rfl)

@[simp] theorem State.restoreSequencer_pending (s : State) (r : Context) : (State.restoreSequencer s r).pending = s.pending := by
  unfold State.restoreSequencer; try dsimp only
  (repeat' split) <;> (first | (simp [apply_ite State.pending]; done) | rfl)
@[simp] theorem State.restoreSequencer_pf (s : State) (r : Context) : (State.restoreSequencer s r).pf = s.pf := by
  unfold State.restoreSequencer; try dsimp only
  (repeat' split) <;> (first | (simp [apply_ite State.pf]; done) | rfl)
@[simp] theorem State.restoreSequencer_ev_clock (s : State) (r : Context) : (State.restoreSequencer s r).ev.clock = s.ev.clock := by
  unfold State.restoreSequencer; try dsimp only
  (repeat' split) <;> (first | (simp [apply_ite State.ev, apply_ite EventUnit.clock]; done) | rfl)

@[simp] theorem State.popRecord_pending (s : State) (r : Context) (rest : List Context) (taker : ResumeBy) (k : ResumeKind) : (State.popRecord s r rest taker k).pending = s.pending := by
  unfold State.popRecord; try dsimp only
  (repeat' split) <;> (first | (simp [apply_ite State.pending]; done) | rfl)
@[simp] theorem State.popRecord_pf (s : State) (r : Context) (rest : List Context) (taker : ResumeBy) (k : ResumeKind) : (State.popRecord s r rest taker k).pf = s.pf := by
  unfold State.popRecord; try dsimp only
  (repeat' split) <;> (first | (simp [apply_ite State.pf]; done) | rfl)
@[simp] theorem State.popRecord_ev_clock (s : State) (r : Context) (rest : List Context) (taker : ResumeBy) (k : ResumeKind) : (State.popRecord s r rest taker k).ev.clock = s.ev.clock := by
  unfold State.popRecord; try dsimp only
  (repeat' split) <;> (first | (simp [apply_ite State.ev, apply_ite EventUnit.clock]; done) | rfl)

@[simp] theorem State.pop_pending (s : State) (taker : ResumeBy) (k : ResumeKind) : (State.pop s taker k).pending = s.pending := by
  unfold State.pop; try dsimp only
  (repeat' split) <;> (first | (simp [apply_ite State.pending]; done) | rfl)
@[simp] theorem State.pop_pf (s : State) (taker : ResumeBy) (k : ResumeKind) : (State.pop s taker k).pf = s.pf := by
  unfold State.pop; try dsimp only
  (repeat' split) <;> (first | (simp [apply_ite State.pf]; done) | rfl)
@[simp] theorem State.pop_ev_clock (s : State) (taker : ResumeBy) (k : ResumeKind) : (State.pop s taker k).ev.clock = s.ev.clock := by
  unfold State.pop; try dsimp only
  (repeat' split) <;> (first | (simp [apply_ite State.ev, apply_ite EventUnit.clock]; done) | rfl)

@[simp] theorem State.beginAttention_pending (s : State) (p : PendingAlert) : (State.beginAttention s p).pending = s.pending := by
  unfold State.beginAttention; try dsimp only
  (repeat' split) <;> (first | (simp [apply_ite State.pending]; done) | rfl)
@[simp] theorem State.beginAttention_ev (s : State) (p : PendingAlert) : (State.beginAttention s p).ev = s.ev := by
  unfold State.beginAttention; try dsimp only
  (repeat' split) <;> (first | (simp [apply_ite State.ev]; done) | rfl)
@[simp] theorem State.beginAttention_pf (s : State) (p : PendingAlert) : (State.beginAttention s p).pf = s.pf := by
  unfold State.beginAttention; try dsimp only
  (repeat' split) <;> (first | (simp [apply_ite State.pf]; done) | rfl)

@[simp] theorem State.wake_pending (s : State) : (State.wake s).pending = s.pending := by
  unfold State.wake; try dsimp only
  (repeat' split) <;> (first | (simp [apply_ite State.pending]; done) | rfl)
@[simp] theorem State.wake_pf (s : State) : (State.wake s).pf = s.pf := by
  unfold State.wake; try dsimp only
  (repeat' split) <;> (first | (simp [apply_ite State.pf]; done) | rfl)
@[simp] theorem State.wake_ev_clock (s : State) : (State.wake s).ev.clock = s.ev.clock := by
  unfold State.wake; try dsimp only
  (repeat' split) <;> (first | (simp [apply_ite State.ev, apply_ite EventUnit.clock]; done) | rfl)

@[simp] theorem State.takeAir_pending (s : State) (p : PendingAlert) (rest : List PendingAlert) : (State.takeAir s p rest).pending = s.pending := by
  unfold State.takeAir; try dsimp only
  (repeat' split) <;> (first | (simp [apply_ite State.pending]; done) | rfl)
@[simp] theorem State.takeAir_pf (s : State) (p : PendingAlert) (rest : List PendingAlert) : (State.takeAir s p rest).pf = s.pf := by
  unfold State.takeAir; try dsimp only
  (repeat' split) <;> (first | (simp [apply_ite State.pf]; done) | rfl)
@[simp] theorem State.takeAir_ev_clock (s : State) (p : PendingAlert) (rest : List PendingAlert) : (State.takeAir s p rest).ev.clock = s.ev.clock := by
  unfold State.takeAir; try dsimp only
  (repeat' split) <;> (first | (simp [apply_ite State.ev, apply_ite EventUnit.clock]; done) | rfl)

@[simp] theorem State.checkAlerts_pending (s : State) : (State.checkAlerts s).pending = s.pending := by
  unfold State.checkAlerts; try dsimp only
  (repeat' split) <;> (first | (simp [apply_ite State.pending]; done) | rfl)
@[simp] theorem State.checkAlerts_pf (s : State) : (State.checkAlerts s).pf = s.pf := by
  unfold State.checkAlerts; try dsimp only
  (repeat' split) <;> (first | (simp [apply_ite State.pf]; done) | rfl)
@[simp] theorem State.checkAlerts_ev_clock (s : State) : (State.checkAlerts s).ev.clock = s.ev.clock := by
  unfold State.checkAlerts; try dsimp only
  (repeat' split) <;> (first | (simp [apply_ite State.ev, apply_ite EventUnit.clock]; done) | rfl)

@[simp] theorem State.breakOpportunity_pending (s : State) : (State.breakOpportunity s).pending = s.pending := by
  unfold State.breakOpportunity; try dsimp only
  (repeat' split) <;> (first | (simp [apply_ite State.pending]; done) | rfl)
@[simp] theorem State.breakOpportunity_pf (s : State) : (State.breakOpportunity s).pf = s.pf := by
  unfold State.breakOpportunity; try dsimp only
  (repeat' split) <;> (first | (simp [apply_ite State.pf]; done) | rfl)
@[simp] theorem State.breakOpportunity_ev_clock (s : State) : (State.breakOpportunity s).ev.clock = s.ev.clock := by
  unfold State.breakOpportunity; try dsimp only
  (repeat' split) <;> (first | (simp [apply_ite State.ev, apply_ite EventUnit.clock]; done) | rfl)

@[simp] theorem State.takeBreak_pending (s : State) : (State.takeBreak s).pending = s.pending := by
  unfold State.takeBreak; try dsimp only
  (repeat' split) <;> (first | (simp [apply_ite State.pending]; done) | rfl)
@[simp] theorem State.takeBreak_pf (s : State) : (State.takeBreak s).pf = s.pf := by
  unfold State.takeBreak; try dsimp only
  (repeat' split) <;> (first | (simp [apply_ite State.pf]; done) | rfl)
@[simp] theorem State.takeBreak_ev_clock (s : State) : (State.takeBreak s).ev.clock = s.ev.clock := by
  unfold State.takeBreak; try dsimp only
  (repeat' split) <;> (first | (simp [apply_ite State.ev, apply_ite EventUnit.clock]; done) | rfl)

@[simp] theorem State.enterTable_pending (s : State) (p : PendingAlert) : (State.enterTable s p).1.pending = s.pending := by
  unfold State.enterTable; try dsimp only
  (repeat' split) <;> (first | (simp [apply_ite State.pending]; done) | rfl)
@[simp] theorem State.enterTable_pf (s : State) (p : PendingAlert) : (State.enterTable s p).1.pf = s.pf := by
  unfold State.enterTable; try dsimp only
  (repeat' split) <;> (first | (simp [apply_ite State.pf]; done) | rfl)
@[simp] theorem State.enterTable_ev_clock (s : State) (p : PendingAlert) : (State.enterTable s p).1.ev.clock = s.ev.clock := by
  unfold State.enterTable; try dsimp only
  (repeat' split) <;> (first | (simp [apply_ite State.ev, apply_ite EventUnit.clock]; done) | rfl)

@[simp] theorem State.supersede_pending (s : State) (o : OnAirAlert) (p : PendingAlert) : (State.supersede s o p).pending = s.pending := by
  unfold State.supersede; try dsimp only
  (repeat' split) <;> (first | (simp [apply_ite State.pending]; done) | rfl)
@[simp] theorem State.supersede_pf (s : State) (o : OnAirAlert) (p : PendingAlert) : (State.supersede s o p).pf = s.pf := by
  unfold State.supersede; try dsimp only
  (repeat' split) <;> (first | (simp [apply_ite State.pf]; done) | rfl)
@[simp] theorem State.supersede_ev_clock (s : State) (o : OnAirAlert) (p : PendingAlert) : (State.supersede s o p).ev.clock = s.ev.clock := by
  unfold State.supersede; try dsimp only
  (repeat' split) <;> (first | (simp [apply_ite State.ev, apply_ite EventUnit.clock]; done) | rfl)

@[simp] theorem State.notice_pending (s : State) (n : Notice) : (State.notice s n).1.pending = s.pending := by
  unfold State.notice; try dsimp only
  (repeat' split) <;> (first | (simp [apply_ite State.pending]; done) | rfl)
@[simp] theorem State.notice_pf (s : State) (n : Notice) : (State.notice s n).1.pf = s.pf := by
  unfold State.notice; try dsimp only
  (repeat' split) <;> (first | (simp [apply_ite State.pf]; done) | rfl)
@[simp] theorem State.notice_ev_clock (s : State) (n : Notice) : (State.notice s n).1.ev.clock = s.ev.clock := by
  unfold State.notice; try dsimp only
  (repeat' split) <;> (first | (simp [apply_ite State.ev, apply_ite EventUnit.clock]; done) | rfl)

@[simp] theorem State.windowExpiry_pending (s : State) (id : Nat) : (State.windowExpiry s id).pending = s.pending := by
  unfold State.windowExpiry; try dsimp only
  (repeat' split) <;> (first | (simp [apply_ite State.pending]; done) | rfl)
@[simp] theorem State.windowExpiry_pf (s : State) (id : Nat) : (State.windowExpiry s id).pf = s.pf := by
  unfold State.windowExpiry; try dsimp only
  (repeat' split) <;> (first | (simp [apply_ite State.pf]; done) | rfl)
@[simp] theorem State.windowExpiry_ev_clock (s : State) (id : Nat) : (State.windowExpiry s id).ev.clock = s.ev.clock := by
  unfold State.windowExpiry; try dsimp only
  (repeat' split) <;> (first | (simp [apply_ite State.ev, apply_ite EventUnit.clock]; done) | rfl)

@[simp] theorem State.attentionEnd_pending (s : State) : (State.attentionEnd s).pending = s.pending := by
  unfold State.attentionEnd; try dsimp only
  (repeat' split) <;> (first | (simp [apply_ite State.pending]; done) | rfl)
@[simp] theorem State.attentionEnd_ev (s : State) : (State.attentionEnd s).ev = s.ev := by
  unfold State.attentionEnd; try dsimp only
  (repeat' split) <;> (first | (simp [apply_ite State.ev]; done) | rfl)
@[simp] theorem State.attentionEnd_pf (s : State) : (State.attentionEnd s).pf = s.pf := by
  unfold State.attentionEnd; try dsimp only
  (repeat' split) <;> (first | (simp [apply_ite State.pf]; done) | rfl)

@[simp] theorem State.messageTruncated_pending (s : State) : (State.messageTruncated s).pending = s.pending := by
  unfold State.messageTruncated; try dsimp only
  (repeat' split) <;> (first | (simp [apply_ite State.pending]; done) | rfl)
@[simp] theorem State.messageTruncated_ev (s : State) : (State.messageTruncated s).ev = s.ev := by
  unfold State.messageTruncated; try dsimp only
  (repeat' split) <;> (first | (simp [apply_ite State.ev]; done) | rfl)
@[simp] theorem State.messageTruncated_pf (s : State) : (State.messageTruncated s).pf = s.pf := by
  unfold State.messageTruncated; try dsimp only
  (repeat' split) <;> (first | (simp [apply_ite State.pf]; done) | rfl)

@[simp] theorem State.endAlert_pending (s : State) (o : OnAirAlert) : (State.endAlert s o).pending = s.pending := by
  unfold State.endAlert; try dsimp only
  (repeat' split) <;> (first | (simp [apply_ite State.pending]; done) | rfl)
@[simp] theorem State.endAlert_pf (s : State) (o : OnAirAlert) : (State.endAlert s o).pf = s.pf := by
  unfold State.endAlert; try dsimp only
  (repeat' split) <;> (first | (simp [apply_ite State.pf]; done) | rfl)
@[simp] theorem State.endAlert_ev_clock (s : State) (o : OnAirAlert) : (State.endAlert s o).ev.clock = s.ev.clock := by
  unfold State.endAlert; try dsimp only
  (repeat' split) <;> (first | (simp [apply_ite State.ev, apply_ite EventUnit.clock]; done) | rfl)

@[simp] theorem State.alertEnd_pending (s : State) : (State.alertEnd s).pending = s.pending := by
  unfold State.alertEnd; try dsimp only
  (repeat' split) <;> (first | (simp [apply_ite State.pending]; done) | rfl)
@[simp] theorem State.alertEnd_pf (s : State) : (State.alertEnd s).pf = s.pf := by
  unfold State.alertEnd; try dsimp only
  (repeat' split) <;> (first | (simp [apply_ite State.pf]; done) | rfl)
@[simp] theorem State.alertEnd_ev_clock (s : State) : (State.alertEnd s).ev.clock = s.ev.clock := by
  unfold State.alertEnd; try dsimp only
  (repeat' split) <;> (first | (simp [apply_ite State.ev, apply_ite EventUnit.clock]; done) | rfl)

@[simp] theorem State.signOn_pending (s : State) (enabled : Bool) : (State.signOn s enabled).1.pending = s.pending := by
  unfold State.signOn; try dsimp only
  (repeat' split) <;> (first | (simp [apply_ite State.pending]; done) | rfl)
@[simp] theorem State.signOn_pf (s : State) (enabled : Bool) : (State.signOn s enabled).1.pf = s.pf := by
  unfold State.signOn; try dsimp only
  (repeat' split) <;> (first | (simp [apply_ite State.pf]; done) | rfl)
@[simp] theorem State.signOn_ev_clock (s : State) (enabled : Bool) : (State.signOn s enabled).1.ev.clock = s.ev.clock := by
  unfold State.signOn; try dsimp only
  (repeat' split) <;> (first | (simp [apply_ite State.ev, apply_ite EventUnit.clock]; done) | rfl)

@[simp] theorem State.signOffNow_pending (s : State) : (State.signOffNow s).pending = s.pending := by
  unfold State.signOffNow; try dsimp only
  (repeat' split) <;> (first | (simp [apply_ite State.pending]; done) | rfl)
@[simp] theorem State.signOffNow_pf (s : State) : (State.signOffNow s).pf = s.pf := by
  unfold State.signOffNow; try dsimp only
  (repeat' split) <;> (first | (simp [apply_ite State.pf]; done) | rfl)
@[simp] theorem State.signOffNow_ev_clock (s : State) : (State.signOffNow s).ev.clock = s.ev.clock := by
  unfold State.signOffNow; try dsimp only
  (repeat' split) <;> (first | (simp [apply_ite State.ev, apply_ite EventUnit.clock]; done) | rfl)

@[simp] theorem State.signOff_pending (s : State) : (State.signOff s).1.pending = s.pending := by
  unfold State.signOff; try dsimp only
  (repeat' split) <;> (first | (simp [apply_ite State.pending]; done) | rfl)
@[simp] theorem State.signOff_pf (s : State) : (State.signOff s).1.pf = s.pf := by
  unfold State.signOff; try dsimp only
  (repeat' split) <;> (first | (simp [apply_ite State.pf]; done) | rfl)
@[simp] theorem State.signOff_ev_clock (s : State) : (State.signOff s).1.ev.clock = s.ev.clock := by
  unfold State.signOff; try dsimp only
  (repeat' split) <;> (first | (simp [apply_ite State.ev, apply_ite EventUnit.clock]; done) | rfl)

@[simp] theorem State.wakeChanged_pending (s : State) : (State.wakeChanged s).pending = s.pending := by
  unfold State.wakeChanged; try dsimp only
  (repeat' split) <;> (first | (simp [apply_ite State.pending]; done) | rfl)
@[simp] theorem State.wakeChanged_pf (s : State) : (State.wakeChanged s).pf = s.pf := by
  unfold State.wakeChanged; try dsimp only
  (repeat' split) <;> (first | (simp [apply_ite State.pf]; done) | rfl)
@[simp] theorem State.wakeChanged_ev_clock (s : State) : (State.wakeChanged s).ev.clock = s.ev.clock := by
  unfold State.wakeChanged; try dsimp only
  (repeat' split) <;> (first | (simp [apply_ite State.ev, apply_ite EventUnit.clock]; done) | rfl)

@[simp] theorem State.enterStartState_pending (s : State) (st : StartState) : (State.enterStartState s st).pending = s.pending := by
  unfold State.enterStartState; try dsimp only
  (repeat' split) <;> (first | (simp [apply_ite State.pending]; done) | rfl)
@[simp] theorem State.enterStartState_pf (s : State) (st : StartState) : (State.enterStartState s st).pf = s.pf := by
  unfold State.enterStartState; try dsimp only
  (repeat' split) <;> (first | (simp [apply_ite State.pf]; done) | rfl)
@[simp] theorem State.enterStartState_ev_clock (s : State) (st : StartState) : (State.enterStartState s st).ev.clock = s.ev.clock := by
  unfold State.enterStartState; try dsimp only
  (repeat' split) <;> (first | (simp [apply_ite State.ev, apply_ite EventUnit.clock]; done) | rfl)

@[simp] theorem State.startDelayExpiry_pending (s : State) : (State.startDelayExpiry s).pending = s.pending := by
  unfold State.startDelayExpiry; try dsimp only
  (repeat' split) <;> (first | (simp [apply_ite State.pending]; done) | rfl)
@[simp] theorem State.startDelayExpiry_pf (s : State) : (State.startDelayExpiry s).pf = s.pf := by
  unfold State.startDelayExpiry; try dsimp only
  (repeat' split) <;> (first | (simp [apply_ite State.pf]; done) | rfl)
@[simp] theorem State.startDelayExpiry_ev_clock (s : State) : (State.startDelayExpiry s).ev.clock = s.ev.clock := by
  unfold State.startDelayExpiry; try dsimp only
  (repeat' split) <;> (first | (simp [apply_ite State.ev, apply_ite EventUnit.clock]; done) | rfl)

@[simp] theorem State.judgeBlock_pending (s : State) : (State.judgeBlock s).pending = s.pending := by
  unfold State.judgeBlock; try dsimp only
  (repeat' split) <;> (first | (simp [apply_ite State.pending]; done) | rfl)
@[simp] theorem State.judgeBlock_pf (s : State) : (State.judgeBlock s).pf = s.pf := by
  unfold State.judgeBlock; try dsimp only
  (repeat' split) <;> (first | (simp [apply_ite State.pf]; done) | rfl)
@[simp] theorem State.judgeBlock_ev_clock (s : State) : (State.judgeBlock s).ev.clock = s.ev.clock := by
  unfold State.judgeBlock; try dsimp only
  (repeat' split) <;> (first | (simp [apply_ite State.ev, apply_ite EventUnit.clock]; done) | rfl)

@[simp] theorem State.blockJudged_pending (s : State) : (State.blockJudged s).pending = s.pending := by
  unfold State.blockJudged; try dsimp only
  (repeat' split) <;> (first | (simp [apply_ite State.pending]; done) | rfl)
@[simp] theorem State.blockJudged_pf (s : State) : (State.blockJudged s).pf = s.pf := by
  unfold State.blockJudged; try dsimp only
  (repeat' split) <;> (first | (simp [apply_ite State.pf]; done) | rfl)
@[simp] theorem State.blockJudged_ev_clock (s : State) : (State.blockJudged s).ev.clock = s.ev.clock := by
  unfold State.blockJudged; try dsimp only
  (repeat' split) <;> (first | (simp [apply_ite State.ev, apply_ite EventUnit.clock]; done) | rfl)

@[simp] theorem State.mixPeriod_pending (s : State) (f : InputFrame) : (State.mixPeriod s f).pending = s.pending := by
  unfold State.mixPeriod; try dsimp only
  (repeat' split) <;> (first | (simp [apply_ite State.pending]; done) | rfl)

@[simp] theorem State.frameBoundary_pending (s : State) : (State.frameBoundary s).pending = s.pending := by
  unfold State.frameBoundary; try dsimp only
  (repeat' split) <;> (first | (simp [apply_ite State.pending]; done) | rfl)
@[simp] theorem State.frameBoundary_ev (s : State) : (State.frameBoundary s).ev = s.ev := by
  unfold State.frameBoundary; try dsimp only
  (repeat' split) <;> (first | (simp [apply_ite State.ev]; done) | rfl)
@[simp] theorem State.frameBoundary_pf (s : State) : (State.frameBoundary s).pf = s.pf := by
  unfold State.frameBoundary; try dsimp only
  (repeat' split) <;> (first | (simp [apply_ite State.pf]; done) | rfl)

@[simp] theorem State.pollTimerExpiry_pending (s : State) : (State.pollTimerExpiry s).pending = s.pending := by
  unfold State.pollTimerExpiry; try dsimp only
  (repeat' split) <;> (first | (simp [apply_ite State.pending]; done) | rfl)
@[simp] theorem State.pollTimerExpiry_ev (s : State) : (State.pollTimerExpiry s).ev = s.ev := by
  unfold State.pollTimerExpiry; try dsimp only
  (repeat' split) <;> (first | (simp [apply_ite State.ev]; done) | rfl)
@[simp] theorem State.pollTimerExpiry_pf (s : State) : (State.pollTimerExpiry s).pf = s.pf := by
  unfold State.pollTimerExpiry; try dsimp only
  (repeat' split) <;> (first | (simp [apply_ite State.pf]; done) | rfl)

@[simp] theorem State.replyWindowClose_pending (s : State) : (State.replyWindowClose s).pending = s.pending := by
  unfold State.replyWindowClose; try dsimp only
  (repeat' split) <;> (first | (simp [apply_ite State.pending]; done) | rfl)
@[simp] theorem State.replyWindowClose_pf (s : State) : (State.replyWindowClose s).pf = s.pf := by
  unfold State.replyWindowClose; try dsimp only
  (repeat' split) <;> (first | (simp [apply_ite State.pf]; done) | rfl)
@[simp] theorem State.replyWindowClose_ev_clock (s : State) : (State.replyWindowClose s).ev.clock = s.ev.clock := by
  unfold State.replyWindowClose; try dsimp only
  (repeat' split) <;> (first | (simp [apply_ite State.ev, apply_ite EventUnit.clock]; done) | rfl)

@[simp] theorem State.receive_pending (s : State) (w : Waveform) : (State.receive s w).pending = s.pending := by
  unfold State.receive; try dsimp only
  (repeat' split) <;> (first | (simp [apply_ite State.pending]; done) | rfl)
@[simp] theorem State.receive_ev (s : State) (w : Waveform) : (State.receive s w).ev = s.ev := by
  unfold State.receive; try dsimp only
  (repeat' split) <;> (first | (simp [apply_ite State.ev]; done) | rfl)
@[simp] theorem State.receive_pf (s : State) (w : Waveform) : (State.receive s w).pf = s.pf := by
  unfold State.receive; try dsimp only
  (repeat' split) <;> (first | (simp [apply_ite State.pf]; done) | rfl)

@[simp] theorem State.returnCharacter_pending (s : State) (w : Waveform) : (State.returnCharacter s w).pending = s.pending := by
  unfold State.returnCharacter; try dsimp only
  (repeat' split) <;> (first | (simp [apply_ite State.pending]; done) | rfl)
@[simp] theorem State.returnCharacter_ev (s : State) (w : Waveform) : (State.returnCharacter s w).ev = s.ev := by
  unfold State.returnCharacter; try dsimp only
  (repeat' split) <;> (first | (simp [apply_ite State.ev]; done) | rfl)
@[simp] theorem State.returnCharacter_pf (s : State) (w : Waveform) : (State.returnCharacter s w).pf = s.pf := by
  unfold State.returnCharacter; try dsimp only
  (repeat' split) <;> (first | (simp [apply_ite State.pf]; done) | rfl)

@[simp] theorem State.checkReflect_pending (s : State) (u : UnitId) (st : UnitStatus) : (State.checkReflect s u st).pending = s.pending := by
  unfold State.checkReflect; try dsimp only
  (repeat' split) <;> (first | (simp [apply_ite State.pending]; done) | rfl)
@[simp] theorem State.checkReflect_pf (s : State) (u : UnitId) (st : UnitStatus) : (State.checkReflect s u st).pf = s.pf := by
  unfold State.checkReflect; try dsimp only
  (repeat' split) <;> (first | (simp [apply_ite State.pf]; done) | rfl)
@[simp] theorem State.checkReflect_ev_clock (s : State) (u : UnitId) (st : UnitStatus) : (State.checkReflect s u st).ev.clock = s.ev.clock := by
  unfold State.checkReflect; try dsimp only
  (repeat' split) <;> (first | (simp [apply_ite State.ev, apply_ite EventUnit.clock]; done) | rfl)

@[simp] theorem State.remoteFallback_pending (s : State) : (State.remoteFallback s).pending = s.pending := by
  unfold State.remoteFallback; try dsimp only
  (repeat' split) <;> (first | (simp [apply_ite State.pending]; done) | rfl)
@[simp] theorem State.remoteFallback_pf (s : State) : (State.remoteFallback s).pf = s.pf := by
  unfold State.remoteFallback; try dsimp only
  (repeat' split) <;> (first | (simp [apply_ite State.pf]; done) | rfl)
@[simp] theorem State.remoteFallback_ev_clock (s : State) : (State.remoteFallback s).ev.clock = s.ev.clock := by
  unfold State.remoteFallback; try dsimp only
  (repeat' split) <;> (first | (simp [apply_ite State.ev, apply_ite EventUnit.clock]; done) | rfl)

@[simp] theorem remoteJudged_pending (r : State × ReplyCode) : (remoteJudged r).pending = r.1.pending := by
  unfold remoteJudged; split <;> rfl
@[simp] theorem State.remoteRequest_pending (s : State) (code : Byte) : (State.remoteRequest s code).pending = s.pending := by
  unfold State.remoteRequest; split <;> simp
@[simp] theorem remoteJudged_pf (r : State × ReplyCode) : (remoteJudged r).pf = r.1.pf := by
  unfold remoteJudged; split <;> rfl
@[simp] theorem State.remoteRequest_pf (s : State) (code : Byte) : (State.remoteRequest s code).pf = s.pf := by
  unfold State.remoteRequest; split <;> simp
@[simp] theorem remoteJudged_ev_clock (r : State × ReplyCode) : (remoteJudged r).ev.clock = r.1.ev.clock := by
  unfold remoteJudged; split <;> rfl
@[simp] theorem State.remoteRequest_ev_clock (s : State) (code : Byte) : (State.remoteRequest s code).ev.clock = s.ev.clock := by
  unfold State.remoteRequest; split <;> simp

@[simp] theorem State.setLastCode_pending (s : State) (u : UnitId) (code : Byte) : (State.setLastCode s u code).pending = s.pending := by
  unfold State.setLastCode; try dsimp only
  (repeat' split) <;> (first | (simp [apply_ite State.pending]; done) | rfl)
@[simp] theorem State.setLastCode_ev (s : State) (u : UnitId) (code : Byte) : (State.setLastCode s u code).ev = s.ev := by
  unfold State.setLastCode; try dsimp only
  (repeat' split) <;> (first | (simp [apply_ite State.ev]; done) | rfl)
@[simp] theorem State.setLastCode_pf (s : State) (u : UnitId) (code : Byte) : (State.setLastCode s u code).pf = s.pf := by
  unfold State.setLastCode; try dsimp only
  (repeat' split) <;> (first | (simp [apply_ite State.pf]; done) | rfl)

@[simp] theorem State.judgeRequest_pending (s : State) (u : UnitId) (code : Byte) : (State.judgeRequest s u code).pending = s.pending := by
  unfold State.judgeRequest; try dsimp only
  (repeat' split) <;> (first | (simp [apply_ite State.pending]; done) | rfl)
@[simp] theorem State.judgeRequest_pf (s : State) (u : UnitId) (code : Byte) : (State.judgeRequest s u code).pf = s.pf := by
  unfold State.judgeRequest; try dsimp only
  (repeat' split) <;> (first | (simp [apply_ite State.pf]; done) | rfl)
@[simp] theorem State.judgeRequest_ev_clock (s : State) (u : UnitId) (code : Byte) : (State.judgeRequest s u code).ev.clock = s.ev.clock := by
  unfold State.judgeRequest; try dsimp only
  (repeat' split) <;> (first | (simp [apply_ite State.ev, apply_ite EventUnit.clock]; done) | rfl)

@[simp] theorem State.acceptMessage_pending (s : State) (u : UnitId) (st : UnitStatus) : (State.acceptMessage s u st).pending = s.pending := by
  unfold State.acceptMessage; try dsimp only
  (repeat' split) <;> (first | (simp [apply_ite State.pending]; done) | rfl)
@[simp] theorem State.acceptMessage_pf (s : State) (u : UnitId) (st : UnitStatus) : (State.acceptMessage s u st).pf = s.pf := by
  unfold State.acceptMessage; try dsimp only
  (repeat' split) <;> (first | (simp [apply_ite State.pf]; done) | rfl)
@[simp] theorem State.acceptMessage_ev_clock (s : State) (u : UnitId) (st : UnitStatus) : (State.acceptMessage s u st).ev.clock = s.ev.clock := by
  unfold State.acceptMessage; try dsimp only
  (repeat' split) <;> (first | (simp [apply_ite State.ev, apply_ite EventUnit.clock]; done) | rfl)

@[simp] theorem State.judgeMessage_pending (s : State) (m : Assembly) : (State.judgeMessage s m).pending = s.pending := by
  unfold State.judgeMessage; try dsimp only
  (repeat' split) <;> (first | (simp [apply_ite State.pending]; done) | rfl)
@[simp] theorem State.judgeMessage_pf (s : State) (m : Assembly) : (State.judgeMessage s m).pf = s.pf := by
  unfold State.judgeMessage; try dsimp only
  (repeat' split) <;> (first | (simp [apply_ite State.pf]; done) | rfl)
@[simp] theorem State.judgeMessage_ev_clock (s : State) (m : Assembly) : (State.judgeMessage s m).ev.clock = s.ev.clock := by
  unfold State.judgeMessage; try dsimp only
  (repeat' split) <;> (first | (simp [apply_ite State.ev, apply_ite EventUnit.clock]; done) | rfl)

@[simp] theorem State.assemblerTake_pending (s : State) : (State.assemblerTake s).pending = s.pending := by
  unfold State.assemblerTake; try dsimp only
  (repeat' split) <;> (first | (simp [apply_ite State.pending]; done) | rfl)
@[simp] theorem State.assemblerTake_pf (s : State) : (State.assemblerTake s).pf = s.pf := by
  unfold State.assemblerTake; try dsimp only
  (repeat' split) <;> (first | (simp [apply_ite State.pf]; done) | rfl)
@[simp] theorem State.assemblerTake_ev_clock (s : State) : (State.assemblerTake s).ev.clock = s.ev.clock := by
  unfold State.assemblerTake; try dsimp only
  (repeat' split) <;> (first | (simp [apply_ite State.ev, apply_ite EventUnit.clock]; done) | rfl)

@[simp] theorem State.transactionStart_pending (s : State) (l : LaneId) : (State.transactionStart s l).pending = s.pending := by
  unfold State.transactionStart; try dsimp only
  (repeat' split) <;> (first | (simp [apply_ite State.pending]; done) | rfl)
@[simp] theorem State.transactionStart_ev (s : State) (l : LaneId) : (State.transactionStart s l).ev = s.ev := by
  unfold State.transactionStart; try dsimp only
  (repeat' split) <;> (first | (simp [apply_ite State.ev]; done) | rfl)
@[simp] theorem State.transactionStart_pf (s : State) (l : LaneId) : (State.transactionStart s l).pf = s.pf := by
  unfold State.transactionStart; try dsimp only
  (repeat' split) <;> (first | (simp [apply_ite State.pf]; done) | rfl)

@[simp] theorem State.heard_pending (s : State) (l : LaneId) (bytes : List Byte) : (State.heard s l bytes).pending = s.pending := by
  unfold State.heard; (repeat' split) <;> rfl
@[simp] theorem State.heard_pb (s : State) (l : LaneId) (bytes : List Byte) : (State.heard s l bytes).pb = s.pb := by
  unfold State.heard; (repeat' split) <;> rfl
@[simp] theorem State.heard_ap (s : State) (l : LaneId) (bytes : List Byte) : (State.heard s l bytes).ap = s.ap := by
  unfold State.heard; (repeat' split) <;> rfl
@[simp] theorem State.heard_sq (s : State) (l : LaneId) (bytes : List Byte) : (State.heard s l bytes).sq = s.sq := by
  unfold State.heard; (repeat' split) <;> rfl
@[simp] theorem State.heard_ps (s : State) (l : LaneId) (bytes : List Byte) : (State.heard s l bytes).ps = s.ps := by
  unfold State.heard; (repeat' split) <;> rfl
@[simp] theorem State.heard_lc (s : State) (l : LaneId) (bytes : List Byte) : (State.heard s l bytes).lc = s.lc := by
  unfold State.heard; (repeat' split) <;> rfl
@[simp] theorem State.heard_du (s : State) (l : LaneId) (bytes : List Byte) : (State.heard s l bytes).du = s.du := by
  unfold State.heard; (repeat' split) <;> rfl
@[simp] theorem State.heard_al (s : State) (l : LaneId) (bytes : List Byte) : (State.heard s l bytes).al = s.al := by
  unfold State.heard; (repeat' split) <;> rfl
@[simp] theorem State.heard_air (s : State) (l : LaneId) (bytes : List Byte) : (State.heard s l bytes).air = s.air := by
  unfold State.heard; (repeat' split) <;> rfl
@[simp] theorem State.heard_tl (s : State) (l : LaneId) (bytes : List Byte) : (State.heard s l bytes).tl = s.tl := by
  unfold State.heard; (repeat' split) <;> rfl
@[simp] theorem State.heard_ev (s : State) (l : LaneId) (bytes : List Byte) : (State.heard s l bytes).ev = s.ev := by
  unfold State.heard; (repeat' split) <;> rfl
@[simp] theorem State.heard_pf (s : State) (l : LaneId) (bytes : List Byte) : (State.heard s l bytes).pf = s.pf := by
  unfold State.heard; (repeat' split) <;> rfl

@[simp] theorem State.readOnly_pending (s : State) (l : LaneId) (bytes : List Byte) : (State.readOnly s l bytes).pending = s.pending := by
  unfold State.readOnly; try dsimp only
  (repeat' split) <;> (first | (simp [apply_ite State.pending]; done) | rfl)
@[simp] theorem State.readOnly_ev (s : State) (l : LaneId) (bytes : List Byte) : (State.readOnly s l bytes).ev = s.ev := by
  unfold State.readOnly; try dsimp only
  (repeat' split) <;> (first | (simp [apply_ite State.ev]; done) | rfl)
@[simp] theorem State.readOnly_pf (s : State) (l : LaneId) (bytes : List Byte) : (State.readOnly s l bytes).pf = s.pf := by
  unfold State.readOnly; try dsimp only
  (repeat' split) <;> (first | (simp [apply_ite State.pf]; done) | rfl)

@[simp] theorem State.laneTimeout_pending (s : State) (l : LaneId) : (State.laneTimeout s l).pending = s.pending := by
  unfold State.laneTimeout; try dsimp only
  (repeat' split) <;> (first | (simp [apply_ite State.pending]; done) | rfl)
@[simp] theorem State.laneTimeout_pf (s : State) (l : LaneId) : (State.laneTimeout s l).pf = s.pf := by
  unfold State.laneTimeout; try dsimp only
  (repeat' split) <;> (first | (simp [apply_ite State.pf]; done) | rfl)
@[simp] theorem State.laneTimeout_ev_clock (s : State) (l : LaneId) : (State.laneTimeout s l).ev.clock = s.ev.clock := by
  unfold State.laneTimeout; try dsimp only
  (repeat' split) <;> (first | (simp [apply_ite State.ev, apply_ite EventUnit.clock]; done) | rfl)

@[simp] theorem State.fieldWritten_pending (s : State) (fl : Field) : (State.fieldWritten s fl).pending = s.pending := by
  unfold State.fieldWritten; try dsimp only
  (repeat' split) <;> (first | (simp [apply_ite State.pending]; done) | rfl)
@[simp] theorem State.fieldWritten_pf (s : State) (fl : Field) : (State.fieldWritten s fl).pf = s.pf := by
  unfold State.fieldWritten; try dsimp only
  (repeat' split) <;> (first | (simp [apply_ite State.pf]; done) | rfl)
@[simp] theorem State.fieldWritten_ev_clock (s : State) (fl : Field) : (State.fieldWritten s fl).ev.clock = s.ev.clock := by
  unfold State.fieldWritten; try dsimp only
  (repeat' split) <;> (first | (simp [apply_ite State.ev, apply_ite EventUnit.clock]; done) | rfl)

@[simp] theorem State.profileWrite_pending (l : LaneId) (body : List Byte) (s : State) : (State.profileWrite l body s).1.pending = s.pending := by
  unfold State.profileWrite; try dsimp only
  (repeat' split) <;> (first | (simp [apply_ite State.pending]; done) | rfl)
@[simp] theorem State.profileWrite_ev_clock (l : LaneId) (body : List Byte) (s : State) : (State.profileWrite l body s).1.ev.clock = s.ev.clock := by
  unfold State.profileWrite; try dsimp only
  (repeat' split) <;> (first | (simp [apply_ite State.ev, apply_ite EventUnit.clock]; done) | rfl)

@[simp] theorem State.profileWriteComplete_pending (s : State) : (State.profileWriteComplete s).pending = s.pending := by
  unfold State.profileWriteComplete; try dsimp only
  (repeat' split) <;> (first | (simp [apply_ite State.pending]; done) | rfl)
@[simp] theorem State.profileWriteComplete_ev (s : State) : (State.profileWriteComplete s).ev = s.ev := by
  unfold State.profileWriteComplete; try dsimp only
  (repeat' split) <;> (first | (simp [apply_ite State.ev]; done) | rfl)

@[simp] theorem State.profileLoadComplete_pending (s : State) : (State.profileLoadComplete s).pending = s.pending := by
  unfold State.profileLoadComplete; try dsimp only
  (repeat' split) <;> (first | (simp [apply_ite State.pending]; done) | rfl)
@[simp] theorem State.profileLoadComplete_ev_clock (s : State) : (State.profileLoadComplete s).ev.clock = s.ev.clock := by
  unfold State.profileLoadComplete; try dsimp only
  (repeat' split) <;> (first | (simp [apply_ite State.ev, apply_ite EventUnit.clock]; done) | rfl)

@[simp] theorem State.resetBlocks_pending (s : State) : (State.resetBlocks s).pending = s.pending := by
  unfold State.resetBlocks; try dsimp only
  (repeat' split) <;> (first | (simp [apply_ite State.pending]; done) | rfl)
@[simp] theorem State.resetBlocks_ev_clock (s : State) : (State.resetBlocks s).ev.clock = s.ev.clock := by
  unfold State.resetBlocks; dsimp only
  rw [State.raiseIf_ev_clock]; rfl

@[simp] theorem State.globalReset_pending (s : State) : (State.globalReset s).pending = s.pending := by
  unfold State.globalReset; try dsimp only
  (repeat' split) <;> (first | (simp [apply_ite State.pending]; done) | rfl)
@[simp] theorem State.globalReset_ev_clock (s : State) : (State.globalReset s).ev.clock = s.ev.clock := by
  unfold State.globalReset; try dsimp only
  (repeat' split) <;> (first | (simp [apply_ite State.ev, apply_ite EventUnit.clock]; done) | rfl)

@[simp] theorem State.releaseRampEnd_pending (s : State) (src : Source) : (State.releaseRampEnd s src).pending = s.pending := by
  unfold State.releaseRampEnd; try dsimp only
  (repeat' split) <;> (first | (simp [apply_ite State.pending]; done) | rfl)
@[simp] theorem State.releaseRampEnd_ev (s : State) (src : Source) : (State.releaseRampEnd s src).ev = s.ev := by
  unfold State.releaseRampEnd; try dsimp only
  (repeat' split) <;> (first | (simp [apply_ite State.ev]; done) | rfl)
@[simp] theorem State.releaseRampEnd_pf (s : State) (src : Source) : (State.releaseRampEnd s src).pf = s.pf := by
  unfold State.releaseRampEnd; try dsimp only
  (repeat' split) <;> (first | (simp [apply_ite State.pf]; done) | rfl)

@[simp] theorem State.seguePointEvent_pending (s : State) : (State.seguePointEvent s).pending = s.pending := by
  unfold State.seguePointEvent; try dsimp only
  (repeat' split) <;> (first | (simp [apply_ite State.pending]; done) | rfl)
@[simp] theorem State.seguePointEvent_pf (s : State) : (State.seguePointEvent s).pf = s.pf := by
  unfold State.seguePointEvent; try dsimp only
  (repeat' split) <;> (first | (simp [apply_ite State.pf]; done) | rfl)
@[simp] theorem State.seguePointEvent_ev_clock (s : State) : (State.seguePointEvent s).ev.clock = s.ev.clock := by
  unfold State.seguePointEvent; try dsimp only
  (repeat' split) <;> (first | (simp [apply_ite State.ev, apply_ite EventUnit.clock]; done) | rfl)

@[simp] theorem State.itemEndEvent_pending (s : State) (d : DeckId) : (State.itemEndEvent s d).pending = s.pending := by
  unfold State.itemEndEvent; try dsimp only
  (repeat' split) <;> (first | (simp [apply_ite State.pending]; done) | rfl)
@[simp] theorem State.itemEndEvent_pf (s : State) (d : DeckId) : (State.itemEndEvent s d).pf = s.pf := by
  unfold State.itemEndEvent; try dsimp only
  (repeat' split) <;> (first | (simp [apply_ite State.pf]; done) | rfl)
@[simp] theorem State.itemEndEvent_ev_clock (s : State) (d : DeckId) : (State.itemEndEvent s d).ev.clock = s.ev.clock := by
  unfold State.itemEndEvent; try dsimp only
  (repeat' split) <;> (first | (simp [apply_ite State.ev, apply_ite EventUnit.clock]; done) | rfl)

@[simp] theorem State.settleStart_pending (s : State) : (State.settleStart s).pending = s.pending := by
  unfold State.settleStart; try dsimp only
  (repeat' split) <;> (first | (simp [apply_ite State.pending]; done) | rfl)
@[simp] theorem State.settleStart_ev_clock (s : State) : (State.settleStart s).ev.clock = s.ev.clock := by
  unfold State.settleStart; try dsimp only
  (repeat' split) <;> (first | (simp [apply_ite State.ev, apply_ite EventUnit.clock]; done) | rfl)

@[simp] theorem State.settleRoster_pending (s : State) : (State.settleRoster s).pending = s.pending := by
  unfold State.settleRoster; try dsimp only
  (repeat' split) <;> (first | (simp [apply_ite State.pending]; done) | rfl)
@[simp] theorem State.settleRoster_ev (s : State) : (State.settleRoster s).ev = s.ev := by
  unfold State.settleRoster; try dsimp only
  (repeat' split) <;> (first | (simp [apply_ite State.ev]; done) | rfl)
@[simp] theorem State.settleRoster_pf (s : State) : (State.settleRoster s).pf = s.pf := by
  unfold State.settleRoster; try dsimp only
  (repeat' split) <;> (first | (simp [apply_ite State.pf]; done) | rfl)

@[simp] theorem State.settleSequencer_pending (s : State) : (State.settleSequencer s).pending = s.pending := by
  unfold State.settleSequencer; try dsimp only
  (repeat' split) <;> (first | (simp [apply_ite State.pending]; done) | rfl)
@[simp] theorem State.settleSequencer_pf (s : State) : (State.settleSequencer s).pf = s.pf := by
  unfold State.settleSequencer; try dsimp only
  (repeat' split) <;> (first | (simp [apply_ite State.pf]; done) | rfl)
@[simp] theorem State.settleSequencer_ev_clock (s : State) : (State.settleSequencer s).ev.clock = s.ev.clock := by
  unfold State.settleSequencer; try dsimp only
  (repeat' split) <;> (first | (simp [apply_ite State.ev, apply_ite EventUnit.clock]; done) | rfl)

@[simp] theorem State.settleAlert_pending (s : State) : (State.settleAlert s).pending = s.pending := by
  unfold State.settleAlert; try dsimp only
  (repeat' split) <;> (first | (simp [foldl_state_keeps State.pending]; done) | rfl)
@[simp] theorem State.settleAlert_pf (s : State) : (State.settleAlert s).pf = s.pf := by
  unfold State.settleAlert; try dsimp only
  (repeat' split) <;> (first | (simp [foldl_state_keeps State.pf]; done) | rfl)
@[simp] theorem State.settleAlert_ev_clock (s : State) : (State.settleAlert s).ev.clock = s.ev.clock := by
  unfold State.settleAlert; dsimp only
  rw [foldl_state_keeps (fun s => s.ev.clock) _ (by simp)]; simp

@[simp] theorem State.settleLine_pending (s : State) (n : LineId) : (State.settleLine s n).pending = s.pending := by
  unfold State.settleLine; try dsimp only
  (repeat' split) <;> (first | (simp [apply_ite State.pending]; done) | rfl)
@[simp] theorem State.settleLine_pf (s : State) (n : LineId) : (State.settleLine s n).pf = s.pf := by
  unfold State.settleLine; try dsimp only
  (repeat' split) <;> (first | (simp [apply_ite State.pf]; done) | rfl)
@[simp] theorem State.settleLine_ev_clock (s : State) (n : LineId) : (State.settleLine s n).ev.clock = s.ev.clock := by
  unfold State.settleLine; try dsimp only
  (repeat' split) <;> (first | (simp [apply_ite State.ev, apply_ite EventUnit.clock]; done) | rfl)

@[simp] theorem State.settleLines_pending (s : State) : (State.settleLines s).pending = s.pending := by
  unfold State.settleLines; try dsimp only
  (repeat' split) <;> (first | (simp [foldl_state_keeps State.pending]; done) | rfl)
@[simp] theorem State.settleLines_pf (s : State) : (State.settleLines s).pf = s.pf := by
  unfold State.settleLines; try dsimp only
  (repeat' split) <;> (first | (simp [foldl_state_keeps State.pf]; done) | rfl)
@[simp] theorem State.settleLines_ev_clock (s : State) : (State.settleLines s).ev.clock = s.ev.clock := by
  unfold State.settleLines
  rw [foldl_state_keeps (fun s => s.ev.clock) _ State.settleLine_ev_clock]

@[simp] theorem State.settleLink_pending (s : State) : (State.settleLink s).pending = s.pending := by
  unfold State.settleLink; try dsimp only
  (repeat' split) <;> (first | (simp [apply_ite State.pending]; done) | rfl)
@[simp] theorem State.settleLink_pf (s : State) : (State.settleLink s).pf = s.pf := by
  unfold State.settleLink; try dsimp only
  (repeat' split) <;> (first | (simp [apply_ite State.pf]; done) | rfl)
@[simp] theorem State.settleLink_ev_clock (s : State) : (State.settleLink s).ev.clock = s.ev.clock := by
  unfold State.settleLink; try dsimp only
  (repeat' split) <;> (first | (simp [apply_ite State.ev, apply_ite EventUnit.clock]; done) | rfl)

@[simp] theorem State.settleLanes_pending (s : State) : (State.settleLanes s).pending = s.pending := by
  unfold State.settleLanes; simp
@[simp] theorem State.settleLanes_pf (s : State) : (State.settleLanes s).pf = s.pf := by
  unfold State.settleLanes; simp
@[simp] theorem State.settleLanes_ev_clock (s : State) : (State.settleLanes s).ev.clock = s.ev.clock := by
  unfold State.settleLanes; simp

@[simp] theorem State.settle_pending (s : State) : (State.settle s).pending = s.pending := by
  unfold State.settle; try dsimp only
  (repeat' split) <;> (first | (simp [apply_ite State.pending]; done) | rfl)
@[simp] theorem State.settle_ev_clock (s : State) : (State.settle s).ev.clock = s.ev.clock := by
  unfold State.settle; try dsimp only
  (repeat' split) <;> (first | (simp [apply_ite State.ev, apply_ite EventUnit.clock]; done) | rfl)

/-- While power-on is held a mix runs nothing (R188; log 33). -/
theorem State.mix_held {s : State} (h : s.pf.held = true) (f : InputFrame) : s.mix f = s := if_pos h

/-- A mix: what is due, then its sample period. -/
theorem State.mix_runs {s : State} (h : s.pf.held = false) (f : InputFrame) : s.mix f = s.settle.mixPeriod f :=
  if_neg (by simp [h])

/-- A mix with nothing due is its sample period. -/
theorem State.mix_settled {s : State} (h : s.settled) (f : InputFrame) : s.mix f = s.mixPeriod f := by
  rw [State.mix_runs h.2, h.1]

@[simp] theorem State.mix_pending (s : State) (f : InputFrame) : (State.mix s f).pending = s.pending := by
  unfold State.mix; try dsimp only
  (repeat' split) <;> (first | (simp [apply_ite State.pending]; done) | rfl)

@[simp] theorem State.buildStep_pending (s : State) (f : InputFrame) : (State.buildStep s f).pending = s.pending := by
  unfold State.buildStep; try dsimp only
  (repeat' split) <;> (first | (simp [apply_ite State.pending]; done) | rfl)

@[simp] theorem State.catchUpStep_pending (s : State) (f : InputFrame) : (State.catchUpStep s f).pending = s.pending := by
  unfold State.catchUpStep; try dsimp only
  (repeat' split) <;> (first | (simp [apply_ite State.pending]; done) | rfl)

@[simp] theorem State.clockWrap_pending (s : State) (f : InputFrame) : (State.clockWrap s f).pending = s.pending := by
  unfold State.clockWrap; try dsimp only
  (repeat' split) <;> (first | (simp [apply_ite State.pending]; done) | rfl)

@[simp] theorem ownGlobalReset_pending (_body : List Byte) (s : State) : (ownGlobalReset _body s).state.pending = s.pending := by
  unfold ownGlobalReset; try dsimp only
  (repeat' split) <;> (first | (simp [apply_ite State.pending]; done) | rfl)
@[simp] theorem ownGlobalReset_ev_clock (_body : List Byte) (s : State) : (ownGlobalReset _body s).state.ev.clock = s.ev.clock := by
  unfold ownGlobalReset; try dsimp only
  (repeat' split) <;> (first | (simp [apply_ite State.ev, apply_ite EventUnit.clock]; done) | rfl)

@[simp] theorem ownSeqAppend_pending (body : List Byte) (s : State) : (ownSeqAppend body s).state.pending = s.pending := by
  unfold ownSeqAppend; try dsimp only
  (repeat' split) <;> (first | (simp [apply_ite State.pending]; done) | rfl)
@[simp] theorem ownSeqAppend_pf (body : List Byte) (s : State) : (ownSeqAppend body s).state.pf = s.pf := by
  unfold ownSeqAppend; try dsimp only
  (repeat' split) <;> (first | (simp [apply_ite State.pf]; done) | rfl)
@[simp] theorem ownSeqAppend_ev_clock (body : List Byte) (s : State) : (ownSeqAppend body s).state.ev.clock = s.ev.clock := by
  unfold ownSeqAppend; try dsimp only
  (repeat' split) <;> (first | (simp [apply_ite State.ev, apply_ite EventUnit.clock]; done) | rfl)

@[simp] theorem State.recue_pending (s : State) (d : Option DeckId) (i : Item) : (State.recue s d i).pending = s.pending := by
  unfold State.recue; try dsimp only
  (repeat' split) <;> (first | (simp [apply_ite State.pending]; done) | rfl)
@[simp] theorem State.recue_pf (s : State) (d : Option DeckId) (i : Item) : (State.recue s d i).pf = s.pf := by
  unfold State.recue; try dsimp only
  (repeat' split) <;> (first | (simp [apply_ite State.pf]; done) | rfl)
@[simp] theorem State.recue_ev_clock (s : State) (d : Option DeckId) (i : Item) : (State.recue s d i).ev.clock = s.ev.clock := by
  unfold State.recue; try dsimp only
  (repeat' split) <;> (first | (simp [apply_ite State.ev, apply_ite EventUnit.clock]; done) | rfl)

@[simp] theorem ownSeqInsert_pending (body : List Byte) (s : State) : (ownSeqInsert body s).state.pending = s.pending := by
  unfold ownSeqInsert; try dsimp only
  (repeat' split) <;> (first | (simp [apply_ite State.pending]; done) | rfl)
@[simp] theorem ownSeqInsert_pf (body : List Byte) (s : State) : (ownSeqInsert body s).state.pf = s.pf := by
  unfold ownSeqInsert; try dsimp only
  (repeat' split) <;> (first | (simp [apply_ite State.pf]; done) | rfl)
@[simp] theorem ownSeqInsert_ev_clock (body : List Byte) (s : State) : (ownSeqInsert body s).state.ev.clock = s.ev.clock := by
  unfold ownSeqInsert; try dsimp only
  (repeat' split) <;> (first | (simp [apply_ite State.ev, apply_ite EventUnit.clock]; done) | rfl)

@[simp] theorem State.removeItem_pending (s : State) (id : Nat) : (State.removeItem s id).pending = s.pending := by
  unfold State.removeItem; try dsimp only
  (repeat' split) <;> (first | (simp [apply_ite State.pending]; done) | rfl)
@[simp] theorem State.removeItem_pf (s : State) (id : Nat) : (State.removeItem s id).pf = s.pf := by
  unfold State.removeItem; try dsimp only
  (repeat' split) <;> (first | (simp [apply_ite State.pf]; done) | rfl)
@[simp] theorem State.removeItem_ev_clock (s : State) (id : Nat) : (State.removeItem s id).ev.clock = s.ev.clock := by
  unfold State.removeItem; try dsimp only
  (repeat' split) <;> (first | (simp [apply_ite State.ev, apply_ite EventUnit.clock]; done) | rfl)

@[simp] theorem ownSeqRemove_pending (body : List Byte) (s : State) : (ownSeqRemove body s).state.pending = s.pending := by
  unfold ownSeqRemove; try dsimp only
  (repeat' split) <;> (first | (simp [apply_ite State.pending]; done) | rfl)
@[simp] theorem ownSeqRemove_pf (body : List Byte) (s : State) : (ownSeqRemove body s).state.pf = s.pf := by
  unfold ownSeqRemove; try dsimp only
  (repeat' split) <;> (first | (simp [apply_ite State.pf]; done) | rfl)
@[simp] theorem ownSeqRemove_ev_clock (body : List Byte) (s : State) : (ownSeqRemove body s).state.ev.clock = s.ev.clock := by
  unfold ownSeqRemove; try dsimp only
  (repeat' split) <;> (first | (simp [apply_ite State.ev, apply_ite EventUnit.clock]; done) | rfl)

@[simp] theorem ownSeqReady_pending (body : List Byte) (s : State) : (ownSeqReady body s).state.pending = s.pending := by
  unfold ownSeqReady; try dsimp only
  (repeat' split) <;> (first | (simp [apply_ite State.pending]; done) | rfl)
@[simp] theorem ownSeqReady_pf (body : List Byte) (s : State) : (ownSeqReady body s).state.pf = s.pf := by
  unfold ownSeqReady; try dsimp only
  (repeat' split) <;> (first | (simp [apply_ite State.pf]; done) | rfl)
@[simp] theorem ownSeqReady_ev_clock (body : List Byte) (s : State) : (ownSeqReady body s).state.ev.clock = s.ev.clock := by
  unfold ownSeqReady; try dsimp only
  (repeat' split) <;> (first | (simp [apply_ite State.ev, apply_ite EventUnit.clock]; done) | rfl)

@[simp] theorem State.startSequence_pending (s : State) : (State.startSequence s).pending = s.pending := by
  unfold State.startSequence; try dsimp only
  (repeat' split) <;> (first | (simp [apply_ite State.pending]; done) | rfl)
@[simp] theorem State.startSequence_pf (s : State) : (State.startSequence s).pf = s.pf := by
  unfold State.startSequence; try dsimp only
  (repeat' split) <;> (first | (simp [apply_ite State.pf]; done) | rfl)
@[simp] theorem State.startSequence_ev_clock (s : State) : (State.startSequence s).ev.clock = s.ev.clock := by
  unfold State.startSequence; try dsimp only
  (repeat' split) <;> (first | (simp [apply_ite State.ev, apply_ite EventUnit.clock]; done) | rfl)

@[simp] theorem ownSeqStart_pending (_body : List Byte) (s : State) : (ownSeqStart _body s).state.pending = s.pending := by
  unfold ownSeqStart; try dsimp only
  (repeat' split) <;> (first | (simp [apply_ite State.pending]; done) | rfl)
@[simp] theorem ownSeqStart_pf (_body : List Byte) (s : State) : (ownSeqStart _body s).state.pf = s.pf := by
  unfold ownSeqStart; try dsimp only
  (repeat' split) <;> (first | (simp [apply_ite State.pf]; done) | rfl)
@[simp] theorem ownSeqStart_ev_clock (_body : List Byte) (s : State) : (ownSeqStart _body s).state.ev.clock = s.ev.clock := by
  unfold ownSeqStart; try dsimp only
  (repeat' split) <;> (first | (simp [apply_ite State.ev, apply_ite EventUnit.clock]; done) | rfl)

@[simp] theorem ownSeqStop_pending (_body : List Byte) (s : State) : (ownSeqStop _body s).state.pending = s.pending := by
  unfold ownSeqStop; try dsimp only
  (repeat' split) <;> (first | (simp [apply_ite State.pending]; done) | rfl)
@[simp] theorem ownSeqStop_pf (_body : List Byte) (s : State) : (ownSeqStop _body s).state.pf = s.pf := by
  unfold ownSeqStop; try dsimp only
  (repeat' split) <;> (first | (simp [apply_ite State.pf]; done) | rfl)
@[simp] theorem ownSeqStop_ev_clock (_body : List Byte) (s : State) : (ownSeqStop _body s).state.ev.clock = s.ev.clock := by
  unfold ownSeqStop; try dsimp only
  (repeat' split) <;> (first | (simp [apply_ite State.ev, apply_ite EventUnit.clock]; done) | rfl)

@[simp] theorem State.skipPlaying_pending (s : State) (d : DeckId) (h : Item) (rest : List Item) : (State.skipPlaying s d h rest).pending = s.pending := by
  unfold State.skipPlaying; try dsimp only
  (repeat' split) <;> (first | (simp [apply_ite State.pending]; done) | rfl)
@[simp] theorem State.skipPlaying_pf (s : State) (d : DeckId) (h : Item) (rest : List Item) : (State.skipPlaying s d h rest).pf = s.pf := by
  unfold State.skipPlaying; try dsimp only
  (repeat' split) <;> (first | (simp [apply_ite State.pf]; done) | rfl)
@[simp] theorem State.skipPlaying_ev_clock (s : State) (d : DeckId) (h : Item) (rest : List Item) : (State.skipPlaying s d h rest).ev.clock = s.ev.clock := by
  unfold State.skipPlaying; try dsimp only
  (repeat' split) <;> (first | (simp [apply_ite State.ev, apply_ite EventUnit.clock]; done) | rfl)

@[simp] theorem State.skipWaiting_pending (s : State) (h : Item) : (State.skipWaiting s h).pending = s.pending := by
  unfold State.skipWaiting; try dsimp only
  (repeat' split) <;> (first | (simp [apply_ite State.pending]; done) | rfl)
@[simp] theorem State.skipWaiting_pf (s : State) (h : Item) : (State.skipWaiting s h).pf = s.pf := by
  unfold State.skipWaiting; try dsimp only
  (repeat' split) <;> (first | (simp [apply_ite State.pf]; done) | rfl)
@[simp] theorem State.skipWaiting_ev_clock (s : State) (h : Item) : (State.skipWaiting s h).ev.clock = s.ev.clock := by
  unfold State.skipWaiting; try dsimp only
  (repeat' split) <;> (first | (simp [apply_ite State.ev, apply_ite EventUnit.clock]; done) | rfl)

@[simp] theorem ownSeqSkip_pending (_body : List Byte) (s : State) : (ownSeqSkip _body s).state.pending = s.pending := by
  unfold ownSeqSkip; try dsimp only
  (repeat' split) <;> (first | (simp [apply_ite State.pending]; done) | rfl)
@[simp] theorem ownSeqSkip_pf (_body : List Byte) (s : State) : (ownSeqSkip _body s).state.pf = s.pf := by
  unfold ownSeqSkip; try dsimp only
  (repeat' split) <;> (first | (simp [apply_ite State.pf]; done) | rfl)
@[simp] theorem ownSeqSkip_ev_clock (_body : List Byte) (s : State) : (ownSeqSkip _body s).state.ev.clock = s.ev.clock := by
  unfold ownSeqSkip; try dsimp only
  (repeat' split) <;> (first | (simp [apply_ite State.ev, apply_ite EventUnit.clock]; done) | rfl)

@[simp] theorem State.continueSequence_pending (s : State) : (State.continueSequence s).pending = s.pending := by
  unfold State.continueSequence; try dsimp only
  (repeat' split) <;> (first | (simp [apply_ite State.pending]; done) | rfl)
@[simp] theorem State.continueSequence_pf (s : State) : (State.continueSequence s).pf = s.pf := by
  unfold State.continueSequence; try dsimp only
  (repeat' split) <;> (first | (simp [apply_ite State.pf]; done) | rfl)
@[simp] theorem State.continueSequence_ev_clock (s : State) : (State.continueSequence s).ev.clock = s.ev.clock := by
  unfold State.continueSequence; try dsimp only
  (repeat' split) <;> (first | (simp [apply_ite State.ev, apply_ite EventUnit.clock]; done) | rfl)

@[simp] theorem ownSeqContinue_pending (_body : List Byte) (s : State) : (ownSeqContinue _body s).state.pending = s.pending := by
  unfold ownSeqContinue; try dsimp only
  (repeat' split) <;> (first | (simp [apply_ite State.pending]; done) | rfl)
@[simp] theorem ownSeqContinue_pf (_body : List Byte) (s : State) : (ownSeqContinue _body s).state.pf = s.pf := by
  unfold ownSeqContinue; try dsimp only
  (repeat' split) <;> (first | (simp [apply_ite State.pf]; done) | rfl)
@[simp] theorem ownSeqContinue_ev_clock (_body : List Byte) (s : State) : (ownSeqContinue _body s).state.ev.clock = s.ev.clock := by
  unfold ownSeqContinue; try dsimp only
  (repeat' split) <;> (first | (simp [apply_ite State.ev, apply_ite EventUnit.clock]; done) | rfl)

@[simp] theorem ownDoneRead_pending (_body : List Byte) (s : State) : (ownDoneRead _body s).state.pending = s.pending := by
  unfold ownDoneRead; try dsimp only
  (repeat' split) <;> (first | (simp [apply_ite State.pending]; done) | rfl)
@[simp] theorem ownDoneRead_ev (_body : List Byte) (s : State) : (ownDoneRead _body s).state.ev = s.ev := by
  unfold ownDoneRead; try dsimp only
  (repeat' split) <;> (first | (simp [apply_ite State.ev]; done) | rfl)
@[simp] theorem ownDoneRead_pf (_body : List Byte) (s : State) : (ownDoneRead _body s).state.pf = s.pf := by
  unfold ownDoneRead; try dsimp only
  (repeat' split) <;> (first | (simp [apply_ite State.pf]; done) | rfl)

@[simp] theorem ownSourceGain_pending (l : LaneId) (body : List Byte) (s : State) : (ownSourceGain l body s).state.pending = s.pending := by
  unfold ownSourceGain; try dsimp only
  (repeat' split) <;> (first | (simp [apply_ite State.pending]; done) | rfl)
@[simp] theorem ownSourceGain_ev (l : LaneId) (body : List Byte) (s : State) : (ownSourceGain l body s).state.ev = s.ev := by
  unfold ownSourceGain; try dsimp only
  (repeat' split) <;> (first | (simp [apply_ite State.ev]; done) | rfl)
@[simp] theorem ownSourceGain_pf (l : LaneId) (body : List Byte) (s : State) : (ownSourceGain l body s).state.pf = s.pf := by
  unfold ownSourceGain; try dsimp only
  (repeat' split) <;> (first | (simp [apply_ite State.pf]; done) | rfl)

@[simp] theorem ownSourceOn_pending (l : LaneId) (body : List Byte) (s : State) : (ownSourceOn l body s).state.pending = s.pending := by
  unfold ownSourceOn; try dsimp only
  (repeat' split) <;> (first | (simp [apply_ite State.pending]; done) | rfl)
@[simp] theorem ownSourceOn_ev (l : LaneId) (body : List Byte) (s : State) : (ownSourceOn l body s).state.ev = s.ev := by
  unfold ownSourceOn; try dsimp only
  (repeat' split) <;> (first | (simp [apply_ite State.ev]; done) | rfl)
@[simp] theorem ownSourceOn_pf (l : LaneId) (body : List Byte) (s : State) : (ownSourceOn l body s).state.pf = s.pf := by
  unfold ownSourceOn; try dsimp only
  (repeat' split) <;> (first | (simp [apply_ite State.pf]; done) | rfl)

@[simp] theorem ownSourceOff_pending (l : LaneId) (body : List Byte) (s : State) : (ownSourceOff l body s).state.pending = s.pending := by
  unfold ownSourceOff; try dsimp only
  (repeat' split) <;> (first | (simp [apply_ite State.pending]; done) | rfl)
@[simp] theorem ownSourceOff_ev (l : LaneId) (body : List Byte) (s : State) : (ownSourceOff l body s).state.ev = s.ev := by
  unfold ownSourceOff; try dsimp only
  (repeat' split) <;> (first | (simp [apply_ite State.ev]; done) | rfl)
@[simp] theorem ownSourceOff_pf (l : LaneId) (body : List Byte) (s : State) : (ownSourceOff l body s).state.pf = s.pf := by
  unfold ownSourceOff; try dsimp only
  (repeat' split) <;> (first | (simp [apply_ite State.pf]; done) | rfl)

@[simp] theorem ownSourceTake_pending (body : List Byte) (s : State) : (ownSourceTake body s).state.pending = s.pending := by
  unfold ownSourceTake; try dsimp only
  (repeat' split) <;> (first | (simp [apply_ite State.pending]; done) | rfl)
@[simp] theorem ownSourceTake_ev (body : List Byte) (s : State) : (ownSourceTake body s).state.ev = s.ev := by
  unfold ownSourceTake; try dsimp only
  (repeat' split) <;> (first | (simp [apply_ite State.ev]; done) | rfl)
@[simp] theorem ownSourceTake_pf (body : List Byte) (s : State) : (ownSourceTake body s).state.pf = s.pf := by
  unfold ownSourceTake; try dsimp only
  (repeat' split) <;> (first | (simp [apply_ite State.pf]; done) | rfl)

@[simp] theorem ownSourceRelease_pending (body : List Byte) (s : State) : (ownSourceRelease body s).state.pending = s.pending := by
  unfold ownSourceRelease; try dsimp only
  (repeat' split) <;> (first | (simp [apply_ite State.pending]; done) | rfl)
@[simp] theorem ownSourceRelease_ev (body : List Byte) (s : State) : (ownSourceRelease body s).state.ev = s.ev := by
  unfold ownSourceRelease; try dsimp only
  (repeat' split) <;> (first | (simp [apply_ite State.ev]; done) | rfl)
@[simp] theorem ownSourceRelease_pf (body : List Byte) (s : State) : (ownSourceRelease body s).state.pf = s.pf := by
  unfold ownSourceRelease; try dsimp only
  (repeat' split) <;> (first | (simp [apply_ite State.pf]; done) | rfl)

@[simp] theorem ownBreakIn_pending (_body : List Byte) (s : State) : (ownBreakIn _body s).state.pending = s.pending := by
  unfold ownBreakIn; try dsimp only
  (repeat' split) <;> (first | (simp [apply_ite State.pending]; done) | rfl)
@[simp] theorem ownBreakIn_pf (_body : List Byte) (s : State) : (ownBreakIn _body s).state.pf = s.pf := by
  unfold ownBreakIn; try dsimp only
  (repeat' split) <;> (first | (simp [apply_ite State.pf]; done) | rfl)
@[simp] theorem ownBreakIn_ev_clock (_body : List Byte) (s : State) : (ownBreakIn _body s).state.ev.clock = s.ev.clock := by
  unfold ownBreakIn; try dsimp only
  (repeat' split) <;> (first | (simp [apply_ite State.ev, apply_ite EventUnit.clock]; done) | rfl)

@[simp] theorem ownResume_pending (l : LaneId) (body : List Byte) (s : State) : (ownResume l body s).state.pending = s.pending := by
  unfold ownResume; try dsimp only
  (repeat' split) <;> (first | (simp [apply_ite State.pending]; done) | rfl)
@[simp] theorem ownResume_pf (l : LaneId) (body : List Byte) (s : State) : (ownResume l body s).state.pf = s.pf := by
  unfold ownResume; try dsimp only
  (repeat' split) <;> (first | (simp [apply_ite State.pf]; done) | rfl)
@[simp] theorem ownResume_ev_clock (l : LaneId) (body : List Byte) (s : State) : (ownResume l body s).state.ev.clock = s.ev.clock := by
  unfold ownResume; try dsimp only
  (repeat' split) <;> (first | (simp [apply_ite State.ev, apply_ite EventUnit.clock]; done) | rfl)

@[simp] theorem ownLineAnswer_pending (n : LineId) (s : State) : (ownLineAnswer n s).state.pending = s.pending := by
  unfold ownLineAnswer; try dsimp only
  (repeat' split) <;> (first | (simp [apply_ite State.pending]; done) | rfl)
@[simp] theorem ownLineAnswer_ev (n : LineId) (s : State) : (ownLineAnswer n s).state.ev = s.ev := by
  unfold ownLineAnswer; try dsimp only
  (repeat' split) <;> (first | (simp [apply_ite State.ev]; done) | rfl)
@[simp] theorem ownLineAnswer_pf (n : LineId) (s : State) : (ownLineAnswer n s).state.pf = s.pf := by
  unfold ownLineAnswer; try dsimp only
  (repeat' split) <;> (first | (simp [apply_ite State.pf]; done) | rfl)

@[simp] theorem ownLineScreen_pending (n : LineId) (s : State) : (ownLineScreen n s).state.pending = s.pending := by
  unfold ownLineScreen; try dsimp only
  (repeat' split) <;> (first | (simp [apply_ite State.pending]; done) | rfl)
@[simp] theorem ownLineScreen_pf (n : LineId) (s : State) : (ownLineScreen n s).state.pf = s.pf := by
  unfold ownLineScreen; try dsimp only
  (repeat' split) <;> (first | (simp [apply_ite State.pf]; done) | rfl)
@[simp] theorem ownLineScreen_ev_clock (n : LineId) (s : State) : (ownLineScreen n s).state.ev.clock = s.ev.clock := by
  unfold ownLineScreen; try dsimp only
  (repeat' split) <;> (first | (simp [apply_ite State.ev, apply_ite EventUnit.clock]; done) | rfl)

@[simp] theorem ownLineHold_pending (n : LineId) (s : State) : (ownLineHold n s).state.pending = s.pending := by
  unfold ownLineHold; try dsimp only
  (repeat' split) <;> (first | (simp [apply_ite State.pending]; done) | rfl)
@[simp] theorem ownLineHold_ev (n : LineId) (s : State) : (ownLineHold n s).state.ev = s.ev := by
  unfold ownLineHold; try dsimp only
  (repeat' split) <;> (first | (simp [apply_ite State.ev]; done) | rfl)
@[simp] theorem ownLineHold_pf (n : LineId) (s : State) : (ownLineHold n s).state.pf = s.pf := by
  unfold ownLineHold; try dsimp only
  (repeat' split) <;> (first | (simp [apply_ite State.pf]; done) | rfl)

@[simp] theorem ownLineReady_pending (front : Bool) (n : LineId) (s : State) : (ownLineReady front n s).state.pending = s.pending := by
  unfold ownLineReady; try dsimp only
  (repeat' split) <;> (first | (simp [apply_ite State.pending]; done) | rfl)
@[simp] theorem ownLineReady_pf (front : Bool) (n : LineId) (s : State) : (ownLineReady front n s).state.pf = s.pf := by
  unfold ownLineReady; try dsimp only
  (repeat' split) <;> (first | (simp [apply_ite State.pf]; done) | rfl)
@[simp] theorem ownLineReady_ev_clock (front : Bool) (n : LineId) (s : State) : (ownLineReady front n s).state.ev.clock = s.ev.clock := by
  unfold ownLineReady; try dsimp only
  (repeat' split) <;> (first | (simp [apply_ite State.ev, apply_ite EventUnit.clock]; done) | rfl)

@[simp] theorem State.putOnAir_pending (s : State) (n : LineId) : (State.putOnAir s n).pending = s.pending := by
  unfold State.putOnAir; try dsimp only
  (repeat' split) <;> (first | (simp [apply_ite State.pending]; done) | rfl)
@[simp] theorem State.putOnAir_pf (s : State) (n : LineId) : (State.putOnAir s n).pf = s.pf := by
  unfold State.putOnAir; try dsimp only
  (repeat' split) <;> (first | (simp [apply_ite State.pf]; done) | rfl)
@[simp] theorem State.putOnAir_ev_clock (s : State) (n : LineId) : (State.putOnAir s n).ev.clock = s.ev.clock := by
  unfold State.putOnAir; try dsimp only
  (repeat' split) <;> (first | (simp [apply_ite State.ev, apply_ite EventUnit.clock]; done) | rfl)

@[simp] theorem ownLineAir_pending (body : List Byte) (s : State) : (ownLineAir body s).state.pending = s.pending := by
  unfold ownLineAir; try dsimp only
  (repeat' split) <;> (first | (simp [apply_ite State.pending]; done) | rfl)
@[simp] theorem ownLineAir_pf (body : List Byte) (s : State) : (ownLineAir body s).state.pf = s.pf := by
  unfold ownLineAir; try dsimp only
  (repeat' split) <;> (first | (simp [apply_ite State.pf]; done) | rfl)
@[simp] theorem ownLineAir_ev_clock (body : List Byte) (s : State) : (ownLineAir body s).state.ev.clock = s.ev.clock := by
  unfold ownLineAir; try dsimp only
  (repeat' split) <;> (first | (simp [apply_ite State.ev, apply_ite EventUnit.clock]; done) | rfl)

@[simp] theorem ownLineDrop_pending (n : LineId) (s : State) : (ownLineDrop n s).state.pending = s.pending := by
  unfold ownLineDrop; try dsimp only
  (repeat' split) <;> (first | (simp [apply_ite State.pending]; done) | rfl)
@[simp] theorem ownLineDrop_pf (n : LineId) (s : State) : (ownLineDrop n s).state.pf = s.pf := by
  unfold ownLineDrop; try dsimp only
  (repeat' split) <;> (first | (simp [apply_ite State.pf]; done) | rfl)
@[simp] theorem ownLineDrop_ev_clock (n : LineId) (s : State) : (ownLineDrop n s).state.ev.clock = s.ev.clock := by
  unfold ownLineDrop; try dsimp only
  (repeat' split) <;> (first | (simp [apply_ite State.ev, apply_ite EventUnit.clock]; done) | rfl)

@[simp] theorem ownDelayTarget_pending (body : List Byte) (s : State) : (ownDelayTarget body s).state.pending = s.pending := by
  unfold ownDelayTarget; try dsimp only
  (repeat' split) <;> (first | (simp [apply_ite State.pending]; done) | rfl)
@[simp] theorem ownDelayTarget_ev (body : List Byte) (s : State) : (ownDelayTarget body s).state.ev = s.ev := by
  unfold ownDelayTarget; try dsimp only
  (repeat' split) <;> (first | (simp [apply_ite State.ev]; done) | rfl)
@[simp] theorem ownDelayTarget_pf (body : List Byte) (s : State) : (ownDelayTarget body s).state.pf = s.pf := by
  unfold ownDelayTarget; try dsimp only
  (repeat' split) <;> (first | (simp [apply_ite State.pf]; done) | rfl)

@[simp] theorem ownDelayDump_pending (_body : List Byte) (s : State) : (ownDelayDump _body s).state.pending = s.pending := by
  unfold ownDelayDump; try dsimp only
  (repeat' split) <;> (first | (simp [apply_ite State.pending]; done) | rfl)
@[simp] theorem ownDelayDump_pf (_body : List Byte) (s : State) : (ownDelayDump _body s).state.pf = s.pf := by
  unfold ownDelayDump; try dsimp only
  (repeat' split) <;> (first | (simp [apply_ite State.pf]; done) | rfl)
@[simp] theorem ownDelayDump_ev_clock (_body : List Byte) (s : State) : (ownDelayDump _body s).state.ev.clock = s.ev.clock := by
  unfold ownDelayDump; try dsimp only
  (repeat' split) <;> (first | (simp [apply_ite State.ev, apply_ite EventUnit.clock]; done) | rfl)

@[simp] theorem ownAlertNotice_pending (body : List Byte) (s : State) : (ownAlertNotice body s).state.pending = s.pending := by
  unfold ownAlertNotice; try dsimp only
  (repeat' split) <;> (first | (simp [apply_ite State.pending]; done) | rfl)
@[simp] theorem ownAlertNotice_pf (body : List Byte) (s : State) : (ownAlertNotice body s).state.pf = s.pf := by
  unfold ownAlertNotice; try dsimp only
  (repeat' split) <;> (first | (simp [apply_ite State.pf]; done) | rfl)
@[simp] theorem ownAlertNotice_ev_clock (body : List Byte) (s : State) : (ownAlertNotice body s).state.ev.clock = s.ev.clock := by
  unfold ownAlertNotice; try dsimp only
  (repeat' split) <;> (first | (simp [apply_ite State.ev, apply_ite EventUnit.clock]; done) | rfl)

@[simp] theorem State.audioEnd_pending (s : State) (id : Nat) : (State.audioEnd s id).state.pending = s.pending := by
  unfold State.audioEnd; try dsimp only
  (repeat' split) <;> (first | (simp [apply_ite State.pending]; done) | rfl)
@[simp] theorem State.audioEnd_ev (s : State) (id : Nat) : (State.audioEnd s id).state.ev = s.ev := by
  unfold State.audioEnd; try dsimp only
  (repeat' split) <;> (first | (simp [apply_ite State.ev]; done) | rfl)
@[simp] theorem State.audioEnd_pf (s : State) (id : Nat) : (State.audioEnd s id).state.pf = s.pf := by
  unfold State.audioEnd; try dsimp only
  (repeat' split) <;> (first | (simp [apply_ite State.pf]; done) | rfl)

@[simp] theorem ownAlertAudioEnd_pending (body : List Byte) (s : State) : (ownAlertAudioEnd body s).state.pending = s.pending := by
  unfold ownAlertAudioEnd; try dsimp only
  (repeat' split) <;> (first | (simp [apply_ite State.pending]; done) | rfl)
@[simp] theorem ownAlertAudioEnd_ev (body : List Byte) (s : State) : (ownAlertAudioEnd body s).state.ev = s.ev := by
  unfold ownAlertAudioEnd; try dsimp only
  (repeat' split) <;> (first | (simp [apply_ite State.ev]; done) | rfl)
@[simp] theorem ownAlertAudioEnd_pf (body : List Byte) (s : State) : (ownAlertAudioEnd body s).state.pf = s.pf := by
  unfold ownAlertAudioEnd; try dsimp only
  (repeat' split) <;> (first | (simp [apply_ite State.pf]; done) | rfl)

@[simp] theorem State.cancelOnAir_pending (s : State) (o : OnAirAlert) : (State.cancelOnAir s o).pending = s.pending := by
  unfold State.cancelOnAir; try dsimp only
  (repeat' split) <;> (first | (simp [apply_ite State.pending]; done) | rfl)
@[simp] theorem State.cancelOnAir_ev (s : State) (o : OnAirAlert) : (State.cancelOnAir s o).ev = s.ev := by
  unfold State.cancelOnAir; try dsimp only
  (repeat' split) <;> (first | (simp [apply_ite State.ev]; done) | rfl)
@[simp] theorem State.cancelOnAir_pf (s : State) (o : OnAirAlert) : (State.cancelOnAir s o).pf = s.pf := by
  unfold State.cancelOnAir; try dsimp only
  (repeat' split) <;> (first | (simp [apply_ite State.pf]; done) | rfl)

@[simp] theorem State.cancelPending_pending (s : State) (p : PendingAlert) : (State.cancelPending s p).pending = s.pending := by
  unfold State.cancelPending; try dsimp only
  (repeat' split) <;> (first | (simp [apply_ite State.pending]; done) | rfl)
@[simp] theorem State.cancelPending_pf (s : State) (p : PendingAlert) : (State.cancelPending s p).pf = s.pf := by
  unfold State.cancelPending; try dsimp only
  (repeat' split) <;> (first | (simp [apply_ite State.pf]; done) | rfl)
@[simp] theorem State.cancelPending_ev_clock (s : State) (p : PendingAlert) : (State.cancelPending s p).ev.clock = s.ev.clock := by
  unfold State.cancelPending; try dsimp only
  (repeat' split) <;> (first | (simp [apply_ite State.ev, apply_ite EventUnit.clock]; done) | rfl)

@[simp] theorem State.cancel_pending (s : State) (id : Nat) : (State.cancel s id).state.pending = s.pending := by
  unfold State.cancel; try dsimp only
  (repeat' split) <;> (first | (simp [apply_ite State.pending]; done) | rfl)
@[simp] theorem State.cancel_pf (s : State) (id : Nat) : (State.cancel s id).state.pf = s.pf := by
  unfold State.cancel; try dsimp only
  (repeat' split) <;> (first | (simp [apply_ite State.pf]; done) | rfl)
@[simp] theorem State.cancel_ev_clock (s : State) (id : Nat) : (State.cancel s id).state.ev.clock = s.ev.clock := by
  unfold State.cancel; try dsimp only
  (repeat' split) <;> (first | (simp [apply_ite State.ev, apply_ite EventUnit.clock]; done) | rfl)

@[simp] theorem ownAlertCancel_pending (body : List Byte) (s : State) : (ownAlertCancel body s).state.pending = s.pending := by
  unfold ownAlertCancel; try dsimp only
  (repeat' split) <;> (first | (simp [apply_ite State.pending]; done) | rfl)
@[simp] theorem ownAlertCancel_pf (body : List Byte) (s : State) : (ownAlertCancel body s).state.pf = s.pf := by
  unfold ownAlertCancel; try dsimp only
  (repeat' split) <;> (first | (simp [apply_ite State.pf]; done) | rfl)
@[simp] theorem ownAlertCancel_ev_clock (body : List Byte) (s : State) : (ownAlertCancel body s).state.ev.clock = s.ev.clock := by
  unfold ownAlertCancel; try dsimp only
  (repeat' split) <;> (first | (simp [apply_ite State.ev, apply_ite EventUnit.clock]; done) | rfl)

@[simp] theorem ownAlertRearm_pending (_body : List Byte) (s : State) : (ownAlertRearm _body s).state.pending = s.pending := by
  unfold ownAlertRearm; try dsimp only
  (repeat' split) <;> (first | (simp [apply_ite State.pending]; done) | rfl)
@[simp] theorem ownAlertRearm_pf (_body : List Byte) (s : State) : (ownAlertRearm _body s).state.pf = s.pf := by
  unfold ownAlertRearm; try dsimp only
  (repeat' split) <;> (first | (simp [apply_ite State.pf]; done) | rfl)
@[simp] theorem ownAlertRearm_ev_clock (_body : List Byte) (s : State) : (ownAlertRearm _body s).state.ev.clock = s.ev.clock := by
  unfold ownAlertRearm; try dsimp only
  (repeat' split) <;> (first | (simp [apply_ite State.ev, apply_ite EventUnit.clock]; done) | rfl)

@[simp] theorem ownLogRead_pending (body : List Byte) (s : State) : (ownLogRead body s).state.pending = s.pending := by
  unfold ownLogRead; try dsimp only
  (repeat' split) <;> (first | (simp [apply_ite State.pending]; done) | rfl)
@[simp] theorem ownLogRead_ev (body : List Byte) (s : State) : (ownLogRead body s).state.ev = s.ev := by
  unfold ownLogRead; try dsimp only
  (repeat' split) <;> (first | (simp [apply_ite State.ev]; done) | rfl)
@[simp] theorem ownLogRead_pf (body : List Byte) (s : State) : (ownLogRead body s).state.pf = s.pf := by
  unfold ownLogRead; try dsimp only
  (repeat' split) <;> (first | (simp [apply_ite State.pf]; done) | rfl)

@[simp] theorem ownSignOn_pending (l : LaneId) (_body : List Byte) (s : State) : (ownSignOn l _body s).state.pending = s.pending := by
  unfold ownSignOn; try dsimp only
  (repeat' split) <;> (first | (simp [apply_ite State.pending]; done) | rfl)
@[simp] theorem ownSignOn_pf (l : LaneId) (_body : List Byte) (s : State) : (ownSignOn l _body s).state.pf = s.pf := by
  unfold ownSignOn; try dsimp only
  (repeat' split) <;> (first | (simp [apply_ite State.pf]; done) | rfl)
@[simp] theorem ownSignOn_ev_clock (l : LaneId) (_body : List Byte) (s : State) : (ownSignOn l _body s).state.ev.clock = s.ev.clock := by
  unfold ownSignOn; try dsimp only
  (repeat' split) <;> (first | (simp [apply_ite State.ev, apply_ite EventUnit.clock]; done) | rfl)

@[simp] theorem ownSignOff_pending (_body : List Byte) (s : State) : (ownSignOff _body s).state.pending = s.pending := by
  unfold ownSignOff; try dsimp only
  (repeat' split) <;> (first | (simp [apply_ite State.pending]; done) | rfl)
@[simp] theorem ownSignOff_pf (_body : List Byte) (s : State) : (ownSignOff _body s).state.pf = s.pf := by
  unfold ownSignOff; try dsimp only
  (repeat' split) <;> (first | (simp [apply_ite State.pf]; done) | rfl)
@[simp] theorem ownSignOff_ev_clock (_body : List Byte) (s : State) : (ownSignOff _body s).state.ev.clock = s.ev.clock := by
  unfold ownSignOff; try dsimp only
  (repeat' split) <;> (first | (simp [apply_ite State.ev, apply_ite EventUnit.clock]; done) | rfl)

@[simp] theorem ownWakeEnable_pending (body : List Byte) (s : State) : (ownWakeEnable body s).state.pending = s.pending := by
  unfold ownWakeEnable; try dsimp only
  (repeat' split) <;> (first | (simp [apply_ite State.pending]; done) | rfl)
@[simp] theorem ownWakeEnable_ev_clock (body : List Byte) (s : State) : (ownWakeEnable body s).state.ev.clock = s.ev.clock := by
  unfold ownWakeEnable; try dsimp only
  (repeat' split) <;> (first | (simp [apply_ite State.ev, apply_ite EventUnit.clock]; done) | rfl)

@[simp] theorem State.selectTransmitter_pending (s : State) (t : Transmitter) : (State.selectTransmitter s t).pending = s.pending := by
  unfold State.selectTransmitter; try dsimp only
  (repeat' split) <;> (first | (simp [apply_ite State.pending]; done) | rfl)
@[simp] theorem State.selectTransmitter_pf (s : State) (t : Transmitter) : (State.selectTransmitter s t).pf = s.pf := by
  unfold State.selectTransmitter; try dsimp only
  (repeat' split) <;> (first | (simp [apply_ite State.pf]; done) | rfl)
@[simp] theorem State.selectTransmitter_ev_clock (s : State) (t : Transmitter) : (State.selectTransmitter s t).ev.clock = s.ev.clock := by
  unfold State.selectTransmitter; try dsimp only
  (repeat' split) <;> (first | (simp [apply_ite State.ev, apply_ite EventUnit.clock]; done) | rfl)

@[simp] theorem State.txSelect_pending (s : State) (t : Transmitter) : (State.txSelect s t).state.pending = s.pending := by
  unfold State.txSelect; try dsimp only
  (repeat' split) <;> (first | (simp [apply_ite State.pending]; done) | rfl)
@[simp] theorem State.txSelect_pf (s : State) (t : Transmitter) : (State.txSelect s t).state.pf = s.pf := by
  unfold State.txSelect; try dsimp only
  (repeat' split) <;> (first | (simp [apply_ite State.pf]; done) | rfl)
@[simp] theorem State.txSelect_ev_clock (s : State) (t : Transmitter) : (State.txSelect s t).state.ev.clock = s.ev.clock := by
  unfold State.txSelect; try dsimp only
  (repeat' split) <;> (first | (simp [apply_ite State.ev, apply_ite EventUnit.clock]; done) | rfl)

@[simp] theorem ownTxSelect_pending (body : List Byte) (s : State) : (ownTxSelect body s).state.pending = s.pending := by
  unfold ownTxSelect; try dsimp only
  (repeat' split) <;> (first | (simp [apply_ite State.pending]; done) | rfl)
@[simp] theorem ownTxSelect_pf (body : List Byte) (s : State) : (ownTxSelect body s).state.pf = s.pf := by
  unfold ownTxSelect; try dsimp only
  (repeat' split) <;> (first | (simp [apply_ite State.pf]; done) | rfl)
@[simp] theorem ownTxSelect_ev_clock (body : List Byte) (s : State) : (ownTxSelect body s).state.ev.clock = s.ev.clock := by
  unfold ownTxSelect; try dsimp only
  (repeat' split) <;> (first | (simp [apply_ite State.ev, apply_ite EventUnit.clock]; done) | rfl)

@[simp] theorem ownCeilingRestore_pending (_body : List Byte) (s : State) : (ownCeilingRestore _body s).state.pending = s.pending := by
  unfold ownCeilingRestore; try dsimp only
  (repeat' split) <;> (first | (simp [apply_ite State.pending]; done) | rfl)
@[simp] theorem ownCeilingRestore_pf (_body : List Byte) (s : State) : (ownCeilingRestore _body s).state.pf = s.pf := by
  unfold ownCeilingRestore; try dsimp only
  (repeat' split) <;> (first | (simp [apply_ite State.pf]; done) | rfl)
@[simp] theorem ownCeilingRestore_ev_clock (_body : List Byte) (s : State) : (ownCeilingRestore _body s).state.ev.clock = s.ev.clock := by
  unfold ownCeilingRestore; try dsimp only
  (repeat' split) <;> (first | (simp [apply_ite State.ev, apply_ite EventUnit.clock]; done) | rfl)

@[simp] theorem ownStatusRead_pending (body : List Byte) (s : State) : (ownStatusRead body s).state.pending = s.pending := by
  unfold ownStatusRead; try dsimp only
  (repeat' split) <;> (first | (simp [apply_ite State.pending]; done) | rfl)
@[simp] theorem ownStatusRead_ev (body : List Byte) (s : State) : (ownStatusRead body s).state.ev = s.ev := by
  unfold ownStatusRead; try dsimp only
  (repeat' split) <;> (first | (simp [apply_ite State.ev]; done) | rfl)
@[simp] theorem ownStatusRead_pf (body : List Byte) (s : State) : (ownStatusRead body s).state.pf = s.pf := by
  unfold ownStatusRead; try dsimp only
  (repeat' split) <;> (first | (simp [apply_ite State.pf]; done) | rfl)

@[simp] theorem ownEventEnable_pending (l : LaneId) (body : List Byte) (s : State) : (ownEventEnable l body s).state.pending = s.pending := by
  unfold ownEventEnable; try dsimp only
  (repeat' split) <;> (first | (simp [apply_ite State.pending]; done) | rfl)
@[simp] theorem ownEventEnable_pf (l : LaneId) (body : List Byte) (s : State) : (ownEventEnable l body s).state.pf = s.pf := by
  unfold ownEventEnable; try dsimp only
  (repeat' split) <;> (first | (simp [apply_ite State.pf]; done) | rfl)
@[simp] theorem ownEventEnable_ev_clock (l : LaneId) (body : List Byte) (s : State) : (ownEventEnable l body s).state.ev.clock = s.ev.clock := by
  unfold ownEventEnable; try dsimp only
  (repeat' split) <;> (first | (simp [apply_ite State.ev, apply_ite EventUnit.clock]; done) | rfl)

@[simp] theorem ownEventClear_pending (l : LaneId) (body : List Byte) (s : State) : (ownEventClear l body s).state.pending = s.pending := by
  unfold ownEventClear; try dsimp only
  (repeat' split) <;> (first | (simp [apply_ite State.pending]; done) | rfl)
@[simp] theorem ownEventClear_pf (l : LaneId) (body : List Byte) (s : State) : (ownEventClear l body s).state.pf = s.pf := by
  unfold ownEventClear; try dsimp only
  (repeat' split) <;> (first | (simp [apply_ite State.pf]; done) | rfl)
@[simp] theorem ownEventClear_ev_clock (l : LaneId) (body : List Byte) (s : State) : (ownEventClear l body s).state.ev.clock = s.ev.clock := by
  unfold ownEventClear; try dsimp only
  (repeat' split) <;> (first | (simp [apply_ite State.ev, apply_ite EventUnit.clock]; done) | rfl)

@[simp] theorem State.profileRead_state (s : State) (code : Byte) : (s.profileRead code).state = s := by
  unfold State.profileRead; (repeat' split) <;> rfl
@[simp] theorem ownProfileRead_pending (body : List Byte) (s : State) : (ownProfileRead body s).state.pending = s.pending := by
  unfold ownProfileRead; split <;> simp
@[simp] theorem ownProfileRead_ev (body : List Byte) (s : State) : (ownProfileRead body s).state.ev = s.ev := by
  unfold ownProfileRead; split <;> simp
@[simp] theorem ownProfileRead_pf (body : List Byte) (s : State) : (ownProfileRead body s).state.pf = s.pf := by
  unfold ownProfileRead; split <;> simp

/-! ### Requests -/

/-- What a request leaves alone: a part of the state that no lane holds and that its owner keeps. -/
theorem State.transact_keeps {β : Type} (P : State → β) (hl : ∀ s l x, P (s.setLane l x) = P s) (s : State) (l : LaneId)
    (code : Byte) (rest : List Byte) (known allowed : Bool) (need : Nat)
    (own : List Byte → State → State × Option (ReplyCode × List Byte)) (h : ∀ b t, P (own b t).1 = P t) :
    P (s.transact l code rest known allowed need own) = P s := by
  have hh : ∀ s l bytes, P (State.heard s l bytes) = P s := fun s l bytes => by
    unfold State.heard
    (repeat' split) <;> first | exact hl _ _ _ | rfl
  unfold State.transact
  dsimp only
  split
  · exact hh _ _ _
  split
  · rw [hl]; exact hh _ _ _
  split
  · unfold State.place; rw [hl]; exact hh _ _ _
  next body _ =>
    split
    · unfold State.place; rw [hl]; exact hh _ _ _
    split
    · unfold State.place; rw [hl]; exact hh _ _ _
    split
    · unfold State.place; rw [hl]; exact hh _ _ _
    have hb := h body (s.heard l (code :: rest))
    split <;> rename_i he <;> rw [he] at hb
    · unfold State.place; rw [hl]; exact hb.trans (hh _ _ _)
    · exact hb.trans (hh _ _ _)

/-- The same of a request whose owner answers at once. -/
theorem State.request_keeps {β : Type} (P : State → β) (hl : ∀ s l x, P (s.setLane l x) = P s) (s : State) (l : LaneId)
    (code : Byte) (rest : List Byte) (allowed : Bool) (need : Nat) (own : List Byte → State → Answer)
    (h : ∀ b t, P (own b t).state = P t) : P (s.request l code rest allowed need own) = P s :=
  State.transact_keeps P hl s l code rest true allowed need _ h

end Sys2Proof.Machine
end

