-- ==== Sys2Proof/Laws/PerInstr.lean ====
section
/-! SUPPORT. One lemma per constructor: what a command that is a transaction reads back as (R163, R175). -/

namespace Sys2Proof.Laws

/-- A well-formed command that is a transaction is read back from that transaction's bytes, at some level of ENG. -/
def RoundTrip.Statement (i : Instr) : Prop :=
  i.wellFormed = true → ∀ l bytes, encodeTransaction i = some (l, bytes) → ∃ eng, decodeTransaction l eng bytes = i

/-- A command that is no transaction has nothing to read back. -/
theorem RoundTrip.of_none {i : Instr} (h : encodeTransaction i = none) : RoundTrip.Statement i := by
  intro _ l bytes he; rw [h] at he; cases he

/-- A command whose transaction reads back as itself. -/
theorem RoundTrip.of_some {i : Instr} {l : LaneId} {bytes : List Byte} (eng : Bool)
    (h : encodeTransaction i = some (l, bytes)) (hd : decodeTransaction l eng bytes = i) : RoundTrip.Statement i := by
  intro _ l' b' he; rw [h] at he; cases he; exact ⟨eng, hd⟩

theorem RoundTrip.powerOn (rst supply : Bool) : RoundTrip.Statement (.powerOn rst supply) := RoundTrip.of_none rfl
theorem RoundTrip.profileLoadComplete : RoundTrip.Statement .profileLoadComplete := RoundTrip.of_none rfl
theorem RoundTrip.startDelayExpiry : RoundTrip.Statement .startDelayExpiry := RoundTrip.of_none rfl
theorem RoundTrip.globalReset (lane : LaneId) (rest : List Byte) : RoundTrip.Statement (.globalReset lane rest) := RoundTrip.of_some true rfl rfl
theorem RoundTrip.mix (f : InputFrame) : RoundTrip.Statement (.mix f) := RoundTrip.of_none rfl
theorem RoundTrip.releaseRampEnd (src : Source) : RoundTrip.Statement (.releaseRampEnd src) := RoundTrip.of_none rfl
theorem RoundTrip.buildStep (f : InputFrame) : RoundTrip.Statement (.buildStep f) := RoundTrip.of_none rfl
theorem RoundTrip.catchUpStep (f : InputFrame) : RoundTrip.Statement (.catchUpStep f) := RoundTrip.of_none rfl
theorem RoundTrip.fadeOutPoint (d : DeckId) : RoundTrip.Statement (.fadeOutPoint d) := RoundTrip.of_none rfl
theorem RoundTrip.seguePoint : RoundTrip.Statement .seguePoint := RoundTrip.of_none rfl
theorem RoundTrip.itemEnd (d : DeckId) : RoundTrip.Statement (.itemEnd d) := RoundTrip.of_none rfl
theorem RoundTrip.seqAppend (lane : LaneId) (rest : List Byte) : RoundTrip.Statement (.seqAppend lane rest) := RoundTrip.of_some true rfl rfl
theorem RoundTrip.seqInsert (lane : LaneId) (rest : List Byte) : RoundTrip.Statement (.seqInsert lane rest) := RoundTrip.of_some true rfl rfl
theorem RoundTrip.seqRemove (lane : LaneId) (rest : List Byte) : RoundTrip.Statement (.seqRemove lane rest) := RoundTrip.of_some true rfl rfl
theorem RoundTrip.seqReady (lane : LaneId) (rest : List Byte) : RoundTrip.Statement (.seqReady lane rest) := RoundTrip.of_some true rfl rfl
theorem RoundTrip.seqStart (lane : LaneId) (rest : List Byte) : RoundTrip.Statement (.seqStart lane rest) := RoundTrip.of_some true rfl rfl
theorem RoundTrip.seqStop (lane : LaneId) (rest : List Byte) : RoundTrip.Statement (.seqStop lane rest) := RoundTrip.of_some true rfl rfl
theorem RoundTrip.seqSkip (lane : LaneId) (rest : List Byte) : RoundTrip.Statement (.seqSkip lane rest) := RoundTrip.of_some true rfl rfl
theorem RoundTrip.seqContinue (lane : LaneId) (rest : List Byte) : RoundTrip.Statement (.seqContinue lane rest) := RoundTrip.of_some true rfl rfl
theorem RoundTrip.doneRead (lane : LaneId) (rest : List Byte) : RoundTrip.Statement (.doneRead lane rest) := RoundTrip.of_some true rfl rfl
theorem RoundTrip.sourceGain (lane : LaneId) (rest : List Byte) : RoundTrip.Statement (.sourceGain lane rest) := RoundTrip.of_some true rfl rfl
theorem RoundTrip.sourceOn (lane : LaneId) (rest : List Byte) : RoundTrip.Statement (.sourceOn lane rest) := RoundTrip.of_some true rfl rfl
theorem RoundTrip.sourceOff (lane : LaneId) (rest : List Byte) : RoundTrip.Statement (.sourceOff lane rest) := RoundTrip.of_some true rfl rfl
theorem RoundTrip.sourceTake (lane : LaneId) (rest : List Byte) : RoundTrip.Statement (.sourceTake lane rest) := RoundTrip.of_some true rfl rfl
theorem RoundTrip.sourceRelease (lane : LaneId) (rest : List Byte) : RoundTrip.Statement (.sourceRelease lane rest) := RoundTrip.of_some true rfl rfl
theorem RoundTrip.breakIn (lane : LaneId) (rest : List Byte) : RoundTrip.Statement (.breakIn lane rest) := RoundTrip.of_some true rfl rfl
theorem RoundTrip.resume (lane : LaneId) (rest : List Byte) : RoundTrip.Statement (.resume lane rest) := RoundTrip.of_some true rfl rfl
theorem RoundTrip.lineAnswer (lane : LaneId) (rest : List Byte) : RoundTrip.Statement (.lineAnswer lane rest) := RoundTrip.of_some true rfl rfl
theorem RoundTrip.lineScreen (lane : LaneId) (rest : List Byte) : RoundTrip.Statement (.lineScreen lane rest) := RoundTrip.of_some true rfl rfl
theorem RoundTrip.lineHold (lane : LaneId) (rest : List Byte) : RoundTrip.Statement (.lineHold lane rest) := RoundTrip.of_some true rfl rfl
theorem RoundTrip.lineReady (lane : LaneId) (rest : List Byte) : RoundTrip.Statement (.lineReady lane rest) := RoundTrip.of_some true rfl rfl
theorem RoundTrip.lineAir (lane : LaneId) (rest : List Byte) : RoundTrip.Statement (.lineAir lane rest) := RoundTrip.of_some true rfl rfl
theorem RoundTrip.lineDrop (lane : LaneId) (rest : List Byte) : RoundTrip.Statement (.lineDrop lane rest) := RoundTrip.of_some true rfl rfl
theorem RoundTrip.ringFilterArmed (n : LineId) : RoundTrip.Statement (.ringFilterArmed n) := RoundTrip.of_none rfl
theorem RoundTrip.ringBurst (n : LineId) : RoundTrip.Statement (.ringBurst n) := RoundTrip.of_none rfl
theorem RoundTrip.ringExpiry (n : LineId) : RoundTrip.Statement (.ringExpiry n) := RoundTrip.of_none rfl
theorem RoundTrip.loopLoss (n : LineId) : RoundTrip.Statement (.loopLoss n) := RoundTrip.of_none rfl
theorem RoundTrip.holdLong (n : LineId) : RoundTrip.Statement (.holdLong n) := RoundTrip.of_none rfl
theorem RoundTrip.delayTarget (lane : LaneId) (rest : List Byte) : RoundTrip.Statement (.delayTarget lane rest) := RoundTrip.of_some true rfl rfl
theorem RoundTrip.delayDump (lane : LaneId) (rest : List Byte) : RoundTrip.Statement (.delayDump lane rest) := RoundTrip.of_some true rfl rfl
theorem RoundTrip.alertNotice (lane : LaneId) (rest : List Byte) : RoundTrip.Statement (.alertNotice lane rest) := RoundTrip.of_some true rfl rfl
theorem RoundTrip.windowExpiry (id : Nat) : RoundTrip.Statement (.windowExpiry id) := RoundTrip.of_none rfl
theorem RoundTrip.attentionEnd : RoundTrip.Statement .attentionEnd := RoundTrip.of_none rfl
theorem RoundTrip.messageTruncated : RoundTrip.Statement .messageTruncated := RoundTrip.of_none rfl
theorem RoundTrip.alertAudioEnd (lane : LaneId) (rest : List Byte) : RoundTrip.Statement (.alertAudioEnd lane rest) := RoundTrip.of_some true rfl rfl
theorem RoundTrip.alertCancel (lane : LaneId) (rest : List Byte) : RoundTrip.Statement (.alertCancel lane rest) := RoundTrip.of_some true rfl rfl
theorem RoundTrip.alertRearm (lane : LaneId) (rest : List Byte) : RoundTrip.Statement (.alertRearm lane rest) := RoundTrip.of_some true rfl rfl
theorem RoundTrip.alertEnd : RoundTrip.Statement .alertEnd := RoundTrip.of_none rfl
theorem RoundTrip.logRead (lane : LaneId) (rest : List Byte) : RoundTrip.Statement (.logRead lane rest) := RoundTrip.of_some true rfl rfl
theorem RoundTrip.signOn (lane : LaneId) (rest : List Byte) : RoundTrip.Statement (.signOn lane rest) := RoundTrip.of_some true rfl rfl
theorem RoundTrip.signOff (lane : LaneId) (rest : List Byte) : RoundTrip.Statement (.signOff lane rest) := RoundTrip.of_some true rfl rfl
theorem RoundTrip.wakeEnable (lane : LaneId) (rest : List Byte) : RoundTrip.Statement (.wakeEnable lane rest) := RoundTrip.of_some true rfl rfl
theorem RoundTrip.blockJudged : RoundTrip.Statement .blockJudged := RoundTrip.of_none rfl
theorem RoundTrip.frameBoundary : RoundTrip.Statement .frameBoundary := RoundTrip.of_none rfl
theorem RoundTrip.pollTimerExpiry : RoundTrip.Statement .pollTimerExpiry := RoundTrip.of_none rfl
theorem RoundTrip.replyWindowClose : RoundTrip.Statement .replyWindowClose := RoundTrip.of_none rfl
theorem RoundTrip.returnCharacter (w : Waveform) : RoundTrip.Statement (.returnCharacter w) := RoundTrip.of_none rfl
theorem RoundTrip.assemblerTake : RoundTrip.Statement .assemblerTake := RoundTrip.of_none rfl
theorem RoundTrip.txSelect (lane : LaneId) (rest : List Byte) : RoundTrip.Statement (.txSelect lane rest) := RoundTrip.of_some true rfl rfl
theorem RoundTrip.ceilingRestore (lane : LaneId) (rest : List Byte) : RoundTrip.Statement (.ceilingRestore lane rest) := RoundTrip.of_some true rfl rfl
theorem RoundTrip.transactionStart (lane : LaneId) : RoundTrip.Statement (.transactionStart lane) := RoundTrip.of_none rfl
theorem RoundTrip.laneTimeout (lane : LaneId) : RoundTrip.Statement (.laneTimeout lane) := RoundTrip.of_none rfl
theorem RoundTrip.nop (lane : LaneId) (rest : List Byte) : RoundTrip.Statement (.nop lane rest) := RoundTrip.of_some true rfl rfl
theorem RoundTrip.statusRead (lane : LaneId) (rest : List Byte) : RoundTrip.Statement (.statusRead lane rest) := RoundTrip.of_some true rfl rfl
theorem RoundTrip.eventEnable (lane : LaneId) (rest : List Byte) : RoundTrip.Statement (.eventEnable lane rest) := RoundTrip.of_some true rfl rfl
theorem RoundTrip.eventClear (lane : LaneId) (rest : List Byte) : RoundTrip.Statement (.eventClear lane rest) := RoundTrip.of_some true rfl rfl
theorem RoundTrip.clockWrap (f : InputFrame) : RoundTrip.Statement (.clockWrap f) := RoundTrip.of_none rfl
theorem RoundTrip.profileRead (lane : LaneId) (rest : List Byte) : RoundTrip.Statement (.profileRead lane rest) := RoundTrip.of_some true rfl rfl
theorem RoundTrip.profileWrite (lane : LaneId) (eng : Bool) (rest : List Byte) : RoundTrip.Statement (.profileWrite lane eng rest) := RoundTrip.of_some eng rfl rfl
theorem RoundTrip.profileWriteComplete : RoundTrip.Statement .profileWriteComplete := RoundTrip.of_none rfl

theorem RoundTrip.readOnlyTransaction (lane : LaneId) (bytes : List Byte) :
    RoundTrip.Statement (.readOnlyTransaction lane bytes) := by
  intro hw l b he; cases he
  cases bytes with
  | nil => exact ⟨true, rfl⟩
  | cons c cs =>
    have hc : c = 0#8 := by simpa [Instr.wellFormed, carriesNoRequest] using hw
    subst hc; exact ⟨true, rfl⟩

/-- Reading an unknown code does not look at the lane, the level of ENG or the rest of the bytes. -/
theorem decodeTransaction_unknown (l : LaneId) (eng : Bool) (code : Byte) (rest : List Byte)
    (h : namesNoRequest code = true) : decodeTransaction l eng (code :: rest) = .unknownRequestCode l code rest := by
  unfold namesNoRequest at h
  simp only [decodeTransaction] at h ⊢
  split at h
  · rename_i he
    split at he <;> first | contradiction | rfl
  · cases h

theorem RoundTrip.unknownRequestCode (lane : LaneId) (code : Byte) (rest : List Byte) :
    RoundTrip.Statement (.unknownRequestCode lane code rest) := fun hw _ _ he => by
  cases he; exact ⟨true, decodeTransaction_unknown _ _ _ _ hw⟩

end Sys2Proof.Laws
end

