-- ==== Sys2Proof/Tests/Slice0.lean ====
section
/-! SUPPORT. The model's own tests: the worked values of the spec on small states, an ill-formed term for each check of
WellFormed, and for each statement with hypotheses a state and operands that meet them. -/

namespace Sys2Proof.Tests

open Sys2Proof.Machine

/-! ### Small states -/

/-- A station on the air: the load over, nothing else changed from reset. -/
def air : State :=
  { State.reset with
    air := { AirBlock.initial with state := .onAir }
    pf := { ProfileStore.initial factory false with load := none } }

/-- A station off the air. -/
def dark : State := { air with air := { air.air with state := .offAir } }

/-- The state a command leads to. -/
def after (c : Instr) (s : State) : State :=
  match exec c s with
  | .next t => t
  | _ => s

/-- Bytes after byte 0 that carry a body, with nothing after it. -/
def ask (body : List Byte) : List Byte := BitVec.ofNat 8 body.length :: body

/-- A listening lane with a body of at most 60 bytes asks. -/
theorem asks_ask {s : State} {l : LaneId} {body : List Byte}
    (h : ((s.lane l).phase ≠ .waitRise ∧ (s.lane l).inFlight = false ∧ (s.lane l).bits = [] ∧ s.pf.held = false) ∧
      body.length ≤ 60) : s.asks l (ask body) body :=
  ⟨h.1, h.2, [], by simp [ask]⟩

/-- A state in which nothing is due, with no power-on held, is settled. -/
theorem settled_of {s : State} (h : (decide (s.settle = s) && !s.pf.held) = true) : s.settled :=
  ⟨of_decide_eq_true ((Bool.and_eq_true _ _).mp h).1, (Bool.not_eq_true' _).mp ((Bool.and_eq_true _ _).mp h).2⟩

/-- A music item of an id and a length in samples, with a fade-out and a segue. -/
def item (id : Nat) (length : Option Nat) (segue fadeOut : Nat) : Item :=
  { id := id, kind := .music, length := length, segue := segue, fadeIn := 0, fadeOut := fadeOut, gain := 16384, skipped := false }

/-- A deck in a state with an item at a position. -/
def deckAt (st : DeckState) (id position : Nat) : Deck :=
  { state := st, item := some id, position := position, startedAt := some 5#32, fadeTaken := false }

/-- An entry LIVE at its target. -/
def up (e : Entry) : Entry := { e with state := .live, current := e.target }

/-- A line in a state, with what its record shows in it. -/
def lineIn (st : LineState) : LineRec :=
  { LineRec.initial with
    state := st, seize := st.seized, feed := st.feed
    ringTimer := if st = .ringing then some { gap := 0, total := 0 } else none }

/-- A station on the air with line 1 in a state. -/
def call (st : LineState) : State :=
  { air with lc := { air.lc with lines := { air.lc.lines with l1 := lineIn st }
                                 queue := if st = .ready then [.l1] else [] } }

/-- An alert in a phase. -/
def alertIn (phase : AlertPhase) (count : Nat) : OnAirAlert :=
  { id := 7, cls := .advisory, originator := 1, audio := true, maxDuration := 48000, arrival := 0#32, start := 0#32
    phase := phase, count := count, attention := 384000, ending := none }

/-- The saved roster entries as they stand. -/
def savedRoster : PerSource EntrySnapshot :=
  let e : EntrySnapshot := { state := .live, target := 16384, remaining := 0, controller := .aut, faded := false }
  { pla := e, plb := e, mic := { e with controller := .con }, fbk := e, ln1 := e, ln2 := e, ln3 := e, ln4 := e }

/-- No line marked as gone. -/
def noneGone : PerLine Bool := { l1 := false, l2 := false, l3 := false, l4 := false }

/-- A context record of a cause that saved a sequencer state. -/
def saved (c : Cause) (q : SeqState) : Context :=
  { cause := c, pushedAt := 0#32, seqState := q, deckA := none, deckB := none, roster := savedRoster, onAirLines := []
    delayMode := .idle, gone := noneGone }

/-- A station on the air with an alert in a phase, its record on the stack and the air taken. -/
def alerting (phase : AlertPhase) (count : Nat) : State :=
  { air with
    al := { air.al with onAir := some (alertIn phase count) }
    ps := { air.ps with records := [saved .alert .stopped] }
    sq := { air.sq with state := .preempted }
    du := { air.du with mode := .frozen } }

/-- A pending WINDOW alert of an id, arrived at 0, with its window at 48,000. -/
def waiting (id : Nat) : PendingAlert :=
  { id := id, cls := .warning, originator := 1, expiry := some 48000#32, due := false, audio := false, maxDuration := 48000
    arrival := 0#32 }

/-! ### WellFormed: an ill-formed term for each check -/

theorem test_readOnly_with_request_refused : (Instr.readOnlyTransaction .aut [0x01#8]).wellFormed = false := by decide

theorem test_unknownCode_that_is_known_refused : (Instr.unknownRequestCode .aut 0x5A#8 []).wellFormed = false := by decide

theorem test_unknownCode_zero_refused : (Instr.unknownRequestCode .aut 0x00#8 []).wellFormed = false := by decide

theorem test_returnCharacter_with_empty_run_refused : (Instr.returnCharacter [(270, false), (0, true)]).wellFormed = false := by
  decide

theorem test_windowExpiry_beyond_32_bits_refused : (Instr.windowExpiry 4294967296).wellFormed = false := by decide

/-- A mix of silence, with edges of the console's LCLK. -/
def quietMix (es : List LclkEdge) : InputFrame :=
  { plaL := 0#24, plaR := 0#24, plbL := 0#24, plbR := 0#24, micL := 0#24, micR := 0#24, fbkL := 0#24, fbkR := 0#24
    line := { l1 := 0#24, l2 := 0#24, l3 := 0#24, l4 := 0#24 }, alr := 0#24, tb := 0#24
    ring := { l1 := true, l2 := true, l3 := true, l4 := true }, loop := { l1 := true, l2 := true, l3 := true, l4 := true }
    lclk := { aut := [], con := es, alr := [] } }

/-- An edge of LCLK after a number of core clocks. -/
def edge (wait : Nat) (rising ldi : Bool) : LclkEdge := { wait := wait, rising := rising, ldi := ldi }

theorem test_mix_with_edges_beyond_its_period_refused :
    let f := quietMix [edge 324 true true, edge 325 false true]
    (Instr.mix f).wellFormed = false ∧ (Instr.buildStep f).wellFormed = false ∧ (Instr.catchUpStep f).wellFormed = false ∧
    (Instr.clockWrap f).wellFormed = false ∧ (Instr.mix (quietMix [edge 324 true true, edge 324 false true])).wellFormed = true := by
  decide

theorem test_requests_are_wellFormed : (Instr.seqStart .aut [0#8]).wellFormed = true ∧ (Instr.windowExpiry 4294967295).wellFormed = true := by
  decide

/-! ### Reading commands -/

/-- No row of the table gives bits. -/
theorem test_no_table_word : decodeTableWord 8 0x14 = none ∧ (State.reset.withFetchWord 8 0x14) = State.reset := ⟨rfl, rfl⟩

/-- One transaction of each family of the code table (R175). -/
theorem test_transactions_read :
    decodeTransaction .con false [0x58#8, 0#8] = .globalReset .con [0#8] ∧
    decodeTransaction .aut false [0x11#8, 20#8] = .seqInsert .aut [20#8] ∧
    decodeTransaction .con false [0x20#8, 5#8] = .sourceGain .con [5#8] ∧
    decodeTransaction .con false [0x28#8, 0#8] = .breakIn .con [0#8] ∧
    decodeTransaction .con false [0x34#8, 1#8] = .lineAir .con [1#8] ∧
    decodeTransaction .con false [0x39#8, 0#8] = .delayDump .con [0#8] ∧
    decodeTransaction .alr false [0x40#8, 13#8] = .alertNotice .alr [13#8] ∧
    decodeTransaction .aut false [0x49#8, 0#8] = .signOff .aut [0#8] ∧
    decodeTransaction .con false [0x50#8, 1#8] = .txSelect .con [1#8] ∧
    decodeTransaction .aut false [0x01#8, 0#8] = .nop .aut [0#8] ∧
    decodeTransaction .aut false [0x02#8, 1#8, 4#8] = .statusRead .aut [1#8, 4#8] ∧
    decodeTransaction .con true [0x5A#8, 2#8] = .profileWrite .con true [2#8] ∧
    decodeTransaction .aut false [0#8, 9#8] = .readOnlyTransaction .aut [0#8, 9#8] ∧
    decodeTransaction .aut false [] = .readOnlyTransaction .aut [] ∧
    decodeTransaction .aut false [0x06#8] = .unknownRequestCode .aut 0x06#8 [] := by decide

/-! ### The program bus (chapter 1) -/

/-- Figure 1-1: three steps from 0 toward 10,000 and three back. -/
theorem test_ramp_steps :
    rampStep 0 10000 3 = 3333 ∧ rampStep 3333 10000 2 = 6666 ∧ rampStep 6666 10000 1 = 10000 ∧
    rampStep 10000 0 3 = 6667 ∧ rampStep 6667 0 2 = 3334 ∧ rampStep 3334 0 1 = 0 := by decide

/-- Section 1.11: the retargets taken one mix earlier and one mix later. -/
theorem test_retarget :
    rampStep 4000 1000 3 = 3000 ∧ rampStep 6000 1000 3 = 4334 ∧ rampStep 4334 1000 2 = 2667 ∧ rampStep 2667 1000 1 = 1000 := by
  decide

/-- Section 1.10: PLA, MIC and line 2 on, the duck fully applied; line 1 in HOLD. -/
def workedMix : State :=
  { air with
    pb := { air.pb with
      roster := { air.pb.roster with
        pla := { air.pb.roster.pla with state := .live, current := 16384 }
        mic := { air.pb.roster.mic with state := .live, current := 12288 }
        ln2 := { air.pb.roster.ln2 with state := .live, current := 16384 } }
      duck := { present := 4096, aim := 4096, remaining := 0, engaged := true } }
    lc := { air.lc with lines := { air.lc.lines with l1 := lineIn .hold, l2 := lineIn .onAir } } }

/-- The input samples of section 1.10. -/
def workedInput : InputFrame :=
  { plaL := 4000000#24, plaR := BitVec.ofInt 24 (-2000000), plbL := 0#24, plbR := 0#24, micL := 1000000#24, micR := 1000000#24
    fbkL := 0#24, fbkR := 0#24, line := { l1 := 0#24, l2 := 2000000#24, l3 := 0#24, l4 := 0#24 }, alr := 0#24, tb := 0#24
    ring := { l1 := true, l2 := true, l3 := true, l4 := true }, loop := { l1 := true, l2 := true, l3 := true, l4 := true }
    lclk := { aut := [], con := [], alr := [] } }

theorem test_worked_mix :
    (workedMix.mixAudio workedInput).acc = { l := 51842000000, r := 27266000000 } ∧
    (workedMix.mixAudio workedInput).output = { l := 3164185, r := 1664185 } ∧
    (workedMix.mixAudio workedInput).feeds.l2 = 1000000 ∧ (workedMix.mixAudio workedInput).feeds.l1 = 1207093 := by
  decide +kernel

/-- Section 1.10: a negative half is rounded upward. -/
theorem test_negative_half : gainRound (-8192000000) = -500000 := by decide

/-- The ceiling in force, with the factory ceiling (section 1.8). -/
theorem test_lowered_ceiling : ceilingInForce false 7549746 = 7549746 ∧ ceilingInForce true 7549746 = 5344358 := by decide

/-- R24: the alert gain on a message sample. -/
theorem test_alert_gain : sat24 (gainRound (6000000 * 16384)) = 6000000 ∧ sat24 (gainRound (6000000 * 12000)) = 4394531 := by decide

/-! ### The sequencer, the lines, the delay (chapters 2, 4, 5) -/

/-- R26: a length of 0 ms is 1 ms, one above an hour is an hour, and a segue longer than the item is cut. -/
theorem test_item_clamps :
    (storeItem 1 .music (some 0) none 0 0 20000).length = some 48 ∧ (storeItem 1 .music (some 0) none 0 0 20000).gain = 16384 ∧
    (storeItem 1 .spot (some 9999999) none 20000 0 0).length = some 172800000 ∧
    (storeItem 1 .spot (some 9999999) none 20000 0 0).fadeIn = 480000 ∧ (storeItem 1 .music (some 10) (some 99) 0 99 0).segue = 480 := by
  decide

/-- Section 2.12: the segue point and the end of item 102, together, with a LIVE item next: HALTED, its record, item 104 cued. -/
def segueAndEnd : State :=
  { air with
    ev := { air.ev with clock := 10984000#32 }
    sq := { air.sq with
      state := .running
      list := [item 102 (some 1440000) 0 0, { item 103 none 0 0 with kind := .live }, item 104 (some 11520000) 48000 96000]
      deckB := { state := .playing, item := some 102, position := 1440000, startedAt := some 9544000#32, fadeTaken := false } } }

theorem test_segue_into_live :
    segueAndEnd.seguePointEvent.sq.state = .halted ∧ segueAndEnd.seguePointEvent.sq.list.map (·.id) = [103, 104] ∧
    segueAndEnd.seguePointEvent.sq.deckA.item = some 104 ∧ segueAndEnd.seguePointEvent.sq.deckB.state = .free ∧
    segueAndEnd.seguePointEvent.sq.done = [{ item := 102, start := some 9544000#32, aired := 1440000, outcome := .complete }] := by
  decide +kernel

/-- Section 5.10: the pop applies the pending target: 60,000 pairs against 192,000, BUILDING. -/
theorem test_pending_target_at_pop :
    let d : Delay := { air.du with target := 480000, mode := .frozen, pendingTarget := some 192000 }
    let t := { alerting .closing 48000 with du := d }.alertEnd
    t.du.target = 192000 ∧ t.du.mode = .building ∧ t.du.pendingTarget = none := by decide +kernel

/-! ### Alerts (chapter 6) -/

/-- R125: the indices of the first three samples, the first sample, and the two peaks. -/
theorem test_tone :
    toneIndex Config.tone1 = 13 ∧ toneIndex Config.tone2 = 21 ∧ toneIndex (Config.tone1 + Config.tone1) = 27 ∧
    toneIndex (Config.tone2 + Config.tone2) = 43 ∧ toneSample 0#32 0#32 11585 = 0 ∧
    toneSample 0x40000000#32 0x40000000#32 11585 = 5931519 ∧ toneSample 0xC0000000#32 0xC0000000#32 11585 = -5931519 := by
  decide +kernel

/-- Section 6.12: 1,448,000 mixes are 30,166 ms. -/
theorem test_aired_ms : (502048000#32 - 500600000#32).toNat / 48 = 30166 := by decide

/-! ### The link and the lanes (chapters 8 and 9) -/

/-- Section 8.3: the lowest, the factory and the highest divisor; a factory bit has 14 intervals of 17 clocks and two of 16. -/
theorem test_divisors :
    bitClocks 1 0 = 16 ∧ bitClocks 16 14 = 270 ∧ bitClocks 255 15 = 4095 ∧ sampleClock 16 14 14 = 238 ∧ sampleClock 16 14 16 = 270 := by
  decide

/-- Section 9.7: DONE with the collision flag is 0x81, with the reply-lost flag 0x41. -/
theorem test_reply_bytes :
    Reply.bytes { collision := true, lost := false, code := .done, body := [] } = [0x81#8, 0x00#8] ∧
    Reply.bytes { collision := false, lost := true, code := .done, body := [] } = [0x41#8, 0x00#8] := by decide

/-- R183: the lengths of the five pages. -/
theorem test_page_lengths :
    ([0#8, 1#8, 2#8, 3#8, 4#8].map fun n => (air.page n).map (·.length)) = [some 52, some 51, some 29, some 35, some 28] ∧
    air.page 5#8 = none := by decide +kernel

/-- R178: the default enables, by the kinds the table names. -/
theorem test_default_enables :
    defaultEnables.aut = [EventKind.seqAdvance, .cueRequest, .lateStart, .seqHalted, .itemDone, .preempt, .resumed, .failover,
      .airState].foldl (fun e k => e ||| k.set) 0#29 ∧
    defaultEnables.con = [EventKind.lineRing, .lineMissed, .lineDrop, .holdLong, .queueChange, .preempt, .resumed, .stackOverflow,
      .alertPending, .alertStart, .alertDone, .alertFiltered, .deadAirWarn, .failover, .airState, .unitLost, .txChangeover,
      .ceiling, .remoteRefused, .delayDump, .laneError, .profileDefaulted].foldl (fun e k => e ||| k.set) 0#29 ∧
    defaultEnables.alr = [EventKind.alertStart, .alertDone, .alertFiltered, .airState].foldl (fun e k => e ||| k.set) 0#29 := by
  decide

/-- R149: the register over the digits 1 to 9, the usual check value of this polynomial and start (from general knowledge). -/
theorem test_crc : crc16 [0x31#8, 0x32#8, 0x33#8, 0x34#8, 0x35#8, 0x36#8, 0x37#8, 0x38#8, 0x39#8] = 0x29B1#16 := by decide +kernel

/-! ### States and operands that meet the statements' hypotheses -/

theorem wit_stepRunsTheFrontCommand : State.reset.pending = [] := rfl

/-- A station on the air with a non-volatile write begun. -/
def writing (left : Nat) : State := { air with pf := { air.pf with write := some { left := left, image := factory } } }

theorem wit_queueAndStoredCopyAreLeftAlone :
    (∃ t, completes (.nop .con (ask [])) State.reset t ∧ (∀ f, Instr.nop .con (ask []) ≠ .mix f)) ∧
    air.pf.write = none ∧ air.pf.held = false ∧
    ∀ n ∈ [1, 0], (writing n).pf.held = false ∧ (writing n).pf.write = some { left := n, image := factory } :=
  ⟨⟨_, rfl, by simp⟩, rfl, rfl, fun _ _ => ⟨rfl, rfl⟩⟩

theorem wit_airClockAdvancesByMixesAlone (f : InputFrame) :
    (∃ t, completes (.powerOn true true) air t) ∧ (∃ t, completes (.mix f) air t) ∧ ∃ t, completes .seguePoint air t :=
  ⟨⟨_, rfl⟩, ⟨_, rfl⟩, ⟨_, rfl⟩⟩

/-- Power-on held of a part with the console's LSEL in a phase, at a level of RST and of the supply. -/
def holding (phase : LanePhase) (rst supply : Bool) : State :=
  ({ air with cl := { air.cl with con := { Lane.initial with phase := phase } } } : State).powerOn rst supply

theorem holding_isHeld (phase : LanePhase) (rst supply : Bool) (h : (rst && supply) = false) : (holding phase rst supply).isHeld := by
  refine ⟨fun l => ?_, ?_⟩
  · cases l <;> cases phase <;> exact ⟨rfl, nofun⟩
  · unfold holding State.powerOn
    simp only [h]
    rfl

theorem wit_powerOnTakesEveryBlock :
    (∀ p ∈ [LanePhase.idle, .inTransaction, .waitRise], ∀ q ∈ [(false, false), (false, true), (true, false)],
      (holding p q.1 q.2).isHeld) ∧
    encodeTransaction (.nop .con (ask [])) = some (.con, 0x01#8 :: ask []) ∧ encodeTransaction .seguePoint = none :=
  ⟨fun _ _ q hq => holding_isHeld _ _ _ (by fin_cases hq <;> rfl), rfl, rfl⟩

/-- R188: the rise of LSEL during the hold ends a transaction begun before it, so that the next request is taken after the completion; a
LSEL still low at the completion is waited out first; no request is taken in the hold. -/
theorem test_rise_in_the_hold :
    let nop := Instr.nop .con (ask [])
    let held := holding .inTransaction false true
    (after nop held).cl.con.reply = none ∧ (after nop held).cl.con.phase = .idle ∧
    (after nop (after (.powerOn true true) (after nop held))).cl.con.reply.isSome = true ∧
    (after nop (after (.powerOn true true) held)).cl.con.reply = none ∧
    (after nop (after nop (after (.powerOn true true) held))).cl.con.reply.isSome = true ∧
    (after (.powerOn true true) (after (.transactionStart .con) (holding .idle true false))).cl.con.phase = .waitRise := by
  decide +kernel

/-- A start about to be over, begun with a start state. -/
def starting (a : StartState) : State :=
  { State.reset with air := { State.reset.air with startTimer := some 0, startInto := a }
                     pf := { State.reset.pf with load := none } }

theorem wit_startLoadsTheProfileAndTakesTheAir :
    State.reset.pf.load ≠ some 0 ∧
    (let s := { State.reset with pf := { State.reset.pf with load := some 0 } }
     s.pf.load = some 0 ∧ s.du = .initial factory) ∧
    State.reset.air.startTimer ≠ some 0 ∧
    ∀ a ∈ [StartState.onAir, .offAir], (starting a).air.startTimer = some 0 ∧ (starting a).al.table = [] ∧
      (starting a).tl.mainFailed = false ∧ (starting a).air.startInto = a := by decide

/-- R188: a PROFILE_WRITE of the start state during the start delay counts for the next start alone. -/
theorem test_start_in_progress_keeps_its_start_state :
    (after (.profileWrite .con true (ask [0x17#8, 1#8, 0#8])) (starting .onAir)).pf.working.startState = .offAir ∧
      (after .startDelayExpiry (after (.profileWrite .con true (ask [0x17#8, 1#8, 0#8])) (starting .onAir))).air.state = .onAir := by decide +kernel

theorem wit_globalResetTakesEveryBlock :
    air.asks .con (ask []) [] ∧ air.collectionsFit ∧ factory = (if air.pf.valid then air.pf.stored else factory) ∧
    factory.roles = { u0 := .mainTx, u1 := .standbyTx, u2 := .siteControl, u3 := .unused } ∧
    (let s := { alerting .message 10 with al := { (alerting .message 10).al with table := [waiting 8, waiting 9] } }
     s.asks .con (ask []) [] ∧ s.collectionsFit) :=
  ⟨asks_ask (by decide), by unfold State.collectionsFit; decide, by decide, by decide, asks_ask (by decide),
    by unfold State.collectionsFit; decide⟩

/-- PLA and PLB at unity, neither of them ducked, with a line in each feed select that is not alert. -/
def twoUp : State :=
  { air with
    pb := { air.pb with
      roster := { air.pb.roster with
        pla := { air.pb.roster.pla with state := .live, current := 16384 }
        plb := { air.pb.roster.plb with state := .live, current := 16384 } } }
    lc := { air.lc with lines := { l1 := lineIn .onAir, l2 := lineIn .hold, l3 := lineIn .screen, l4 := lineIn .idle } }
    pf := { air.pf with
      working := { factory with duckClasses := { factory.duckClasses with pla := .neither, plb := .neither } } } }

/-- The largest sample on both. -/
def loud : InputFrame := { quietMix [] with plaL := 0x7FFFFF#24, plbL := 0x7FFFFF#24 }

/-- Two sources at unity clip (R20): within every range, the mix of the largest samples counts one clip and clamps its pair. -/
theorem wit_mixSumsTheSources :
    twoUp.settled ∧ twoUp.levelsInRange ∧
    (∃ t, completes (.mix loud) twoUp t ∧ (t.entry .pla).current = 16384 ∧ (t.entry .plb).current = 16384 ∧
      t.pb.clipCount = 1 ∧ t.ap.cue = { l := 8388607, r := 0 }) ∧
    8388607 < (8388607 * 16384 + 8388607 * 16384 + 8192 : Int) >>> (14 : Nat) ∧
    workedMix.settled ∧ (workedMix.entry .pla).current = 16384 ∧ workedMix.pf.working.duckClasses.get .pla = .ducked := by
  refine ⟨settled_of (by decide +kernel), ⟨fun src => ?_, ?_, ?_⟩, ⟨_, rfl, ?_⟩, by decide, settled_of (by decide +kernel), by decide⟩
  · unfold Entry.inRange; cases src <;> decide
  · simp [show twoUp.sq.list ++ twoUp.sq.tail.toList = [] from rfl]
  · simp [show twoUp.ps.records = [] from rfl]
  · decide +kernel

/-- Two sources up, with the ceiling lowered or not, in an air state. -/
def twoUpUnder (lowered : Bool) (a : AirState) : State :=
  { twoUp with pb := { twoUp.pb with ceilingLowered := lowered }, air := { twoUp.air with state := a } }

theorem wit_mixOutputStaysWithinTheCeiling :
    ∀ p ∈ [(true, AirState.onAir), (false, .onAir), (true, .alertWake), (false, .alertWake)],
      (twoUpUnder p.1 p.2).pf.held = false ∧ (twoUpUnder p.1 p.2).settled ∧ (twoUpUnder p.1 p.2).al.onAir = none ∧
      (twoUpUnder p.1 p.2).air.state = p.2 ∧ (if p.1 then 5344358 else 7549746) =
        (if (twoUpUnder p.1 p.2).pb.ceilingLowered then ((twoUpUnder p.1 p.2).pf.working.ceiling * 11598 + 8192) / 16384
         else (twoUpUnder p.1 p.2).pf.working.ceiling) := by
  intro p hp
  fin_cases hp <;> exact ⟨rfl, settled_of (by decide +kernel), rfl, rfl, by decide⟩

/-- R23, R25: the program reaches the air, and a pair above the ceiling is clamped and counted; the input here is 4,000,000 and 8,388,607. -/
theorem test_program_to_the_air :
    (after (.mix { quietMix [] with plaL := 4000000#24, plaR := 0x800000#24 }) (twoUpUnder false .onAir)).ap.airMonitor =
      { l := 4000000, r := -7549746 } ∧
    (after (.mix { quietMix [] with plaL := 4000000#24, plaR := 0x800000#24 }) (twoUpUnder false .onAir)).pb.ceilingHits = 1 ∧
    (after (.mix { quietMix [] with plaL := 4000000#24 }) (twoUpUnder false .onAir)).pb.ceilingHits = 0 := by decide +kernel

/-- An alert on the air in a phase with line 1 held, which hears it. -/
def alertHeard (phase : AlertPhase) (count : Nat) : State :=
  { alerting phase count with lc := { air.lc with lines := { air.lc.lines with l1 := { lineIn .hold with feed := .alert } } } }

theorem wit_mixOfAnAlert :
    (∀ p ∈ [(AlertPhase.attention, 0), (.attention, 383999), (.message, 0), (.message, 47999), (.closing, 0)],
      (alertHeard p.1 p.2).settled ∧ (alertHeard p.1 p.2).al.onAir = some (alertIn p.1 p.2)) ∧
    ∀ p c, (alertHeard p c).air.state = .onAir ∧ ((alertHeard p c).line .l1).seize = true ∧
      ((alertHeard p c).line .l1).feed = .alert ∧ ((alertHeard p c).line .l2).seize = false := by
  refine ⟨fun p hp => ?_, fun _ _ => ⟨rfl, rfl, rfl, rfl⟩⟩
  fin_cases hp <;> exact ⟨settled_of (by decide +kernel), rfl⟩

/-- PLA with a ramp running, in a state. -/
def ramping (st : EntryState) (remaining : Nat) : State :=
  { air with
    pb := { air.pb with
      roster := { air.pb.roster with pla := { air.pb.roster.pla with state := st, current := 100, remaining := remaining } } } }

theorem wit_rampsAreSteppedAndEnd :
    (∀ p ∈ [(EntryState.live, 1), (.live, 480000), (.releasing, 1), (.releasing, 480000)],
      (ramping p.1 p.2).settled ∧ 0 < ((ramping p.1 p.2).entry .pla).remaining) ∧
    ((ramping .releasing 0).entry .pla).state = .releasing ∧ ((ramping .releasing 0).entry .pla).remaining = 0 ∧
    ¬ (((ramping .releasing 1).entry .pla).state = .releasing ∧ ((ramping .releasing 1).entry .pla).remaining = 0) := by
  refine ⟨fun p hp => ?_, by decide⟩
  fin_cases hp <;> exact ⟨settled_of (by decide +kernel), by decide⟩

/-- R6: the mix that takes the last step of a release ends it OFF, and the one before leaves it RELEASING. -/
theorem test_release_ends_at_its_mix :
    ((after (.mix (quietMix [])) (ramping .releasing 1)).entry .pla).state = .off ∧
    ((after (.mix (quietMix [])) (ramping .releasing 2)).entry .pla).state = .releasing := by decide +kernel

/-- A duck envelope with MIC, a DUCKER, up or OFF, and the two ramp lengths in milliseconds. -/
def ducking (d : Duck) (on : Bool) (attack release : Nat) : State :=
  { air with
    pb := { air.pb with
      duck := d
      roster := { air.pb.roster with mic := { air.pb.roster.mic with
        state := if on then .live else .off, current := if on then 16384 else 0 } } }
    pf := { air.pf with working := { factory with duckAttack := attack, duckRelease := release } } }

/-- An envelope. -/
def duckAt (present aim remaining : Nat) (engaged : Bool) : Duck :=
  { present := present, aim := aim, remaining := remaining, engaged := engaged }

theorem wit_rampsAreSteppedAndEnd_duck :
    (∀ d ∈ [duckAt 8000 4096 10 true, duckAt 4096 4096 0 true, duckAt 16384 16384 0 false, duckAt 8000 2048 10 true,
        duckAt 4096 2048 10 true, duckAt 3000 2048 10 true],
      (ducking d true 150 800).settled ∧
      ∃ src, (ducking d true 150 800).pf.working.duckClasses.get src = .ducker ∧
        ((ducking d true 150 800).entry src).state = .live ∧ 0 < ((ducking d true 150 800).entry src).target) ∧
    (∀ d ∈ [duckAt 16384 16384 0 false, duckAt 4096 16384 5 false, duckAt 4095 16384 5 false, duckAt 8000 4096 10 true],
      (ducking d false 0 0).settled ∧ ∀ src, ((ducking d false 0 0).entry src).state ≠ .live) ∧
    (ducking (duckAt 8000 4096 10 true) true 150 800).pf.working.duckDepth = 4096 := by
  refine ⟨fun d hd => ?_, fun d hd => ?_, rfl⟩
  · fin_cases hd <;> exact ⟨settled_of (by decide +kernel), .mic, by decide⟩
  · fin_cases hd <;> exact ⟨settled_of (by decide +kernel), fun src => by cases src <;> decide⟩

/-- R14, R9: with a length of 0 the envelope stands at its aim at once, down and up. -/
theorem test_duck_without_a_ramp :
    (after (.mix (quietMix [])) (ducking (duckAt 16384 16384 0 false) true 0 0)).pb.duck = duckAt 4096 4096 0 true ∧
    (after (.mix (quietMix [])) (ducking (duckAt 8000 4096 10 true) false 0 0)).pb.duck = duckAt 16384 16384 0 false := by
  decide +kernel

/-- The delay in a mode, with a number of held pairs and a target in pairs. -/
def delaying (m : DelayMode) (held target step : Nat) : State :=
  { air with du := { air.du with store := List.replicate held { l := 1, r := 2 }, target := target, mode := m, step := step } }

theorem wit_mixesMoveTheDelayAndTheClock :
    (let s := delaying .steady 1 1 0
     s.settled ∧ s.du.store = { l := 1, r := 2 } :: [] ∧ s.du.store.length = s.du.target ∧ s.air.state = .onAir) ∧
    (let s := delaying .building 0 480 31
     s.settled ∧ s.du.mode = .building ∧ s.pf.working.buildDivisor ≤ s.du.step + 1 ∧ s.du.store.length < s.du.target) ∧
    (let s := delaying .catching 2 1 31
     s.settled ∧ s.du.mode = .catching ∧ s.pf.working.buildDivisor ≤ s.du.step + 1 ∧ s.du.target < s.du.store.length) ∧
    (let s := delaying .building 0 480 30
     s.settled ∧ s.du.store.length < s.du.target ∧ s.du.step + 1 < s.pf.working.buildDivisor) ∧
    (let s := delaying .catching 2 1 30
     s.settled ∧ s.du.target < s.du.store.length ∧ s.du.step + 1 < s.pf.working.buildDivisor) ∧
    ((delaying .frozen 1 1 0).settled ∧ (delaying .frozen 1 1 0).du.mode = .frozen) ∧
    (dark.settled ∧ dark.air.state = .offAir) ∧ (State.reset.settled ∧ State.reset.air.state = .starting) ∧
    (air.settled ∧ air.du.mode = .idle ∧ air.du.store = [] ∧ air.du.target = 0) ∧
    air.du.mode ≠ .building ∧ air.du.mode ≠ .catching ∧ air.ev.clock ≠ 4294967295#32 ∧
    { air with ev := { air.ev with clock := 4294967295#32 } }.ev.clock = 4294967295#32 := by
  refine ⟨⟨settled_of (by decide +kernel), rfl, rfl, rfl⟩, ⟨settled_of (by decide +kernel), by decide⟩,
    ⟨settled_of (by decide +kernel), by decide⟩, ⟨settled_of (by decide +kernel), by decide⟩,
    ⟨settled_of (by decide +kernel), by decide⟩, ⟨settled_of (by decide +kernel), rfl⟩, ⟨settled_of (by decide +kernel), rfl⟩,
    ⟨settled_of (by decide +kernel), rfl⟩, ⟨settled_of (by decide +kernel), rfl, rfl, rfl⟩, by decide⟩

/-- A station with every count of a sample period at work: an item TAILING and one PLAYING, three lines, a window, a start timer, a
load and a write. -/
def counting (a : AirState) (phase : Nat) : State :=
  { air with
    sq := { air.sq with
      state := .running, list := [item 10 none 0 0], tail := some (item 9 (some 1000) 0 0)
      deckA := deckAt .tailing 9 500, deckB := deckAt .playing 10 7 }
    lc := { air.lc with
      lines := { l1 := { lineIn .ringing with ringStage := .countingHigh, ringLevel := 4798 }
                 l2 := { lineIn .hold with loopLow := 19198 }, l3 := { lineIn .idle with ringLevel := 4798 }, l4 := lineIn .idle } }
    air := { air.air with state := a, startTimer := some 5, monitor := { Monitor.initial with phase := phase, run := 3 } }
    tl := { air.tl with window := some { unit := .u0, left := 9 } }
    pf := { air.pf with load := some 7, write := some { left := 8, image := factory } } }

theorem wit_mixesMoveTheDelayAndTheClock_counts :
    (∀ p ∈ [(AirState.onAir, 478), (.onAir, 479), (.offAir, 0)], (counting p.1 p.2).settled ∧ (counting p.1 p.2).air.state = p.1) ∧
    (counting .onAir 479).al.onAir = none ∧ (counting .onAir 479).fallbackOnTop = false ∧
    (∀ most x, countTo most x = if x < most then x + 1 else x) ∧ air.pf.held = false := by
  refine ⟨fun p hp => ?_, rfl, rfl, fun _ _ => rfl, rfl⟩
  fin_cases hp <;> exact ⟨settled_of (by decide +kernel), rfl⟩

/-- R31, R71, R74, R143: what one mix with RING_n and LOOP_n low counts. -/
theorem test_mix_counts :
    let f := { quietMix [] with ring := { l1 := false, l2 := false, l3 := false, l4 := false }
                                loop := { l1 := false, l2 := false, l3 := false, l4 := false } }
    let t := after (.mix f) (counting .onAir 479)
    t.sq.deckA.position = 501 ∧ t.sq.deckB.position = 8 ∧ t.lc.lines.l1.ringLevel = 0 ∧ t.lc.lines.l3.ringLevel = 4799 ∧
    t.lc.lines.l1.ringTimer = some { gap := 1, total := 1 } ∧ t.lc.lines.l2.loopLow = 19199 ∧ t.lc.lines.l1.loopLow = 0 ∧
    t.air.monitor.phase = 0 ∧ t.air.monitor.due = true ∧ t.air.startTimer = some 4 ∧ t.tl.window = some { unit := .u0, left := 8 } ∧
    t.pf.load = some 6 := by decide +kernel

/-- A state in which the console holds a source. -/
def conHeld (s : State) (src : Source) : State := s.setEntry src { s.entry src with controller := .con }

theorem wit_sourceGainRetargets :
    air.asks .aut (ask [0#8, 0x40#8, 0#8, 0#8, 10#8]) [0#8, 0x40#8, 0#8, 0#8, 10#8] ∧ LaneId.aut ≠ .alr ∧
    sourceOf 8#8 = none ∧ sourceOf 0#8 = some .pla ∧ 16384 = min (word16 0x40#8 0#8) 16384 ∧
    480 = min (word16 0#8 10#8) 10000 * 48 ∧ ((conHeld air .pla).entry .pla).controller = .con ∧
    (conHeld air .pla).asks .aut (ask [7#8, 0#8, 0#8, 0#8, 0#8]) [7#8, 0#8, 0#8, 0#8, 0#8] ∧
    ¬ (LaneId.aut = .aut ∧ (air.entry .pla).controller = .con) :=
  ⟨asks_ask (by decide), by decide, by decide, by decide, by decide, by decide, by decide, asks_ask (by decide), by decide⟩

theorem wit_sourcesAreTurnedOnAndOff :
    air.asks .con (ask [2#8, 0x27#8, 0x10#8]) [2#8, 0x27#8, 0x10#8] ∧ LaneId.con ≠ .alr ∧ sourceOf 8#8 = none ∧
    sourceOf 2#8 = some .mic ∧ 480000 = min (word16 0x27#8 0x10#8) 10000 * 48 ∧
    sourceOf 0#8 = some .pla ∧ ¬ (Source.pla = .fbk ∨ Source.pla = .mic ∧ LaneId.con = .con) ∧
    (conHeld air .fbk).asks .aut (ask [3#8, 0#8, 0#8]) [3#8, 0#8, 0#8] ∧ sourceOf 3#8 = some .fbk ∧
    ((conHeld air .fbk).entry .fbk).controller = .con ∧
    (air.entry .mic).state ≠ .live ∧ ((air.setEntry .mic (up (air.entry .mic))).entry .mic).state = .live ∧
    (air.setEntry .mic (up (air.entry .mic))).asks .con (ask [2#8, 0#8, 0#8]) [2#8, 0#8, 0#8] ∧
    (air.entry .mic).state = .off :=
  ⟨asks_ask (by decide), by decide, by decide, by decide, by decide, by decide, by decide, asks_ask (by decide), by decide,
    by decide, by decide, by decide, asks_ask (by decide), by decide⟩

theorem wit_takeAndReleaseWriteTheController :
    air.asks .con (ask [7#8]) [7#8] ∧ sourceOf 7#8 = some .ln4 ∧ sourceOf 8#8 = none ∧
    (Controller.con = .aut ↔ Source.ln4 = .pla ∨ Source.ln4 = .plb ∨ Source.ln4 = .fbk) :=
  ⟨asks_ask (by decide), by decide⟩

/-- The record that a BREAK_IN of a state pushes. -/
def breakRecord (s : State) : Context :=
  { cause := .breakIn, pushedAt := s.ev.clock, seqState := s.sq.state, deckA := none, deckB := none
    roster := s.pb.roster.mapWith fun _ e =>
      { state := e.state, target := e.target, remaining := e.remaining, controller := e.controller, faded := e.faded }
    onAirLines := [], delayMode := s.du.mode, gone := noneGone }

theorem wit_breakInPushes :
    air.asks .con (ask []) [] ∧ air.al.onAir = none ∧ air.air.state = .onAir ∧ air.noBreakTaken ∧
    (breakRecord air).deckA = (if air.sq.deckA.state = .free then none else
      air.sq.deckA.item.map fun i => { item := i, state := air.sq.deckA.state, position := air.sq.deckA.position }) ∧
    (∀ src, (breakRecord air).roster.get src =
      { state := (air.entry src).state, target := (air.entry src).target, remaining := (air.entry src).remaining
        controller := (air.entry src).controller, faded := (air.entry src).faded }) ∧
    (breakRecord air).onAirLines = [LineId.l1, .l2, .l3, .l4].filter (fun n => (air.line n).state = .onAir) ∧
    (∀ n, (breakRecord air).gone.get n = false) ∧
    dark.asks .con (ask []) [] ∧ dark.air.state ≠ .onAir ∧
    (alerting .closing 0).asks .con (ask []) [] ∧ (alerting .closing 0).al.onAir ≠ none :=
  ⟨asks_ask (by decide), by decide, by decide, ⟨rfl, rfl⟩, by decide, fun src => by cases src <;> rfl, by decide,
    fun n => by cases n <;> rfl, asks_ask (by decide), by decide, asks_ask (by decide), by decide⟩

/-- A station on the air with one record on the stack. -/
def stacked (c : Cause) (q : SeqState) : State := { air with ps := { air.ps with records := [saved c q] } }

theorem wit_resumePopsTheTopRecord :
    air.asks .con (ask [3#8]) [3#8] ∧ 2 < (3#8).toNat ∧ air.asks .con (ask [2#8]) [2#8] ∧ air.ps.records = [] ∧
    (alerting .closing 0).asks .con (ask [0#8]) [0#8] ∧ (alerting .closing 0).ps.records = saved .alert .stopped :: [] ∧
    (stacked .breakIn .stopped).asks .aut (ask [0#8]) [0#8] ∧
    (stacked .breakIn .stopped).ps.records = saved .breakIn .stopped :: [] ∧ (stacked .breakIn .stopped).noBreakTaken ∧
    (stacked .breakIn .stopped).asks .con (ask [0#8]) [0#8] ∧
    (stacked .failover .stopped).asks .aut (ask [2#8]) [2#8] ∧
    14400 = min ((saved .breakIn .stopped).roster.mic.remaining +
      min (stacked .breakIn .stopped).pf.working.preemptFade 10000 * 48) 480000 ∧
    (saved .breakIn .stopped).roster.mic.state = .live ∧
    ¬ (((stacked .breakIn .stopped).entry .mic).controller = .con ∧ (saved .breakIn .stopped).roster.mic.controller ≠ .con) :=
  ⟨asks_ask (by decide), by decide, asks_ask (by decide), rfl, asks_ask (by decide), rfl, asks_ask (by decide), rfl,
    ⟨rfl, rfl⟩, asks_ask (by decide), asks_ask (by decide), by decide⟩

/-- A record whose saved MIC entry is OFF. -/
def savedMicOff : Context :=
  { saved .breakIn .stopped with
    roster := savedRoster.set .mic { state := .off, target := 16384, remaining := 0, controller := .con, faded := false } }

theorem wit_resumePopsTheTopRecord_micOff :
    let s := { air with ps := { air.ps with records := [savedMicOff] } }
    s.asks .con (ask [0#8]) [0#8] ∧ (0#8).toNat ≤ 2 ∧ s.ps.records = savedMicOff :: [] ∧ s.noBreakTaken ∧ savedMicOff.cause ≠ .alert ∧
    savedMicOff.roster.mic.state = .off ∧ ¬ ((s.entry .mic).controller = .con ∧ savedMicOff.roster.mic.controller ≠ .con) :=
  ⟨asks_ask (by decide), by decide, rfl, ⟨rfl, rfl⟩, by decide, by decide, by decide⟩

/-- A record that saved a RUNNING sequencer, its head at 500 on deck A, and line 1 on the air. -/
def ranWithLine (c : Cause) : Context :=
  { saved c .running with deckA := some { item := 9, state := .playing, position := 500 }, onAirLines := [.l1] }

/-- What such a record was pushed over, as it stands since: the head PAUSED, line 1 in HOLD. -/
def preemptedOver (r : Context) : State :=
  { call .hold with
    ps := { air.ps with records := [r] }
    sq := { air.sq with state := .preempted, list := [item 9 (some 1000) 100 0], deckA := deckAt .paused 9 500 } }

/-- The same over that record. -/
def preempted (c : Cause) : State := preemptedOver (ranWithLine c)

theorem wit_resumePopsTheTopRecord_running :
    ∀ c ∈ [Cause.failover, .remoteFallback],
      (∀ l ∈ [LaneId.aut, .con], (preempted c).asks l (ask [0#8]) [0#8] ∧ l ≠ .alr) ∧
      (preempted c).ps.records = ranWithLine c :: [] ∧ (ranWithLine c).cause = c ∧ (preempted c).noBreakTaken ∧
      (preempted c).sq.state = .preempted ∧ (preempted c).sq.tail = none ∧ (item 9 (some 1000) 100 0).kind ≠ .live ∧
      ((preempted c).deck .a).state = .paused ∧ ((preempted c).deck .a).item = some 9 ∧
      (preempted c).deck DeckId.a.other = Deck.initial ∧
      (item 9 (some 1000) 100 0).segueReached ((preempted c).deck .a).position = false ∧
      (preempted c).al.onAir = none ∧ (preempted c).lc.onAirCount = 0 ∧ ((preempted c).line .l1).state = .hold ∧
      ((preempted c).line .l1).seize = true ∧ ((preempted c).line .l1).ringTimer = none := by
  refine fun c _ => ⟨fun l hl => ⟨asks_ask ⟨⟨?_, ?_, ?_, rfl⟩, by decide⟩, ?_⟩, rfl, rfl, ⟨rfl, rfl⟩, rfl, rfl, by decide, rfl, rfl, rfl,
    rfl, rfl, rfl, rfl, rfl, rfl⟩ <;> fin_cases hl <;> first | rfl | nofun

/-- The same record with line 1 marked as gone, and one whose saved deck, MIC, FBK and line entries are RELEASING. -/
theorem wit_resumePopsTheTopRecord_records :
    let e : EntrySnapshot := { state := .releasing, target := 16384, remaining := 480, controller := .con, faded := false }
    ∀ r ∈ [{ ranWithLine .failover with gone := noneGone.set .l1 true },
        { ranWithLine .failover with roster := (((savedRoster.set .pla e).set .mic e).set .fbk e).set .ln1 e }],
      (preemptedOver r).ps.records = r :: [] ∧ r.cause = .failover ∧ r.seqState = .running ∧ r.onAirLines = [.l1] ∧
      r.deckA = some { item := 9, state := .playing, position := 500 } ∧ r.deckB = none ∧ (preemptedOver r).noBreakTaken ∧
      (r.gone.get .l1 = true ∨ r.gone.get .l1 = false ∧ (r.roster.get .ln1).state = .releasing) := by
  intro e r hr
  fin_cases hr <;> exact ⟨rfl, rfl, rfl, rfl, rfl, rfl, ⟨rfl, rfl⟩, by decide⟩

/-- R66, R88: a saved caller in HOLD at the pop is offered, but not one that was re-screened, or dropped and answered again, since. -/
theorem test_caller_gone_is_not_offered :
    let again := after (.lineHold .con (ask [1#8])) (after (.lineScreen .con (ask [1#8])) (preempted .failover))
    let dropped := after (.lineDrop .con (ask [1#8])) (preempted .failover)
    let called := { dropped with lc := { dropped.lc with lines := dropped.lc.lines.set .l1 (lineIn .hold) } }
    ((after (.resume .con (ask [0#8])) (preempted .failover)).line .l1).state = .onAir ∧
    ((after (.resume .con (ask [0#8])) again).line .l1).state = .hold ∧
    ((after (.resume .con (ask [0#8])) called).line .l1).state = .hold := by decide +kernel

/-- A station on the air with a list of items, the head on deck A. -/
def playing (q : SeqState) (st : DeckState) (position : Nat) (list : List Item) : State :=
  { air with
    sq := { air.sq with state := q, list := list, deckA := deckAt st ((list.head?.map (·.id)).getD 0) position } }

theorem wit_nextAbandonsAndRepriseRepositions :
    let s := { playing .stopped .paused 1000000 [item 9 none 0 0] with ps := { air.ps with records := [saved .breakIn .running] } }
    s.asks .con (ask [1#8]) [1#8] ∧ s.asks .con (ask [2#8]) [2#8] ∧ s.ps.records = saved .breakIn .running :: [] ∧
    s.noBreakTaken ∧ s.sq.list = [item 9 none 0 0] ∧ s.sq.tail = none ∧ s.deck DeckId.a.other = Deck.initial ∧
    (s.deck .a).state = .paused ∧ (s.deck .a).item = some 9 ∧ (saved .breakIn .running).cause ≠ .alert ∧
    (saved .breakIn .running).seqState = .running :=
  ⟨asks_ask (by decide), asks_ask (by decide), rfl, ⟨rfl, rfl⟩, rfl, rfl, rfl, rfl, rfl, by decide⟩

/-- A record of a head on deck A in its fade-out, which the push saved toward 0, over that head PAUSED at a position. -/
def fadedOver (position : Nat) (q : SeqState) : State :=
  { playing .stopped .paused position [item 9 (some 2000000) 0 300000] with
    ps := { air.ps with
      records := [{ saved .breakIn q with
        deckA := some { item := 9, state := .playing, position := position }
        roster := savedRoster.set .pla { state := .live, target := 0, remaining := 0, controller := .aut, faded := true } }] } }

theorem wit_nextAbandonsAndRepriseRepositions_target :
    (fadedOver 1800000 .running).asks .con (ask [2#8]) [2#8] ∧ (fadedOver 1800000 .running).noBreakTaken ∧
    (∀ r ∈ (fadedOver 1800000 .running).ps.records, r.deckA = some { item := 9, state := .playing, position := 1800000 } ∧
      r.roster.pla.state = .live ∧ r.roster.pla.target = 0 ∧ r.roster.pla.faded = true) ∧
    (item 9 (some 2000000) 0 300000).fadeReached (1800000 - 5000 * 48) = false ∧
    (item 9 (some 2000000) 0 300000).fadeReached (1950000 - 5000 * 48) = true ∧
    ((fadedOver 1800000 .running).entry .pla).controller = .aut :=
  ⟨asks_ask (by decide), ⟨rfl, rfl⟩, by decide, by decide, by decide, rfl⟩

/-- R62, R69: back before its fade-out point, a reprised head returns toward its item gain; still in its fade-out, toward 0. -/
theorem test_reprise_restores_the_gain :
    ((after (.resume .con (ask [2#8])) (fadedOver 1800000 .running)).entry .pla).target = 16384 ∧
    ((after (.resume .con (ask [2#8])) (fadedOver 1950000 .running)).entry .pla).target = 0 ∧
    (after (.resume .con (ask [2#8])) (fadedOver 1800000 .running)).ps.lastResume.map (fun y => (y.kind, y.item, y.position)) =
      some (.reprise, some 9, some 1560000) := by decide +kernel

theorem wit_fadeOutPointsAndItemEnds :
    (let s := playing .running .playing 900 [item 9 (some 1000) 0 100]
     s.sq.itemOn .a = some (item 9 (some 1000) 0 100) ∧ 1000 - 100 ≤ (s.deck .a).position ∧ (s.deck .a).fadeTaken = false ∧
     (s.deck .a).state = .playing ∧ (s.entry .pla).controller = .aut ∧
     ((s.setEntry .pla (up (s.entry .pla))).entry .pla).state = .live ∧ ((conHeld s .pla).entry .pla).controller = .con) ∧
    (let s := playing .running .playing 899 [item 9 (some 1000) 0 100]
     s.sq.itemOn .a = some (item 9 (some 1000) 0 100) ∧ (s.deck .a).position < 1000 - 100) ∧
    (∀ n ∈ [999, 1000],
      let s := { air with sq := { air.sq with tail := some (item 9 (some 1000) 0 0), deckA := deckAt .tailing 9 n } }
      s.noBreakTaken ∧ s.sq.list = [] ∧ s.sq.tail = some (item 9 (some 1000) 0 0) ∧ (s.deck .a).state = .tailing ∧
      (s.deck .a).item = some 9) := by
  refine ⟨by decide, by decide, fun n hn => ⟨⟨rfl, rfl⟩, rfl, rfl, rfl, rfl⟩⟩

/-- A LIVE item. -/
def liveItem (id : Nat) : Item := { item id none 0 0 with kind := .live, gain := 0 }

theorem wit_fadeOutPointsAndItemEnds_head :
    ∀ tl ∈ [[], [liveItem 10]], ∀ n ∈ [1000, 1001],
      let s := playing .running .playing n (item 9 (some 1000) 0 0 :: tl)
      s.noBreakTaken ∧ s.sq.state = .running ∧ s.sq.list = item 9 (some 1000) 0 0 :: tl ∧ s.sq.tail = none ∧
      (s.deck .a).state = .playing ∧ (s.deck .a).item = some 9 ∧ s.deck DeckId.a.other = Deck.initial ∧ 1000 ≤ (s.deck .a).position ∧
      (∀ i ∈ tl, i.id ≠ 9) ∧ (liveItem 10).kind = .live := by
  intro tl htl n hn
  refine ⟨⟨rfl, rfl⟩, rfl, rfl, rfl, rfl, rfl, rfl, ?_, ?_, rfl⟩
  · show 1000 ≤ n
    fin_cases hn <;> decide
  · fin_cases htl <;> decide

theorem wit_seguePointStartsTheNextItem :
    (let s := { playing .running .playing 900 [item 9 (some 1000) 100 0, item 10 (some 1000) 0 0] with
       sq := { (playing .running .playing 900 [item 9 (some 1000) 100 0, item 10 (some 1000) 0 0]).sq with
         deckB := deckAt .ready 10 0 } }
     s.sequenceSound ∧ s.noBreakTaken ∧ s.sq.state = .running ∧ s.sq.tail = none ∧ (s.deck .a).state = .playing ∧
     1000 - 100 ≤ (s.deck .a).position ∧ (s.deck .a).position < 1000 ∧ s.sq.segueTaken = false ∧
     (s.deck DeckId.a.other).state = .ready ∧ (s.deck DeckId.a.other).item = some 10 ∧
     (item 10 (some 1000) 0 0).fadeReached 0 = false ∧ (item 10 (some 1000) 0 0).segueReached 0 = false ∧
     (s.entry .plb).controller = .aut ∧ ((conHeld s .plb).entry .plb).controller = .con) ∧
    (∀ n ∈ [900, 999],
      let s := playing .running .playing n [item 9 (some 1000) 100 0, liveItem 10]
      s.noBreakTaken ∧ s.sq.state = .running ∧ s.sq.tail = none ∧ (s.deck .a).state = .playing ∧ (s.deck .a).item = some 9 ∧
      s.deck DeckId.a.other = Deck.initial ∧ 1000 - 100 ≤ (s.deck .a).position ∧ (s.deck .a).position < 1000 ∧
      s.sq.segueTaken = false) ∧
    air.noSignalStands ∧ air.headAtSegue = false ∧
    (let s := playing .running .playing 899 [item 9 (some 1000) 100 0]
     s.noSignalStands ∧ s.headAtSegue = false) := by
  refine ⟨⟨by unfold State.sequenceSound; decide, ⟨rfl, rfl⟩, by decide⟩, fun n hn => ⟨⟨rfl, rfl⟩, rfl, rfl, rfl, rfl, rfl, ?_⟩, rfl,
    rfl, rfl, rfl⟩
  fin_cases hn <;> decide

/-- R47: a segue that the mix has reached is a break opportunity also where a SEQ_READY, not SEGUE_POINT, starts the next item. -/
def readyAtSegue : State :=
  { playing .running .playing 900 [item 9 (some 1000) 100 0, item 10 (some 1000) 0 0] with
    sq := { (playing .running .playing 900 [item 9 (some 1000) 100 0, item 10 (some 1000) 0 0]).sq with deckB := deckAt .cueing 10 0 }
    al := { air.al with table := [waiting 7] } }

theorem test_segue_reached_gives_the_air :
    ((after (.seqReady .aut (ask [0#8, 10#8, 1#8])) readyAtSegue).al.onAir.map (·.id)) = some 7 ∧
    (after (.seqReady .aut (ask [0#8, 10#8, 1#8])) readyAtSegue).sq.deckB.state = .paused := by decide +kernel

/-- A RUNNING head at its segue point, which no event has taken yet, with alerts pending. -/
def atSegue (table : List PendingAlert) : State :=
  { playing .running .playing 900 [item 9 (some 1000) 100 0] with al := { air.al with table := table } }

/-- R47: a segue point that the mix has reached gives its break opportunity with the stop that comes first; no SEQ_START after it gives
another. -/
theorem test_segue_reached_goes_with_the_stop :
    let stopped := after (.seqStop .con (ask [])) (atSegue [])
    ((after (.seqStop .con (ask [])) (atSegue [waiting 7])).al.onAir.map (·.id)) = some 7 ∧
    stopped.sq.segueTaken = true ∧ stopped.sq.state = .stopped ∧
    (after (.seqStart .con (ask [])) { stopped with al := { stopped.al with table := [waiting 7] } }).al.onAir = none ∧
    (after (.seqStart .con (ask [])) { stopped with al := { stopped.al with table := [waiting 7] } }).sq.state = .running := by
  decide +kernel

/-- An item's 18 bytes: an id, MUSIC with a length, a length in milliseconds of one byte. -/
def itemOf (id k len : Byte) : List Byte :=
  [0#8, id, k, 1#8, 0#8, 0#8, 0#8, len, 0#8, 0#8, 0#8, 0#8, 0#8, 0#8, 0#8, 0#8, 0x40#8, 0#8]

/-- A sequence of one item, both decks occupied: nothing is left to cue. -/
def settledList : State :=
  { air with sq := { air.sq with list := [item 9 none 0 0], deckA := deckAt .ready 9 0, deckB := deckAt .paused 11 0 } }

theorem wit_seqAppendStoresAndCues :
    (settledList.asks .aut (ask (itemOf 10#8 0#8 5#8)) (itemOf 10#8 0#8 5#8) ∧
     settledList.asks .aut (ask (itemOf 9#8 3#8 0#8)) (itemOf 9#8 3#8 0#8) ∧
     settledList.asks .aut (ask (itemOf 0#8 4#8 0#8)) (itemOf 0#8 4#8 0#8) ∧ settledList.noBreakTaken ∧
     settledList.sq.state ≠ .running ∧ settledList.sq.deckA.state ≠ .free ∧ settledList.sq.deckB.state ≠ .free ∧
     settledList.sq.list.length < 32 ∧ word16 0#8 10#8 ∉ (settledList.sq.list ++ settledList.sq.tail.toList).map (·.id) ∧
     word16 0#8 9#8 ∈ (settledList.sq.list ++ settledList.sq.tail.toList).map (·.id) ∧ word16 0#8 0#8 = 0 ∧
     3 < (4#8).toNat ∧
     32 ≤ { settledList with sq := { settledList.sq with list := List.replicate 32 (item 9 none 0 0) } }.sq.list.length) ∧
    (air.asks .aut (ask (itemOf 10#8 2#8 5#8)) (itemOf 10#8 2#8 5#8) ∧ air.noBreakTaken ∧ air.sq.list = [] ∧
     air.sq.tail = none ∧ air.sq.deckA = Deck.initial ∧ air.sq.deckB = Deck.initial) :=
  ⟨⟨asks_ask (by decide), asks_ask (by decide), asks_ask (by decide), ⟨rfl, rfl⟩, by decide⟩, asks_ask (by decide),
    ⟨rfl, rfl⟩, rfl, rfl, rfl, rfl⟩

/-- The stored forms of what `itemOf` spells (R26): 5 ms are 240 samples; a LIVE item has no times. -/
theorem wit_itemsAreStoredFrom :
    Item.storedFrom (item 10 (some 240) 0 0) 0#8 10#8 0#8 1#8 0#8 0#8 0#8 5#8 0#8 0#8 0#8 0#8 0#8 0#8 0#8 0#8 0x40#8 0#8 ∧
    Item.storedFrom (item 12 (some 240) 0 0) 0#8 12#8 0#8 1#8 0#8 0#8 0#8 5#8 0#8 0#8 0#8 0#8 0#8 0#8 0#8 0#8 0x40#8 0#8 ∧
    Item.storedFrom (liveItem 12) 0#8 12#8 3#8 1#8 0#8 0#8 0#8 5#8 0#8 0#8 0#8 0#8 0#8 0#8 0#8 0#8 0x40#8 0#8 ∧
    itemOf 12#8 3#8 5#8 = [0#8, 12#8, 3#8, 1#8, 0#8, 0#8, 0#8, 5#8, 0#8, 0#8, 0#8, 0#8, 0#8, 0#8, 0#8, 0#8, 0x40#8, 0#8] := by
  refine ⟨?_, ?_, ?_, rfl⟩ <;> unfold Item.storedFrom <;> decide

/-- Two items, the head paused on deck A, the second cued on deck B. -/
def twoCued : State :=
  { air with
    sq := { air.sq with list := [item 9 none 0 0, item 10 none 0 0], deckA := deckAt .paused 9 0, deckB := deckAt .ready 10 0 } }

theorem wit_seqInsertAndRemoveEditTheList :
    (twoCued.asks .aut (ask (0#8 :: 9#8 :: itemOf 12#8 0#8 5#8)) (0#8 :: 9#8 :: itemOf 12#8 0#8 5#8) ∧
     twoCued.asks .aut (ask (0#8 :: 10#8 :: itemOf 12#8 0#8 5#8)) (0#8 :: 10#8 :: itemOf 12#8 0#8 5#8) ∧
     twoCued.noBreakTaken ∧ twoCued.sequenceSound ∧ twoCued.sq.state ≠ .running ∧ twoCued.sq.deckA.state ≠ .free ∧
     twoCued.sq.deckB.state ≠ .free ∧ word16 0#8 12#8 ∉ (twoCued.sq.list ++ twoCued.sq.tail.toList).map (·.id) ∧
     word16 0#8 8#8 ∉ twoCued.sq.list.map (·.id) ∧
     twoCued.sq.list = [item 9 none 0 0] ++ item 10 none 0 0 :: [] ∧ (twoCued.deck .b).item = some 10 ∧
     (twoCued.deck DeckId.b.other).item ≠ some 10 ∧ (twoCued.deck .b).state = .ready ∧ (twoCued.deck DeckId.b.other).item = some 9 ∧
     twoCued.sq.list.length < 32) ∧
    (twoCued.asks .aut (ask (0#8 :: 9#8 :: itemOf 0#8 4#8 5#8)) (0#8 :: 9#8 :: itemOf 0#8 4#8 5#8) ∧
     twoCued.asks .aut (ask (0#8 :: 9#8 :: itemOf 12#8 4#8 5#8)) (0#8 :: 9#8 :: itemOf 12#8 4#8 5#8) ∧
     twoCued.asks .aut (ask (0#8 :: 9#8 :: itemOf 10#8 3#8 5#8)) (0#8 :: 9#8 :: itemOf 10#8 3#8 5#8) ∧
     twoCued.asks .aut (ask (0#8 :: 8#8 :: itemOf 12#8 3#8 5#8)) (0#8 :: 8#8 :: itemOf 12#8 3#8 5#8) ∧ word16 0#8 0#8 = 0 ∧
     3 < (4#8).toNat ∧ (3#8).toNat ≤ 3 ∧ word16 0#8 10#8 ∈ (twoCued.sq.list ++ twoCued.sq.tail.toList).map (·.id) ∧
     (let s := { twoCued with sq := { twoCued.sq with list := List.replicate 32 (item 9 none 0 0) } }
      s.asks .aut (ask (0#8 :: 9#8 :: itemOf 12#8 3#8 5#8)) (0#8 :: 9#8 :: itemOf 12#8 3#8 5#8) ∧ 32 ≤ s.sq.list.length)) ∧
    (twoCued.asks .aut (ask [0#8, 10#8]) [0#8, 10#8] ∧ twoCued.asks .aut (ask [0#8, 9#8]) [0#8, 9#8] ∧
     (twoCued.deck DeckId.b.other).item = some 9 ∧
     (let s := { twoCued with sq := { twoCued.sq with deckB := deckAt .paused 11 0 } }
      s.asks .aut (ask [0#8, 10#8]) [0#8, 10#8] ∧ s.sq.deckA.item ≠ some (word16 0#8 10#8) ∧
      s.sq.deckB.item ≠ some (word16 0#8 10#8))) :=
  ⟨⟨asks_ask (by decide), asks_ask (by decide), ⟨rfl, rfl⟩, by unfold State.sequenceSound; decide,
    by decide⟩,
    ⟨asks_ask (by decide), asks_ask (by decide), asks_ask (by decide), asks_ask (by decide), by decide, by decide, by decide,
      by decide, asks_ask (by decide), by decide⟩,
    asks_ask (by decide), asks_ask (by decide), by decide, asks_ask (by decide), by decide⟩

theorem wit_seqReadyAndTheLateStart :
    ((let s := { settledList with sq := { settledList.sq with deckB := deckAt .cueing 10 0 } }
      s.asks .aut (ask [0#8, 10#8, 1#8]) [0#8, 10#8, 1#8] ∧ (s.deck .b).item = some (word16 0#8 10#8) ∧
      (s.deck .b).state = .cueing ∧ (1#8).toNat = (if DeckId.b = .a then 0 else 1)) ∧
     settledList.asks .aut (ask [0#8, 9#8, 0#8]) [0#8, 9#8, 0#8] ∧ settledList.noBreakTaken ∧
     settledList.sq.state ≠ .running ∧ settledList.sq.deckA.state ≠ .free ∧ settledList.sq.deckB.state ≠ .free ∧
     1 < (2#8).toNat ∧ (0#8).toNat = (if DeckId.a = .a then 0 else 1) ∧
     (settledList.deck .a).item = some (word16 0#8 9#8) ∧ (settledList.deck .a).state = .ready ∧
     (settledList.deck .a).item ≠ some (word16 0#8 10#8)) ∧
    (let s := playing .running .cueing 0 [item 9 (some 1000) 0 0]
     s.asks .aut (ask [0#8, 9#8, 0#8]) [0#8, 9#8, 0#8] ∧ s.noBreakTaken ∧ s.sq.state = .running ∧ s.sq.tail = none ∧
     (s.deck .a).state = .cueing ∧ (s.deck .a).item = some 9 ∧ s.deck DeckId.a.other = Deck.initial ∧
     (item 9 (some 1000) 0 0).fadeReached 0 = false ∧ (s.entry .pla).controller = .aut) :=
  ⟨⟨⟨asks_ask (by decide), by decide⟩, asks_ask (by decide), ⟨rfl, rfl⟩, by decide⟩, asks_ask (by decide), ⟨rfl, rfl⟩,
    by decide⟩

theorem wit_seqStartAndStop :
    (let s := playing .stopped .paused 500 [item 9 none 0 0]
     s.asks .aut (ask []) [] ∧ s.noBreakTaken ∧ s.sq.state = .stopped ∧ s.ps.records = [] ∧ s.air.state = .onAir ∧
     s.sq.tail = none ∧ (s.deck .a).state = .paused ∧ s.deck DeckId.a.other = Deck.initial ∧ (s.entry .pla).state = .off ∧
     (s.entry .pla).controller = .aut) ∧
    (air.asks .con (ask []) [] ∧ air.sq.state = .stopped ∧ air.sq.list = [] ∧ air.sq.deckA = Deck.initial) ∧
    ((stacked .breakIn .running).asks .con (ask []) [] ∧ (stacked .breakIn .running).ps.records ≠ []) ∧
    (dark.asks .con (ask []) [] ∧ dark.air.state ≠ .onAir) ∧
    ∀ q ∈ [SeqState.running, .halted],
      (playing q .playing 500 [item 9 none 0 0]).asks .con (ask []) [] ∧
      (playing q .playing 500 [item 9 none 0 0]).ps.records = [] ∧ (playing q .playing 500 [item 9 none 0 0]).noBreakTaken ∧
      (atSegue []).headAtSegue = true ∧ (atSegue []).noBreakTaken ∧ (atSegue []).sq.segueTaken = false :=
  ⟨⟨asks_ask (by decide), ⟨rfl, rfl⟩, by decide⟩, ⟨asks_ask (by decide), by decide⟩, ⟨asks_ask (by decide), by decide⟩,
    ⟨asks_ask (by decide), by decide⟩, fun _ _ => ⟨asks_ask ⟨⟨nofun, rfl, rfl, rfl⟩, by decide⟩, rfl, ⟨rfl, rfl⟩, rfl, ⟨rfl, rfl⟩, rfl⟩⟩

theorem wit_seqSkipAndContinue :
    (∀ p ∈ [(some 1000, 500), (some 501, 500), (none, 500), (some 500, 500)],
      (playing .running .playing p.2 [item 9 p.1 0 0]).asks .aut (ask []) [] ∧
      (playing .running .playing p.2 [item 9 p.1 0 0]).noBreakTaken ∧
      (playing .running .playing p.2 [item 9 p.1 0 0]).sq.state = .running) ∧
    (let s := playing .running .playing 500 [item 9 (some 601) 0 100]
     ((s.setEntry .pla (up (s.entry .pla))).entry .pla).state = .live ∧ (s.entry .pla).controller = .aut ∧
     (s.deck DeckId.a.other).state ≠ .playing ∧ (s.deck .a).position + 100 < 601) ∧
    (let s := { air with sq := { air.sq with state := .running, list := [item 9 none 0 0] } }
     s.asks .con (ask []) [] ∧ s.noBreakTaken ∧ s.sq.deckA.run = false ∧ s.sq.deckA.item ≠ some 9) ∧
    (air.asks .con (ask []) [] ∧ air.sq.state ≠ .running ∧ air.sq.state ≠ .halted ∧ air.noBreakTaken) ∧
    (let s := { air with sq := { air.sq with state := .running } }
     s.asks .con (ask []) [] ∧ s.sq.list = []) ∧
    (let s := { air with sq := { air.sq with state := .halted, list := [{ item 9 none 0 0 with kind := .live }], liveStart := some 3#32 } }
     s.asks .con (ask []) [] ∧ s.noBreakTaken ∧ s.sq.state = .halted ∧ s.sq.liveStart = some 3#32) := by
  refine ⟨fun p hp => ?_, by decide, ⟨asks_ask (by decide), ⟨rfl, rfl⟩, by decide⟩, ⟨asks_ask (by decide), by decide, by decide, rfl, rfl⟩,
    ⟨asks_ask (by decide), rfl⟩, ⟨asks_ask (by decide), ⟨rfl, rfl⟩, by decide⟩⟩
  fin_cases hp <;> exact ⟨asks_ask (by decide), ⟨rfl, rfl⟩, rfl⟩

/-- A RUNNING sequencer with its head waiting on deck A, alone or before an item CUEING on deck B. -/
def headWaits (st : DeckState) (tl : List Item) : State :=
  { playing .running st 0 (item 9 none 0 0 :: tl) with
    sq := { (playing .running st 0 (item 9 none 0 0 :: tl)).sq with
      deckB := if tl = [] then Deck.initial else deckAt .cueing 10 0 } }

/-- A halt with the next item on a READY deck. -/
def haltBefore : State :=
  { playing .halted .ready 0 [liveItem 9, item 10 (some 1000) 0 0] with
    sq := { (playing .halted .ready 0 [liveItem 9, item 10 (some 1000) 0 0]).sq with
      deckA := deckAt .ready 10 0, liveStart := some 3#32 } }

theorem wit_seqSkipAndContinue_waiting :
    (∀ st ∈ [DeckState.cueing, .ready], ∀ tl ∈ [[], [item 10 none 0 0]],
      (headWaits st tl).asks .con (ask []) [] ∧ (headWaits st tl).noBreakTaken ∧ (headWaits st tl).sq.state = .running ∧
      (headWaits st tl).sq.list = item 9 none 0 0 :: tl ∧ ((headWaits st tl).deck .a).item = some 9 ∧
      ((headWaits st tl).deck .a).state = st ∧ ((headWaits st tl).deck DeckId.a.other).state ≠ .playing ∧
      ((headWaits st tl).deck DeckId.a.other).item ≠ some 9 ∧
      (tl = [] ∨ ∃ n, tl = [n] ∧ n.kind ≠ .live ∧ ((headWaits st tl).deck DeckId.a.other).state = .cueing ∧
        ((headWaits st tl).deck DeckId.a.other).item = some n.id)) ∧
    (haltBefore.asks .con (ask []) [] ∧ haltBefore.noBreakTaken ∧ haltBefore.sq.state = .halted ∧
     haltBefore.sq.liveStart = some 3#32 ∧ haltBefore.sq.list = [liveItem 9, item 10 (some 1000) 0 0] ∧ haltBefore.sq.tail = none ∧
     (haltBefore.deck .a).state = .ready ∧ (haltBefore.deck .a).item = some 10 ∧ haltBefore.deck DeckId.a.other = Deck.initial ∧
     (item 10 (some 1000) 0 0).fadeReached 0 = false ∧ (item 10 (some 1000) 0 0).segueReached 0 = false) := by
  refine ⟨fun st hs tl ht => ?_, asks_ask (by decide), ⟨rfl, rfl⟩, by decide⟩
  fin_cases hs <;> fin_cases ht
  · exact ⟨asks_ask (by decide), ⟨rfl, rfl⟩, rfl, rfl, rfl, rfl, by decide, by decide, .inl rfl⟩
  · exact ⟨asks_ask (by decide), ⟨rfl, rfl⟩, rfl, rfl, rfl, rfl, by decide, by decide, .inr ⟨_, rfl, by decide, rfl, rfl⟩⟩
  · exact ⟨asks_ask (by decide), ⟨rfl, rfl⟩, rfl, rfl, rfl, rfl, by decide, by decide, .inl rfl⟩
  · exact ⟨asks_ask (by decide), ⟨rfl, rfl⟩, rfl, rfl, rfl, rfl, by decide, by decide, .inr ⟨_, rfl, by decide, rfl, rfl⟩⟩

theorem wit_recordsAreReadOut :
    (let r : DoneRecord := { item := 9, start := none, aired := 0, outcome := .skipped }
     let s := { air with sq := { air.sq with done := [r] } }
     s.asks .aut (ask []) [] ∧ s.sq.done = r :: []) ∧ air.asks .aut (ask []) [] ∧ air.sq.done = [] ∧
    (let r : LogRecord := { number := 0, id := 1, cls := .test, originator := 0, outcome := .filtered, arrival := 0#32, airing := none }
     let s := { air with al := { air.al with log := List.replicate 32 r } }
     s.asks .aut (ask [31#8]) [31#8] ∧ s.asks .con (ask [32#8]) [32#8] ∧ s.al.log[(31#8).toNat]? = some r ∧
     (31#8).toNat ≤ 31 ∧ 31 < (32#8).toNat) ∧
    air.asks .alr (ask [0#8]) [0#8] ∧ air.al.log.length ≤ (0#8).toNat :=
  ⟨⟨asks_ask (by decide), rfl⟩, asks_ask (by decide), rfl, ⟨asks_ask (by decide), asks_ask (by decide), by decide⟩,
    asks_ask (by decide), by decide⟩

/-- A line in a state: the lines are sound, and the console asks for line 1. -/
theorem call_sound (st : LineState) : (call st).linesSound := by
  refine ⟨?_, fun n => ?_, fun n => ?_, ?_, ?_⟩
  · cases st <;> decide
  · cases st <;> cases n <;> decide
  · unfold LineRec.sound; cases st <;> cases n <;> decide
  · cases st <;> decide
  · cases st <;> decide

theorem wit_lineAnswerAndScreen :
    (call .ringing).asks .con (ask [1#8]) [1#8] ∧ lineOf 1#8 = some .l1 ∧ lineOf 0#8 = none ∧ lineOf 5#8 = none ∧
    ((call .ringing).line .l1).state = .ringing ∧ ((call .ringing).line .l1).sound (call .ringing).alertActive ∧
    (call .hold).asks .con (ask [1#8]) [1#8] ∧ (call .hold).linesSound ∧ ((call .hold).line .l1).state = .hold ∧
    (call .ready).asks .con (ask [1#8]) [1#8] ∧ (call .ready).linesSound ∧ ((call .ready).line .l1).state = .ready :=
  ⟨asks_ask (by decide), by decide, by decide, by decide, by decide, (call_sound _).2.2.1 .l1, asks_ask (by decide),
    call_sound _, by decide, asks_ask (by decide), call_sound _, by decide⟩

theorem wit_lineHoldAndReadyBeginAHold :
    ∀ st ∈ [LineState.screen, .onAir, .hold, .ringing],
      (call st).asks .con (ask [1#8]) [1#8] ∧ (call st).asks .con (ask [1#8, 1#8]) [1#8, 1#8] ∧ (call st).linesSound ∧
      ((call st).line .l1).state = st := fun st _ =>
  ⟨asks_ask ⟨⟨by cases st <;> decide, rfl, rfl, rfl⟩, by decide⟩, asks_ask ⟨⟨by cases st <;> decide, rfl, rfl, rfl⟩, by decide⟩, call_sound st, rfl⟩

/-- Line 1 READY, lines 3 and 4 on air. -/
def twoOnAir : State :=
  { call .ready with lc := { (call .ready).lc with lines := { (call .ready).lc.lines with l3 := lineIn .onAir, l4 := lineIn .onAir } } }

theorem twoOnAir_sound : twoOnAir.linesSound := by
  refine ⟨by decide, fun n => ?_, fun n => ?_, by decide, by decide⟩
  · cases n <;> decide
  · unfold LineRec.sound; cases n <;> decide

theorem wit_lineAirPutsTheCallerOnAir :
    (call .ready).asks .con (ask [0#8]) [0#8] ∧ (call .ready).linesSound ∧ (call .ready).al.onAir = none ∧
    (call .ready).lc.queue.head? = some .l1 ∧ (call .ready).lc.onAirCount < 2 ∧
    (call .screen).asks .con (ask [1#8]) [1#8] ∧ (call .screen).linesSound ∧ ((call .screen).line .l1).state = .screen ∧
    (call .screen).lc.queue = [] ∧ (5#8 ≠ 0#8 ∧ lineOf 5#8 = none) ∧
    twoOnAir.asks .con (ask [0#8]) [0#8] ∧ twoOnAir.linesSound ∧ twoOnAir.lc.onAirCount = 2 ∧
    (alerting .closing 0).asks .con (ask [4#8]) [4#8] ∧ (alerting .closing 0).al.onAir ≠ none ∧ lineOf 4#8 ≠ none :=
  ⟨asks_ask (by decide), call_sound _, by decide, by decide, by decide, asks_ask (by decide), call_sound _, by decide,
    by decide, by decide, asks_ask (by decide), twoOnAir_sound, by decide, asks_ask (by decide), by decide, by decide⟩

/-- A station on the air with a line 1 record. -/
def callWith (r : LineRec) : State :=
  { call r.state with lc := { (call r.state).lc with lines := { (call r.state).lc.lines with l1 := r } } }

/-- Only what a record shows in its state makes the lines sound, not its counters. -/
theorem callWith_sound (r : LineRec) (h : r.sound false) : (callWith r).linesSound := by
  obtain ⟨a, b, c, d, e⟩ := call_sound r.state
  have hc : (callWith r).lc.onAirCount = (call r.state).lc.onAirCount := by
    obtain ⟨st⟩ := r
    cases st <;> simp [LineController.onAirCount, LineId.all, List.filter, PerLine.get, callWith, call, lineIn]
  refine ⟨a, fun n => ?_, fun n => ?_, hc ▸ d, fun ha => ?_⟩
  · cases n
    · exact b .l1
    · exact b .l2
    · exact b .l3
    · exact b .l4
  · cases n
    · exact h
    · exact c .l2
    · exact c .l3
    · exact c .l4
  · have := e ha; exact ⟨hc.trans this.1, this.2⟩

/-- Line 1 in a state with its loop low for a number of samples. -/
def quiet (st : LineState) (low : Nat) : State := callWith { lineIn st with loopLow := low }

theorem quiet_sound (st : LineState) (low : Nat) : (quiet st low).linesSound :=
  callWith_sound _ (by cases st <;> simp [LineRec.sound, lineIn, LineState.seized, LineState.feedIn])

theorem wit_lineDropReleasesTheCall :
    (∀ low ∈ [19199, 19200], (quiet .onAir low).linesSound ∧ (quiet .onAir low).asks .con (ask [1#8]) [1#8] ∧
      ((quiet .onAir low).line .l1).seize = true ∧ ((quiet .onAir low).line .l1).loopLow = low) ∧
    lineOf 1#8 = some .l1 ∧ lineOf 0#8 = none ∧ (quiet .ringing 0).linesSound ∧
    (quiet .ringing 0).asks .con (ask [1#8]) [1#8] ∧ ((quiet .ringing 0).line .l1).seize = false :=
  ⟨fun _ _ => ⟨quiet_sound _ _, asks_ask ⟨⟨nofun, rfl, rfl, rfl⟩, by decide⟩, rfl, rfl⟩, by decide, by decide, quiet_sound _ _,
    asks_ask (by decide), by decide⟩

/-- Line 1 with its ring filter in a stage, at a count. -/
def filterAt (st : LineState) (g : RingStage) (n : Nat) : State := callWith { lineIn st with ringStage := g, ringLevel := n }

theorem filterAt_sound (st : LineState) (g : RingStage) (n : Nat) : (filterAt st g n).linesSound :=
  callWith_sound _ (by cases st <;> simp [LineRec.sound, lineIn, LineState.seized, LineState.feedIn])

/-- Line 1 RINGING with its timer at two counts. -/
def ringingAt (gap total : Nat) : State := callWith { lineIn .ringing with ringTimer := some { gap := gap, total := total } }

/-- Line 1 in HOLD since 0, at an air clock. -/
def heldSince (clock : Clock) : State :=
  let s := callWith { lineIn .hold with holdStart := some 0#32 }
  { s with ev := { s.ev with clock := clock } }

theorem wit_lineTimersAndTheRingFilter :
    (∀ n ∈ [4799, 4800], (filterAt .idle .waitingLow n).linesSound ∧ ((filterAt .idle .waitingLow n).line .l1).ringLevel = n) ∧
    (∀ st ∈ [LineState.idle, .ringing, .onAir], (filterAt st .countingHigh 4800).linesSound ∧
      ((filterAt st .countingHigh 4800).line .l1).state = st ∧
      ((filterAt st .countingHigh 4800).line .l1).ringStage = .countingHigh) ∧
    (∀ p ∈ [(383999, 0), (384000, 0), (0, 1439999), (0, 1440000)], (ringingAt p.1 p.2).linesSound ∧
      ((ringingAt p.1 p.2).line .l1).ringTimer = some { gap := p.1, total := p.2 }) ∧
    ∀ c ∈ [14399999#32, 14400000#32], (heldSince c).linesSound ∧ ((heldSince c).line .l1).holdStart = some 0#32 ∧
      ((heldSince c).line .l1).holdLong = false ∧ (heldSince c).pf.working = factory :=
  ⟨fun _ _ => ⟨filterAt_sound _ _ _, rfl⟩, fun _ _ => ⟨filterAt_sound _ _ _, rfl, rfl⟩,
    fun _ _ => ⟨callWith_sound _ (by simp [LineRec.sound, lineIn, LineState.seized, LineState.feedIn, LineState.feed]), rfl⟩,
    fun _ _ => ⟨callWith_sound { lineIn .hold with holdStart := some 0#32 } (by simp [LineRec.sound, lineIn, LineState.seized, LineState.feedIn, LineState.feed]), rfl, rfl, rfl⟩⟩

theorem wit_lineTimersAndTheRingFilter_limits :
    factory.holdLimit * 48000 = 14400000 ∧ factory.ringTimeout * 48000 = 1440000 := by decide

theorem wit_delayTargetAndDump :
    (delaying .frozen 1 1 0).asks .con (ask [0#8, 1#8]) [0#8, 1#8] ∧ (delaying .frozen 1 1 0).du.mode = .frozen ∧
    (delaying .building 0 480 0).asks .con (ask [0xFF#8, 0xFF#8]) [0xFF#8, 0xFF#8] ∧
    1920000 = min (word16 0xFF#8 0xFF#8) 4000 * 480 ∧ (delaying .steady 3 3 0).asks .con (ask []) [] ∧
    3 = min (delaying .steady 3 3 0).du.store.length ((delaying .steady 3 3 0).pf.working.dumpSize * 480) ∧
    air.asks .con (ask []) [] ∧ 0 = min air.du.store.length (air.pf.working.dumpSize * 480) :=
  ⟨asks_ask (by decide), rfl, asks_ask (by decide), by decide, asks_ask (by decide), by decide, asks_ask (by decide), by decide⟩

/-- A notice: id 7 in its last byte, a class, an urgency, a window of 1 s, originator 1, audio, 1 s, and a region count. -/
def noticeOf (id cls urgency regions : Byte) : List Byte :=
  [0#8, 0#8, 0#8, id, cls, urgency, 0#8, 1#8, 1#8, 1#8, 0#8, 1#8, regions]

/-- A station on the air with one alert pending. -/
def alertWaiting (armed : Bool) (clock : Clock) : State :=
  { air with al := { air.al with table := [waiting 7], armed := armed }, ev := { air.ev with clock := clock } }

theorem wit_noticeChecksInOrder :
    air.asks .alr (ask (noticeOf 7#8 3#8 0#8 9#8)) ([0#8, 0#8, 0#8, 7#8, 3#8, 0#8, 0#8, 1#8, 1#8, 1#8, 0#8, 1#8, 9#8] ++ []) ∧
    8 < (9#8).toNat ∧
    air.asks .alr (ask (noticeOf 7#8 4#8 0#8 0#8)) ([0#8, 0#8, 0#8, 7#8, 4#8, 0#8, 0#8, 1#8, 1#8, 1#8, 0#8, 1#8, 0#8] ++ []) ∧
    3 < (4#8).toNat ∧
    (alertWaiting true 0#32).asks .alr (ask (noticeOf 7#8 2#8 1#8 0#8)) (noticeOf 7#8 2#8 1#8 0#8) ∧
    7 = word32 0#8 0#8 0#8 7#8 ∧ (∃ p ∈ (alertWaiting true 0#32).al.table, p.id = 7) ∧
    (let s := { air with pf := { air.pf with working := { factory with airTests := false } } }
     s.asks .alr (ask (noticeOf 7#8 0#8 0#8 0#8)) (noticeOf 7#8 0#8 0#8 0#8) ∧ s.pf.working.airTests = false ∧
     (∀ p ∈ s.al.table, p.id ≠ 7) ∧ ∀ x, s.al.onAir = some x → x.id ≠ 7) ∧
    (dark.asks .alr (ask (noticeOf 7#8 1#8 0#8 0#8)) (noticeOf 7#8 1#8 0#8 0#8) ∧ dark.air.state = .offAir ∧
     (1#8).toNat ≤ 3) ∧
    (State.reset.asks .alr (ask (noticeOf 7#8 2#8 1#8 0#8)) (noticeOf 7#8 2#8 1#8 0#8) ∧ State.reset.air.state = .starting ∧
     State.reset.al.onAir = none ∧ State.reset.al.table.length < 8) :=
  ⟨asks_ask (by decide), by decide, asks_ask (by decide), by decide, asks_ask (by decide), by decide, ⟨_, .head _, rfl⟩,
    ⟨asks_ask (by decide), rfl, nofun, nofun⟩, ⟨asks_ask (by decide), by decide⟩, ⟨asks_ask (by decide), by decide⟩⟩

/-- A station on the air whose profile lists region 5. -/
def regional : State := { air with pf := { air.pf with working := { factory with regions := [5] } } }

/-- A start with a table of eight: seven WARNINGs, and last an ADVISORY. -/
def tableOfEight : State :=
  { State.reset with
    al := { State.reset.al with
      table := [waiting 21, waiting 22, waiting 23, waiting 24, waiting 25, waiting 26, waiting 27] ++
        [{ waiting 28 with cls := .advisory }] } }

theorem wit_noticeChecksInOrder_regions :
    (regional.asks .alr (ask (noticeOf 7#8 3#8 0#8 1#8 ++ [0#8, 6#8])) (noticeOf 7#8 3#8 0#8 1#8 ++ ([0#8, 6#8] ++ [])) ∧
     ([0#8, 6#8] : List Byte).length = 2 * (1#8).toNat ∧ (1#8).toNat ≤ 8 ∧ regional.pf.working.regions ≠ [] ∧ 0 < (1#8).toNat ∧
     word16 0#8 6#8 ∉ regional.pf.working.regions) ∧
    (regional.asks .alr (ask (noticeOf 7#8 3#8 0#8 8#8 ++ List.replicate 16 0#8))
       (noticeOf 7#8 3#8 0#8 8#8 ++ (List.replicate 16 0#8 ++ [])) ∧
     (List.replicate 16 0#8 : List Byte).length = 2 * (8#8).toNat ∧ (8#8).toNat ≤ 8 ∧ word16 0#8 0#8 ∉ regional.pf.working.regions) ∧
    (∀ c ∈ [(2#8 : Byte), 1#8, 0#8],
      tableOfEight.asks .alr (ask (noticeOf 7#8 c 0#8 0#8)) (noticeOf 7#8 c 0#8 0#8 ++ ([] ++ [])) ∧ c.toNat ≤ 3) ∧
    tableOfEight.air.state = .starting ∧ tableOfEight.al.onAir = none ∧ tableOfEight.pf.working.airTests = true ∧
    (∀ q ∈ tableOfEight.al.table, q.id ≠ 7) ∧ (tableOfEight.al.table.map (·.cls.code)).getLast? = some AlertClass.advisory.code ∧
    AlertClass.advisory.code < AlertClass.warning.code :=
  ⟨⟨asks_ask (by decide), by decide⟩, ⟨asks_ask (by decide), by decide⟩,
    fun c hc => ⟨asks_ask ⟨⟨nofun, rfl, rfl, rfl⟩, by simp [noticeOf]⟩, by fin_cases hc <;> decide⟩, by decide⟩

theorem wit_noticesTakeTheAir :
    (air.asks .alr (ask (noticeOf 7#8 1#8 0#8 0#8)) (noticeOf 7#8 1#8 0#8 0#8) ∧ 1 ≤ (1#8).toNat ∧ (1#8).toNat ≤ 3 ∧
     air.air.state = .onAir ∧ air.al.armed = true ∧ air.al.onAir = none ∧ air.al.table = []) ∧
    (let s := alerting .message 10
     s.asks .alr (ask (noticeOf 8#8 3#8 0#8 0#8)) (noticeOf 8#8 3#8 0#8 0#8) ∧ s.al.onAir = some (alertIn .message 10) ∧
     (alertIn .message 10).cls = .advisory ∧ s.air.state ≠ .offAir ∧ (alertIn .message 10).id ≠ word32 0#8 0#8 0#8 8#8 ∧
     s.al.table = []) :=
  ⟨⟨asks_ask (by decide), by decide⟩, asks_ask (by decide), rfl, rfl, by decide⟩

theorem wit_noticesTakeTheAir_wake :
    ∀ c ∈ [(2#8 : Byte), 3#8], dark.asks .alr (ask (noticeOf 7#8 c 0#8 0#8)) (noticeOf 7#8 c 0#8 0#8) ∧ dark.air.state = .offAir ∧
      2 ≤ c.toNat ∧ c.toNat ≤ 3 ∧ dark.pf.working.wake.alertWake = true ∧ dark.tl.mainFailed = false ∧ dark.al.armed = true ∧
      dark.al.onAir = none ∧ dark.al.table = [] :=
  fun c hc => ⟨asks_ask ⟨⟨nofun, rfl, rfl, rfl⟩, by simp [noticeOf]⟩, rfl, by fin_cases hc <;> decide, by fin_cases hc <;> decide, rfl, rfl, rfl, rfl, rfl⟩

theorem wit_pendingAlertsComeDue :
    (∀ p ∈ (alertWaiting false 47999#32).al.table, p.id = 7 →
      ∀ e, p.expiry = some e → ((alertWaiting false 47999#32).ev.clock - p.arrival).toNat < (e - p.arrival).toNat) ∧
    ((alertWaiting false 48000#32).al.table = [] ++ waiting 7 :: [] ∧ (waiting 7).id = 7 ∧ (waiting 7).due = false ∧
     (waiting 7).expiry = some 48000#32 ∧ (48000#32 - (waiting 7).arrival).toNat ≤ (48000#32 - (waiting 7).arrival).toNat ∧
     (alertWaiting false 48000#32).al.armed = false) ∧
    air.asks .alr (ask []) [] ∧ air.al.armed = true ∧
    (alertWaiting false 0#32).asks .alr (ask []) [] ∧ (alertWaiting false 0#32).al.armed = false ∧
    ∀ p, (alertWaiting false 0#32).al.table.head? = some p → p.due = false := by
  refine ⟨fun p hp _ e he => ?_, by decide, asks_ask (by decide), rfl, asks_ask (by decide), rfl, fun p hp => ?_⟩
  · cases List.mem_singleton.1 hp; cases he; decide
  · cases hp; rfl

/-- A station on the air with alerts pending. -/
def alertsWaiting (armed : Bool) (table : List PendingAlert) : State :=
  { alertWaiting armed 48000#32 with al := { (alertWaiting armed 48000#32).al with table := table } }

theorem wit_pendingAlertsComeDue_armed :
    (∀ post ∈ [[], [waiting 8]],
      let s := alertsWaiting true (waiting 7 :: post)
      s.al.table = [] ++ waiting 7 :: post ∧ (∀ q ∈ ([] ++ post : List PendingAlert), q.id ≠ 7) ∧ (waiting 7).expiry = some 48000#32 ∧
      (48000#32 - (waiting 7).arrival).toNat ≤ (s.ev.clock - (waiting 7).arrival).toNat ∧ s.al.armed = true ∧ s.al.onAir = none ∧
      s.air.state = .onAir) ∧
    (let s := alertsWaiting true [waiting 6, waiting 7]
     s.al.table = [waiting 6] ++ waiting 7 :: [] ∧ ([waiting 6] : List PendingAlert).head? = some (waiting 6) ∧
     (waiting 6).due = false ∧ (waiting 6).id ≠ 7) ∧
    (let s := alertsWaiting false [{ waiting 7 with due := true }, waiting 8]
     s.asks .alr (ask []) [] ∧ s.al.armed = false ∧ s.al.onAir = none ∧ s.air.state = .onAir ∧
     s.al.table = { waiting 7 with due := true } :: [waiting 8]) ∧
    (let s := { alertsWaiting true [waiting 7] with sq := { air.sq with state := .running } }
     s.asks .con (ask []) [] ∧ s.sq.state = .running ∧ s.ps.records = [] ∧ s.al.table = waiting 7 :: [] ∧ (waiting 7).due = false ∧
     s.al.armed = true ∧ s.al.onAir = none ∧ s.air.state = .onAir) := by
  refine ⟨fun post hp => ⟨rfl, ?_, rfl, Nat.le_refl _, rfl, rfl, rfl⟩, by decide, ⟨asks_ask (by decide), rfl, rfl, rfl, rfl⟩,
    asks_ask (by decide), rfl, rfl, rfl, rfl, rfl, rfl, rfl⟩
  fin_cases hp <;> decide

theorem wit_alertPhasesAndCancel :
    (∀ c ∈ [383999, 384000], (alerting .attention c).al.onAir = some (alertIn .attention c)) ∧
    (∀ c ∈ [47999, 48000], (alerting .message c).al.onAir = some (alertIn .message c) ∧
      (alerting .message c).asks .alr (ask [0#8, 0#8, 0#8, 7#8]) [0#8, 0#8, 0#8, 7#8] ∧
      (alerting .message c).asks .alr (ask [0#8, 0#8, 0#8, 8#8]) [0#8, 0#8, 0#8, 8#8]) ∧
    (alerting .closing 0).asks .alr (ask [0#8, 0#8, 0#8, 7#8]) [0#8, 0#8, 0#8, 7#8] ∧
    (alertIn .attention 0).attention = 384000 ∧ (alertIn .message 0).maxDuration = 48000 ∧
    (alertIn .closing 0).id = word32 0#8 0#8 0#8 7#8 ∧ (alertIn .closing 0).id ≠ word32 0#8 0#8 0#8 8#8 ∧
    (alertWaiting false 0#32).asks .alr (ask [0#8, 0#8, 0#8, 7#8]) [0#8, 0#8, 0#8, 7#8] ∧
    (alertWaiting false 0#32).al.table = [] ++ waiting 7 :: [] ∧ (alertWaiting false 0#32).al.armed = false ∧
    air.asks .alr (ask [0#8, 0#8, 0#8, 7#8]) [0#8, 0#8, 0#8, 7#8] ∧ air.al.table = [] ∧ air.al.onAir = none :=
  ⟨fun _ _ => rfl, fun _ _ => ⟨rfl, asks_ask ⟨⟨nofun, rfl, rfl, rfl⟩, by decide⟩, asks_ask ⟨⟨nofun, rfl, rfl, rfl⟩, by decide⟩⟩, asks_ask (by decide), rfl, rfl,
    by decide, by decide, asks_ask (by decide), rfl, rfl, asks_ask (by decide), rfl, rfl⟩

theorem wit_alertPhasesAndCancel_armed :
    air.al.onAir = none ∧ air.asks .alr (ask [0#8, 0#8, 0#8, 7#8]) [0#8, 0#8, 0#8, 7#8] ∧
    (let s := alertsWaiting true [waiting 7, { waiting 8 with due := true }]
     s.asks .alr (ask [0#8, 0#8, 0#8, 7#8]) [0#8, 0#8, 0#8, 7#8] ∧ s.al.table = [] ++ waiting 7 :: [{ waiting 8 with due := true }] ∧
     s.al.armed = true ∧ s.al.onAir = none ∧ s.air.state = .onAir) ∧
    (let s := alertsWaiting true [waiting 8, waiting 7]
     s.asks .alr (ask [0#8, 0#8, 0#8, 7#8]) [0#8, 0#8, 0#8, 7#8] ∧ s.al.table = [waiting 8] ++ waiting 7 :: [] ∧
     (∀ q ∈ [waiting 8], q.id ≠ 7) ∧ ∀ q, ([waiting 8] ++ [] : List PendingAlert).head? = some q → q.due = false) := by
  refine ⟨rfl, asks_ask (by decide), ⟨asks_ask (by decide), rfl, rfl, rfl, rfl⟩, asks_ask (by decide), rfl, by decide, ?_⟩
  intro q hq; cases hq; rfl

theorem wit_alertEndGivesTheAirBack :
    (∀ c ∈ [47999, 48000], (alerting .closing c).al.onAir = some (alertIn .closing c) ∧
      (alerting .closing c).ps.records = saved .alert .stopped :: []) ∧
    (saved .alert .stopped).onAirLines = [] ∧ (alerting .closing 48000).al.table = [] ∧
    (alerting .closing 48000).air.state = .onAir := ⟨fun _ _ => ⟨rfl, rfl⟩, rfl, rfl, rfl⟩

/-- An alert that has run its CLOSING over a record that saved a RUNNING sequencer, its head at 500 on deck A, and line 1 on the air. -/
def alertOver (r : Context) : State :=
  let s := preemptedOver r
  { s with
    al := { air.al with onAir := some (alertIn .closing 48000) }
    lc := { s.lc with lines := { s.lc.lines with l1 := { lineIn .hold with feed := .alert } } }
    du := { air.du with mode := .frozen } }

theorem wit_alertEndGivesTheAirBack_running :
    ∀ r ∈ [ranWithLine .alert, { ranWithLine .alert with gone := noneGone.set .l1 true }],
      (alertOver r).al.onAir = some (alertIn .closing 48000) ∧ (alertOver r).ps.records = r :: [] ∧ r.cause = .alert ∧
      r.seqState = .running ∧ r.onAirLines = [.l1] ∧ r.deckA = some { item := 9, state := .playing, position := 500 } ∧
      r.deckB = none ∧ (alertOver r).noBreakTaken ∧ (alertOver r).air.state = .onAir ∧
      (alertOver r).pf.working.afterAlert = .goOn ∧ (alertOver r).sq.state = .preempted ∧
      (alertOver r).sq.list = [item 9 (some 1000) 100 0] ∧ (alertOver r).sq.tail = none ∧
      ((alertOver r).deck .a).state = .paused ∧ ((alertOver r).deck .a).item = some 9 ∧
      (alertOver r).deck DeckId.a.other = Deck.initial ∧
      (item 9 (some 1000) 100 0).segueReached ((alertOver r).deck .a).position = false ∧ (alertOver r).lc.onAirCount = 0 ∧
      ((alertOver r).line .l1).state = .hold ∧ ((alertOver r).line .l1).seize = true ∧ ((alertOver r).line .l1).ringTimer = none ∧
      (r.gone.get .l1 = false ∨ r.gone.get .l1 = true) := by
  intro r hr
  fin_cases hr <;> exact ⟨rfl, rfl, rfl, rfl, rfl, rfl, rfl, ⟨rfl, rfl⟩, rfl, rfl, rfl, rfl, rfl, rfl, rfl, rfl, rfl, rfl, rfl, rfl, rfl,
    by decide⟩

/-- A wake with its alert in CLOSING, one alert still pending, with the sign-on pending flag at a value. -/
def waking (signOn : Bool) (count : Nat) : State :=
  { alerting .closing count with
    air := { air.air with state := .alertWake, signOnPending := signOn }
    al := { (alerting .closing count).al with table := [{ waiting 8 with cls := .advisory }, waiting 9] } }

theorem wit_alertEndGivesTheAirBack_wake :
    ∀ b, (waking b 48000).al.onAir = some (alertIn .closing 48000) ∧
      (waking b 48000).ps.records = saved .alert .stopped :: [] ∧ (waking b 48000).air.state = .alertWake ∧
      (waking b 48000).tl.mainFailed = false ∧ (waking b 48000).collectionsFit ∧ (waking b 48000).air.signOnPending = b :=
  fun b => ⟨rfl, rfl, rfl, rfl, by unfold State.collectionsFit; cases b <;> decide, rfl⟩

/-- A start not yet over, with AUT's sign-on enable at a value. -/
def signing (a : AirState) (autSignOn : Bool) : State :=
  { air with air := { air.air with state := a }
             pf := { air.pf with working := { factory with wake := { factory.wake with autSignOn := autSignOn } } } }

theorem wit_signOnAndSignOff :
    (∀ a ∈ [AirState.starting, .onAir, .alertWake, .offAir], ∀ b,
      (signing a b).asks .aut (ask []) [] ∧ (signing a b).air.state = a ∧ (signing a b).pf.working.wake.autSignOn = b ∧
      (signing a b).al.table = [] ∧ (signing a b).tl.mainFailed = false ∧ (signing a b).al.onAir = none ∧
      (signing a b).ps.records = [] ∧ (signing a b).noBreakTaken) ∧
    ((stacked .failover .stopped).asks .con (ask []) [] ∧ (stacked .failover .stopped).ps.records ≠ []) ∧
    ((alerting .closing 0).asks .con (ask []) [] ∧ (alerting .closing 0).al.onAir ≠ none) ∧
    ((quiet .hold 0).asks .con (ask []) [] ∧ ((quiet .hold 0).line .l1).seize = true ∧ (quiet .hold 0).air.state = .onAir) :=
  ⟨fun _ _ _ => ⟨asks_ask ⟨⟨nofun, rfl, rfl, rfl⟩, by decide⟩, rfl, rfl, rfl, rfl, rfl, rfl, rfl, rfl⟩, ⟨asks_ask (by decide), by decide⟩,
    ⟨asks_ask (by decide), by decide⟩, ⟨asks_ask (by decide), by decide⟩⟩

theorem wit_wakeEnableWritesAndSweeps :
    air.asks .con (ask [7#8]) [7#8] ∧ air.air.state ≠ .offAir ∧
    (let s := { dark with al := { dark.al with table := [waiting 7], armed := false } }
     s.asks .con (ask [0#8]) [0#8] ∧ s.air.state = .offAir ∧ s.al.armed = false) :=
  ⟨asks_ask (by decide), by decide, asks_ask (by decide), by decide⟩

theorem wit_wakeEnableWritesAndSweeps_wake :
    (let s := { dark with al := { dark.al with table := [{ waiting 8 with cls := .advisory, due := true }, { waiting 7 with due := true }] } }
     s.asks .con (ask [4#8]) [4#8] ∧ s.air.state = .offAir ∧ s.collectionsFit ∧ s.al.armed = true ∧ s.al.onAir = none ∧
     s.tl.mainFailed = false ∧
     s.al.table.filter (fun p => !(!((4#8 : Byte).getLsbD 2 && (p.cls = .warning || p.cls = .emergency)))) =
       { waiting 7 with due := true } :: []) ∧
    (let s := { dark with al := { dark.al with table := [waiting 7] } }
     s.asks .con (ask [4#8]) [4#8] ∧ s.collectionsFit ∧ ∀ p ∈ s.al.table, p.due = false) :=
  ⟨⟨asks_ask (by decide), rfl, by unfold State.collectionsFit; decide, by decide⟩, asks_ask (by decide),
    by unfold State.collectionsFit; decide, by decide⟩

/-- A block at its end on the air, with a peak, clean or not, after a silence run. -/
def judged (clean : Bool) (peak run : Nat) : State :=
  { air with air := { air.air with monitor := { phase := 0, peak := peak, clean := clean, run := run, due := true } } }

theorem wit_silenceIsJudgedAndFailsOver :
    (judged false 0 0).air.monitor.due = true ∧ (judged false 0 0).air.monitor.clean = false ∧ air.air.monitor.due = false ∧
    (∀ p ∈ [(8389, 0), (8388, 0), (8388, 749), (8388, 1498), (8388, 1499)], (judged true p.1 p.2).air.monitor.due = true ∧
      (judged true p.1 p.2).air.monitor.clean = true ∧ (judged true p.1 p.2).monitorHeld = false) ∧
    factory.silenceThreshold = 8389 ∧ factory.silenceLimit * 50 = 750 ∧ factory.silenceLimit * 100 = 1500 ∧
    14400 = min factory.preemptFade 10000 * 48 := by decide

/-- A silent block at the limit while the head stands at its segue point, with alerts pending. -/
def judgedAtSegue (table : List PendingAlert) : State := { atSegue table with air := (judged true 0 1499).air }

theorem wit_silenceIsJudgedAndFailsOver_segue :
    (∀ p ∈ [0, 8388], (judged true p 1499).pushGivesNoAir) ∧ (judgedAtSegue []).pushGivesNoAir ∧
    (let s := judgedAtSegue [waiting 7, waiting 8]
     s.breakDue ∧ s.al.table = waiting 7 :: [waiting 8] ∧ (waiting 7).due = false ∧ s.al.armed = true ∧
     s.air.monitor.due = true ∧ s.air.monitor.clean = true ∧ s.monitorHeld = false) :=
  ⟨fun p _ => .inr (.inr (.inr nofun)), .inr (.inr (.inr nofun)), .inr (by decide), by decide⟩

/-- A station with 16 pairs gathered, at an air clock, with a send queue. -/
def framing (clock : Clock) (queue : List SiteChar) : State :=
  { air with ev := { air.ev with clock := clock }
             tl := { air.tl with pairs := List.replicate 16 { l := 0, r := 0 }, sendQueue := queue } }

theorem wit_frameBoundaryFormsTheFrame :
    (∀ q ∈ [[], [{ marker := true, data := 0xA0#8 }], [{ marker := false, data := 0x01#8 }]],
      (framing 16#32 q).ev.clock.toNat % 16 = 0 ∧ (framing 16#32 q).tl.pairs.length = 16 ∧ (framing 16#32 q).tl.holder = none) ∧
    (∀ n ∈ [15, 16],
      let s := { framing 16#32 [] with
        tl := { (framing 16#32 []).tl with
          sendQueue := List.replicate n { marker := false, data := 0#8 }, holder := some { unit := .u2, op := .poll } } }
      s.ev.clock.toNat % 16 = 0 ∧ s.tl.pairs.length = 16 ∧ s.tl.sendQueue.length = n ∧
      s.tl.holder = some { unit := .u2, op := .poll }) ∧
    (framing 15#32 []).ev.clock.toNat % 16 ≠ 0 ∧ air.tl.pairs.length < 16 := by decide

/-- A station that is sending a frame of 108 bytes, in a sample period of the frame. -/
def sending (k : Nat) : State :=
  { air with
    ev := { air.ev with clock := BitVec.ofNat 32 (16 + k) }
    tl := { air.tl with frame := [0xB5#8, 0x4E#8] ++ List.replicate 106 1#8, pairs := List.replicate k { l := 0, r := 0 } } }

theorem wit_frameBoundaryFormsTheFrame_bits :
    ∀ k ∈ [0, 15], (sending k).settled ∧ (sending k).tl.frame.length = 108 ∧ (sending k).tl.pairs.length < 16 := by
  intro k hk
  fin_cases hk <;> exact ⟨settled_of (by decide +kernel), rfl, by decide⟩

/-- R176: TXL_FWD sends the sync most significant bit first, and the last bit of the frame ends the 16th sample period. -/
theorem test_forward_line :
    (after (.mix (quietMix [])) (sending 0)).tl.forward.take 16 =
      [true, false, true, true, false, true, false, true, false, true, false, false, true, true, true, false] ∧
    (after (.mix (quietMix [])) (sending 15)).tl.forward.drop 46 =
      [false, false, false, false, false, false, false, true] := by decide +kernel

/-- The check is a fold of bit steps from a register of ones (R149). -/
theorem wit_frameBoundaryFormsTheFrame_check :
    ∃ (bit : BitVec 16 → Bool → BitVec 16) (crc : List Byte → BitVec 16) (sample : Int → List Byte),
      (∀ r b, bit r b = if r.msb = b then r <<< 1 else (r <<< 1) ^^^ 0x1021#16) ∧ crc [] = 0xFFFF#16 ∧
      (∀ bs b, crc (bs ++ [b]) = bit (bit (bit (bit (bit (bit (bit (bit (crc bs) (b.getLsbD 7)) (b.getLsbD 6)) (b.getLsbD 5))
        (b.getLsbD 4)) (b.getLsbD 3)) (b.getLsbD 2)) (b.getLsbD 1)) (b.getLsbD 0)) ∧
      (∀ x, sample x =
        [(BitVec.ofInt 24 x).extractLsb' 16 8, (BitVec.ofInt 24 x).extractLsb' 8 8, (BitVec.ofInt 24 x).extractLsb' 0 8]) :=
  let bit : BitVec 16 → Bool → BitVec 16 := fun r b => if r.msb = b then r <<< 1 else (r <<< 1) ^^^ 0x1021#16
  ⟨bit, fun bs => bs.foldl (fun r b => [7, 6, 5, 4, 3, 2, 1, 0].foldl (fun r i => bit r (b.getLsbD i)) r) 0xFFFF#16, _,
    fun _ _ => rfl, rfl, fun _ _ => by simp [List.foldl_append], fun _ => rfl⟩

/-- A site character without a marker. -/
def plain (b : Byte) : SiteChar := { marker := false, data := b }

theorem wit_pollsAndReplyWindows :
    (let s := { air with tl := { air.tl with pollTimer := 0, turn := .u3, sendQueue := List.replicate 14 (plain 0#8) } }
     s.tl.pollTimer = 0 ∧ (s.tl.units.get .u0).role ≠ .unused ∧ (s.tl.units.get s.tl.turn).role = .unused ∧
     UnitId.u0 = s.tl.turn.next ∧ s.tl.sendQueue.length ≤ 14 ∧ s.tl.holder = none) ∧
    (let s := { air with tl := { air.tl with pollTimer := 0, sendQueue := List.replicate 15 (plain 0#8) } }
     s.tl.pollTimer = 0 ∧ 14 < s.tl.sendQueue.length) ∧
    air.tl.pollTimer ≠ 0 ∧
    (∀ p ∈ [(1, 0), (0, 1), (0, 2)],
      let s := { air with
        tl := { air.tl with window := some { unit := .u2, left := p.1 }
                            units := { air.tl.units with u2 := { air.tl.units.u2 with misses := p.2 } } }
        pf := { air.pf with working := { factory with autoChangeover := false } } }
      s.tl.window = some { unit := .u2, left := p.1 } ∧ (s.tl.units.get .u2).misses = p.2 ∧
      (s.tl.units.get .u2).presence ≠ .lost ∧ s.pf.working.autoChangeover = false) := by decide

/-- A reply window of the main unit that has run, after a number of misses, with the presence of the main and the standby units. -/
def missing (misses : Nat) (main standby : Presence) : State :=
  { air with
    tl := { air.tl with
      window := some { unit := .u0, left := 0 }
      units := { air.tl.units with
        u0 := { air.tl.units.u0 with misses := misses, presence := main }
        u1 := { air.tl.units.u1 with presence := standby } } } }

theorem wit_pollsAndReplyWindows_lost :
    (∀ m ∈ [0, 2, 3], (missing m .lost .present).tl.window = some { unit := .u0, left := 0 } ∧
      ((missing m .lost .present).tl.units.get .u0).presence = .lost) ∧
    (missing 2 .present .present).pf.working.autoChangeover = true ∧ (missing 2 .present .present).tl.active = .main ∧
    (missing 2 .present .present).air.state = .onAir ∧ (missing 2 .present .present).tl.holder = none ∧
    (missing 2 .present .present).tl.sendQueue.length ≤ 10 ∧
    Link.mainDown { (missing 2 .present .present).tl with
      window := none
      units := (missing 2 .present .present).tl.units.set .u0
        { (missing 2 .present .present).tl.units.u0 with misses := 3, presence := .lost } } ∧
    (missing 2 .present .unknown).tl.units.u0.misses = 2 :=
  ⟨by decide, rfl, rfl, rfl, rfl, by decide, ⟨.u0, .u1, rfl, rfl, rfl, .inl rfl⟩, rfl⟩

/-- R158: the message that a unit completes in the last of the 1,440 sample periods of its window is accepted, and one sample period
later the window has closed with a miss. -/
def lastTake (left : Nat) : State :=
  { missing 0 .unknown .unknown with
    tl := { (missing 0 .unknown .unknown).tl with
      window := some { unit := .u0, left := left }
      fifo := [{ marker := false, data := 0#8 }]
      assembler := some { unit := .u0, chars := [0#8, 0#8, 0#8], bad := false } } }

theorem test_window_covers_its_last_take :
    ((after (.mix (quietMix [])) (lastTake 1)).tl.units.u0.presence = .present) ∧
    ((after (.mix (quietMix [])) (lastTake 0)).tl.units.u0.presence = .unknown) ∧
    ((after (.mix (quietMix [])) (lastTake 0)).tl.units.u0.misses = 1) ∧ (after (.mix (quietMix [])) (lastTake 0)).tl.stray = 1 := by
  decide +kernel

theorem wit_returnCharacterIsReceived :
    air.pf.held = false ∧ 1 ≤ air.tl.receiver.n ∧ air.tl.receiver.f ≤ 15 ∧ air.tl.receiver.prev = true ∧
    270 = 16 * air.tl.receiver.n + air.tl.receiver.f ∧ air.tl.fifo.length < 4 ∧
    4 ≤ { air with tl := { air.tl with fifo := List.replicate 4 (plain 0#8) } }.tl.fifo.length := by decide

/-- A link with characters received, a message being assembled, and a reply window. -/
def taking (fifo : List SiteChar) (m : Option Assembly) (left : Nat) : State :=
  { air with
    tl := { air.tl with fifo := fifo, assembler := m, window := some { unit := .u2, left := left } }
    pf := { air.pf with working := { factory with autoChangeover := false } } }

theorem wit_assemblerTakesOneCharacter :
    air.tl.fifo = [] ∧
    (let s := taking [{ marker := true, data := 0xA2#8 }] none 1
     s.tl.took = false ∧ unitOfSelect 0xA2#8 = some .u2 ∧ s.tl.assembler = none) ∧
    unitOfSelect 0xA4#8 = none ∧ (taking [plain 0#8] none 1).tl.assembler = none ∧
    ((taking [plain 9#8] (some { unit := .u2, chars := [1#8, 2#8], bad := false }) 1).tl.fifo = plain 9#8 :: [] ∧
     ([1#8, 2#8] : List Byte).length < 3) ∧
    (∀ p ∈ [(false, 0#8, 1), (true, 0#8, 1), (false, 6#8, 1), (false, 0#8, 0)],
      let s := taking [plain p.2.1] (some { unit := .u2, chars := [1#8, 2#8, 3#8], bad := p.1 }) p.2.2
      s.tl.took = false ∧ s.tl.fifo = plain p.2.1 :: [] ∧ s.tl.window = some { unit := .u2, left := p.2.2 } ∧
      s.tl.bearer s.tl.active.role ≠ some .u2 ∧ s.pf.working.autoChangeover = false) := by decide

/-- A state about to take the fifth character of a message of a unit, its reply window open. -/
def accepting (s : State) (u : UnitId) (flags code : Byte) : State :=
  { s with
    tl := { s.tl with
      fifo := [plain code], took := false, assembler := some { unit := u, chars := [flags, 0#8, 0#8], bad := false }
      window := some { unit := u, left := 1 } } }

/-- A station without the changeover, whose remote sign-on enable is set, in an air state. -/
def remote (a : AirState) : State :=
  { air with
    air := { air.air with state := a }
    pf := { air.pf with
      working := { factory with autoChangeover := false, wake := { factory.wake with remoteSignOn := true } } } }

theorem wit_assemblerTakesOneCharacter_requests :
    (∀ a ∈ [AirState.onAir, .offAir, .starting, .alertWake], ∀ code ∈ [(0#8 : Byte), 1#8, 2#8, 3#8, 4#8, 5#8],
      let s := accepting (remote a) .u2 0#8 code
      s.tl.took = false ∧ s.tl.fifo = plain code :: [] ∧
      s.tl.assembler = some { unit := .u2, chars := [0#8, 0#8, 0#8], bad := false } ∧
      s.tl.window = some { unit := .u2, left := 1 } ∧ (s.tl.units.get .u2).lastCode = 0#8 ∧ s.tl.bearer s.tl.active.role ≠ some .u2 ∧
      s.pf.working.autoChangeover = false ∧ s.pf.working.wake.remoteSignOn = true ∧ s.al.onAir = none ∧ s.ps.records = [] ∧
      s.al.table = [] ∧ s.noBreakTaken ∧ s.fallbackOnTop = false) ∧
    (accepting (stacked .failover .stopped) .u2 0#8 1#8).fallbackOnTop = true ∧
    (accepting (alerting .message 10) .u2 0#8 2#8).al.onAir ≠ none ∧
    (accepting air .u2 0#8 3#8).pf.working.wake.remoteSignOn = false := by
  refine ⟨fun a ha code hc => ⟨rfl, rfl, rfl, rfl, rfl, ?_, rfl, rfl, rfl, rfl, rfl, ⟨rfl, rfl⟩, rfl⟩, rfl, by decide, rfl⟩
  fin_cases ha <;> fin_cases hc <;> decide

/-- A remote FALLBACK as it comes while the head stands at its segue point, with an alert pending. -/
theorem wit_assemblerTakesOneCharacter_segue :
    let s := accepting { remote .onAir with sq := (atSegue []).sq, al := (atSegue [waiting 7]).al } .u2 0#8 1#8
    s.tl.took = false ∧ s.tl.fifo = plain 1#8 :: [] ∧ s.fallbackOnTop = false ∧ s.al.onAir = none ∧ s.air.state = .onAir ∧
    s.breakDue ∧ s.al.table = waiting 7 :: [] ∧ (waiting 7).due = false ∧ s.al.armed = true ∧
    (accepting (remote .onAir) .u2 0#8 1#8).pushGivesNoAir :=
  ⟨rfl, rfl, rfl, rfl, rfl, .inr (by decide), rfl, rfl, rfl, .inr (.inr (.inr nofun))⟩

/-- A select cuts a message short; the warning of the active transmitter lowers the ceiling; a main unit that faults is left. -/
theorem wit_assemblerTakesOneCharacter_link :
    (let s := taking [{ marker := true, data := 0xA2#8 }] (some { unit := .u0, chars := [1#8], bad := false }) 1
     s.tl.took = false ∧ unitOfSelect 0xA2#8 = some .u2 ∧ s.tl.assembler ≠ none) ∧
    (let s := accepting air .u0 0x10#8 0#8
     s.tl.bearer s.tl.active.role = some .u0 ∧ (0x10#8 : Byte).getLsbD 4 = true ∧ s.pf.working.ceilingOnReflect = true ∧
     s.tl.reflectSeen = false) ∧
    (let s := accepting (missing 0 .present .present) .u0 0x02#8 0#8
     s.pf.working.autoChangeover = true ∧ s.tl.active = .main ∧ s.air.state = .onAir ∧ s.tl.holder = none ∧
     s.tl.sendQueue.length ≤ 10 ∧
     Link.mainDown { s.tl with
       units := s.tl.units.set .u0
         { s.tl.units.u0 with last := some { flags := 0x02#8, forward := 0#8, reflected := 0#8, request := 0#8 } } }) :=
  ⟨by decide, by decide, rfl, rfl, rfl, rfl, by decide, .u0, .u1, rfl, rfl, rfl, .inr ⟨_, rfl, by decide⟩⟩

theorem wit_txSelectAndCeilingRestore :
    (taking [] none 0).asks .con (ask [1#8]) [1#8] ∧ (taking [] none 0).asks .con (ask [0#8]) [0#8] ∧
    (taking [] none 0).asks .con (ask [2#8]) [2#8] ∧ (taking [] none 0).asks .con (ask []) [] ∧
    (taking [] none 0).tl.active = .main ∧ (1#8).toNat = (if Transmitter.standby = .main then 0 else 1) ∧
    (let s := taking [] none 0
     s.pf.working.autoChangeover = false ∧ s.air.state = .onAir ∧ s.tl.units.u0.role = .mainTx ∧
     s.tl.units.u1.role = .standbyTx ∧ s.tl.units.u2.role = .siteControl ∧ s.tl.holder = none ∧ s.tl.sendQueue = []) ∧
    (let s := { air with tl := { air.tl with units := { air.tl.units with u1 := SiteUnit.initial .unused } } }
     s.asks .con (ask [1#8]) [1#8] ∧ Transmitter.standby ≠ s.tl.active ∧ ∀ u, (s.tl.units.get u).role ≠ Transmitter.standby.role) :=
  ⟨asks_ask (by decide), asks_ask (by decide), asks_ask (by decide), asks_ask (by decide), by decide, by decide, by decide,
    asks_ask (by decide), by decide, fun u => by cases u <;> decide⟩

theorem wit_txSelectAndCeilingRestore_checks :
    (let s := { missing 3 .lost .present with tl := { (missing 3 .lost .present).tl with active := .standby } }
     s.asks .con (ask [0#8]) [0#8] ∧ Transmitter.main ≠ s.tl.active ∧ s.pf.working.autoChangeover = true ∧ s.air.state = .onAir ∧
     s.tl.mainDown) ∧
    (let s := { missing 3 .present .present with tl := { (missing 3 .present .present).tl with active := .standby } }
     s.asks .con (ask [0#8]) [0#8] ∧ s.pf.working.autoChangeover = true ∧
     ∀ x, s.tl.bearer .mainTx = some x → (s.tl.units.get x).presence = .present ∧ (s.tl.units.get x).last = none) ∧
    (dark.asks .con (ask [1#8]) [1#8] ∧ dark.tl.active = .main ∧ dark.pf.working.autoChangeover = true ∧
     dark.air.state ≠ .onAir ∧ dark.air.state ≠ .alertWake ∧ (dark.tl.units.get .u1).role = Transmitter.standby.role ∧
     dark.tl.holder = none ∧ dark.tl.sendQueue.length + (dark.tl.charsTo .siteControl .goStandby).length ≤ 16) :=
  ⟨⟨asks_ask (by decide), by decide, rfl, rfl, .u0, .u1, rfl, rfl, rfl, .inl rfl⟩,
    ⟨asks_ask (by decide), rfl, fun x hx => by cases hx; exact ⟨rfl, rfl⟩⟩, asks_ask (by decide), rfl, rfl, by decide⟩

/-- A lane of the console in a phase, in flight or not. -/
def conLane (phase : LanePhase) (inFlight : Bool) : State :=
  { air with cl := { air.cl with con := { Lane.initial with phase := phase, inFlight := inFlight } } }

/-- The console's lane in a transaction, with bits clocked in, a reply being shifted out, and its timer at a count. -/
def clocking (bits : List Bool) (timer : Nat) : State :=
  { air with
    cl := { air.cl with
      con := { Lane.initial with
        phase := .inTransaction, bits := bits, timer := timer
        shift := some { collision := false, lost := false, code := .done, body := [] }, shiftStands := true } } }

theorem wit_transactionsReadReplies :
    (conLane .idle false).cl.con.phase = .idle ∧ (conLane .inTransaction false).cl.con.phase ≠ .idle ∧
    (∀ n ∈ [622079, 622080], (clocking [] n).cl.con.phase = .inTransaction ∧ (clocking [] n).cl.con.timer = n) ∧
    (conLane .waitRise false).cl.con.phase ≠ .inTransaction ∧ (conLane .waitRise false).cl.con.phase = .waitRise ∧
    (clocking [] 0).cl.con.bits = [] ∧
    (encodeTransaction (.readOnlyTransaction .con [0#8, 1#8]) = some (.con, [0#8, 1#8]) ∧
     (clocking [false, false] 0).cl.con.bits <+: [(0#8 : Byte), 1#8].flatMap (fun b => [7, 6, 5, 4, 3, 2, 1, 0].map fun i => b.getLsbD i) ∧
     ¬ (clocking [true] 0).cl.con.bits <+: [(0#8 : Byte), 1#8].flatMap (fun b => [7, 6, 5, 4, 3, 2, 1, 0].map fun i => b.getLsbD i) ∧
     bytesIn (clocking [true] 0).cl.con.bits ≠ [0#8, 1#8]) ∧
    (clocking [true] 0).settled ∧ ∀ p b, (conLane p b).pf.held = false ∧ ∀ bits n, (clocking bits n).pf.held = false := by
  refine ⟨rfl, by decide, fun _ _ => ⟨rfl, rfl⟩, by decide, rfl, rfl, by decide, settled_of (by decide +kernel),
    fun _ _ => ⟨rfl, fun _ _ => rfl⟩⟩

/-- The functions the clause on LCLK edges speaks of are those of the lane. -/
theorem wit_transactionsReadReplies_edges :
    (∀ r : Reply, replyBits (some r) = r.bytes.flatMap fun b => [7, 6, 5, 4, 3, 2, 1, 0].map fun i => b.getLsbD i) ∧
    (∀ bits : List Bool, bits.length < 8 → bytesIn bits = []) ∧
    (∀ (b : Byte) (more : List Bool), bytesIn ([7, 6, 5, 4, 3, 2, 1, 0].map (fun i => b.getLsbD i) ++ more) = b :: bytesIn more) ∧
    (∀ (x : Lane) (n : Nat), x.elapse n =
      if x.phase = .inTransaction ∧ x.timer < 622080 then { x with timer := min (x.timer + n) 622080 } else x) ∧
    ∀ (x : Lane) (e : LclkEdge) (y : Lane), y = x.elapse e.wait → x.edge e =
      if ¬ (y.phase = .inTransaction ∧ y.timer < 622080) then y
      else if e.rising then
        { y with timer := 0, bits := y.bits ++ [e.ldi], rx := (bytesIn (y.bits ++ [e.ldi])).take 62
                 sent := (replyBits y.shift ++ List.replicate (y.bits.length + 1) false).take (y.bits.length + 1) }
      else { y with timer := 0 } := by
  refine ⟨fun _ => rfl, fun _ h => bytesIn_short h, fun b more => bytesIn_byteBits b more, fun x n => ?_, ?_⟩
  · unfold Lane.elapse
    simp only [Lane.timing_iff]
    rfl
  · rintro x e _ rfl
    simp only [Lane.edge, Lane.timing_iff, ite_not]
    rfl

/-- R163, R167: eight rising edges after 0000000 bring byte 0x01, and LDO gives the status byte 0x01 of the reply, first bit first. -/
theorem test_bits_of_a_lane :
    let x := (clocking [false, false, false, false, false, false, false] 0).cl.con.clocked [edge 26 true true, edge 26 false true]
    x.rx = [0x01#8] ∧ x.sent = [false, false, false, false, false, false, false, true] ∧ x.timer = 596 ∧ x.ldo = some false := by
  decide

/-- R169: a mix takes the timeout of a lane whose timer has run out. -/
theorem test_mix_takes_the_lane_timeout :
    (after (.mix (quietMix [])) (clocking [true] 622080)).cl.con.phase = .waitRise ∧
    (after (.mix (quietMix [])) (clocking [true] 622080)).cl.con.errors = 1 ∧
    (after (.mix (quietMix [])) (clocking [true] 622079)).cl.con.phase = .inTransaction := by decide +kernel

theorem wit_lanesSettleRequests :
    (conLane .inTransaction false).asks .con (ask []) [] ∧ (0x06#8 : Byte) ≠ 0#8 ∧
    (((conLane .idle true).lane .con).phase ≠ .waitRise ∧ ((conLane .idle true).lane .con).inFlight = true) ∧
    air.asks .aut (ask []) [] ∧ air.asks .con (ask []) [] ∧ air.asks .alr (ask []) [] ∧ ([] : List Byte).length < 1 ∧
    air.listens .con ∧ (60 < (61#8).toNat ∧ ([] : List Byte).length < (1#8).toNat) ∧
    (∀ rest ∈ [[], [61#8], [1#8], [0#8]], encodeTransaction (.breakIn .con rest) = some (.con, 0x28#8 :: rest) ∧
      encodeTransaction (.profileWrite .con true rest) = some (.con, 0x5A#8 :: rest)) ∧
    (conLane .idle true).pf.held = false ∧ ((conLane .idle true).lane .con).bits = [] ∧ ((conLane .waitRise false).lane .con).phase = .waitRise :=
  ⟨asks_ask (by decide), by decide, by decide, asks_ask (by decide), asks_ask (by decide), asks_ask (by decide), by decide,
    ⟨nofun, rfl, rfl, rfl⟩, by decide, fun _ _ => ⟨rfl, rfl⟩, rfl, rfl, rfl⟩

theorem wit_authorityTableRefuses :
    air.asks .con (ask []) [] ∧ LaneId.con ≠ .aut ∧ air.asks .aut (ask []) [] ∧ LaneId.aut ≠ .con ∧ LaneId.aut ≠ .alr ∧
    air.asks .alr (ask []) [] :=
  ⟨asks_ask (by decide), by decide, asks_ask (by decide), by decide, by decide, asks_ask (by decide)⟩

theorem wit_transactionsDecodeAsEncoded :
    (Instr.profileWrite .con true [2#8]).wellFormed = true ∧
    encodeTransaction (.profileWrite .con true [2#8]) = some (.con, [0x5A#8, 2#8]) ∧
    (Instr.unknownRequestCode .aut 0x06#8 []).wellFormed = true ∧
    (Instr.readOnlyTransaction .alr [0#8, 1#8]).wellFormed = true := by decide

theorem wit_statusReadShowsThePages :
    (∀ n ∈ [0#8, 1#8, 2#8, 3#8, 4#8], n.toNat ≤ 4) ∧ air.asks .aut (ask [4#8]) [4#8] ∧ air.asks .alr (ask [5#8]) [5#8] ∧
    4 < (5#8).toNat := ⟨by decide, asks_ask (by decide), asks_ask (by decide), by decide⟩

/-- The functions the statement speaks of are those of the pages. -/
theorem wit_statusReadShowsThePages_parts :
    (∀ b k, flagBit b k = if b then 2 ^ k else 0) ∧
    (∀ k : Deck, deckBytes k = bytesOf 1 (match k.state with
      | .free => 0 | .cueing => 1 | .ready => 2 | .playing => 3 | .tailing => 4 | .paused => 5) ++
      bytesOf 2 (k.item.getD 0) ++ bytesOf 4 k.position) ∧
    (∀ k : LineRec, lineBytes k = bytesOf 1 (match k.state with
      | .idle => 0 | .ringing => 1 | .screen => 2 | .hold => 3 | .ready => 4 | .onAir => 5) ++
      bytesOf 1 (flagBit k.seize 0 + flagBit k.holdLong 1 + flagBit k.holdStart.isSome 2) ++
      bytesOf 1 (match k.feed with | .mixMinus => 0 | .hold => 1 | .screen => 2 | .alert => 3) ++
      bytesOf 4 (k.holdStart.getD 0#32).toNat ++ bytesOf 4 ((k.ringTimer.map (·.total)).getD 0)) ∧
    (∀ k : SiteUnit, unitBytes k = bytesOf 1 (match k.role with | .mainTx => 0 | .standbyTx => 1 | .siteControl => 2 | .unused => 3) ++
      bytesOf 1 (match k.presence with | .unknown => 0 | .present => 1 | .lost => 2) ++ bytesOf 1 k.misses ++
      (match k.last with
        | some x => [1#8, x.flags, x.forward, x.reflected]
        | none => [0#8, 0#8, 0#8, 0#8]) ++ [k.lastCode]) := by
  refine ⟨fun _ _ => rfl, fun k => ?_, fun k => ?_, fun k => ?_⟩
  · cases h : k.state <;> simp only [deckBytes, h] <;> rfl
  · cases h : k.state <;> cases g : k.feed <;> simp only [lineBytes, h, g] <;> rfl
  · cases h : k.role <;> cases g : k.presence <;> cases e : k.last <;> simp only [unitBytes, h, g, e] <;> rfl

theorem wit_eventsReachTheLanes :
    air.asks .alr (ask [0#8, 0#8, 0#8, 1#8]) [0#8, 0#8, 0#8, 1#8] ∧
    air.asks .alr (ask [0x10#8, 0#8, 0#8, 0#8, 1#8]) [0x10#8, 0#8, 0#8, 0#8, 1#8] ∧
    ((0xF0#8 ++ 0#8 ++ 0#8 ++ 0#8 : BitVec 32).setWidth 29) = 0x10000000#29 :=
  ⟨asks_ask (by decide), asks_ask (by decide), by decide⟩

theorem wit_profileReadShowsTheWorkingCopy :
    State.reset.asks .con (ask [1#8]) [1#8] ∧ State.reset.pf.load ≠ none ∧ air.pf.load = none ∧
    (∀ c ∈ [0x00#8, 0x21#8], air.asks .con (ask [c]) [c] ∧ (c = 0#8 ∨ 0x20 < c.toNat)) ∧
    (∀ c ∈ [0x01#8, 0x20#8], air.asks .con (ask [c]) [c] ∧ 1 ≤ c.toNat ∧ c.toNat ≤ 0x20) ∧
    (0x20#8, [0#8, 0#8, 1#8, 2#8, 1#8, 1#8, 1#8, 1#8]) =
      ((0x20#8 : Byte), [Source.pla, .plb, .mic, .fbk, .ln1, .ln2, .ln3, .ln4].map fun src =>
        match air.pf.working.duckClasses.get src with | .ducked => (0#8 : Byte) | .ducker => 1#8 | .neither => 2#8) :=
  ⟨asks_ask (by decide), by decide, rfl,
    fun c hc => ⟨asks_ask ⟨⟨nofun, rfl, rfl, rfl⟩, by simp⟩, by fin_cases hc <;> decide⟩,
    fun c hc => ⟨asks_ask ⟨⟨nofun, rfl, rfl, rfl⟩, by simp⟩, by fin_cases hc <;> decide⟩, by decide⟩

theorem wit_profileWriteBeginsAndCompletes :
    State.reset.asks .con (ask [1#8, 1#8, 9#8]) (1#8 :: BitVec.ofNat 8 [9#8].length :: ([9#8] ++ [])) ∧
    State.reset.pf.load ≠ none ∧
    air.asks .con (ask [1#8, 1#8, 9#8]) (1#8 :: BitVec.ofNat 8 [9#8].length :: ([9#8] ++ [])) ∧
    air.asks .con (ask [0x11#8, 2#8, 0xFF#8, 0xFF#8]) (0x11#8 :: BitVec.ofNat 8 [0xFF#8, 0xFF#8].length :: ([0xFF#8, 0xFF#8] ++ [])) ∧
    air.asks .con (ask [0x21#8, 0#8]) (0x21#8 :: BitVec.ofNat 8 ([] : List Byte).length :: ([] ++ [])) ∧
    air.asks .con (ask [1#8, 0#8]) (1#8 :: BitVec.ofNat 8 ([] : List Byte).length :: ([] ++ [])) ∧ air.pf.load = none ∧
    air.pf.write = none ∧
    ∀ n ∈ [0, 1], { air with pf := { air.pf with write := some { left := n, image := factory } } }.pf.write =
      some { left := n, image := factory } :=
  ⟨asks_ask (by decide), by decide, asks_ask (by decide), asks_ask (by decide), asks_ask (by decide), asks_ask (by decide), rfl,
    rfl, fun _ _ => rfl⟩

/-- A value of each shape of field, at the ends of a range (R185). -/
theorem wit_profileWriteBeginsAndCompletes_fields :
    (∃ f, fieldWrites 0x01#8 [9#8] f) ∧ (∃ f, fieldWrites 0x11#8 [0xFF#8, 0xFF#8] f ∧ (f factory).startTarget = 4000) ∧
    (∃ f, fieldWrites 0x0C#8 [0#8] f ∧ (f factory).silenceLimit = 2) ∧
    (∃ f, fieldWrites 0x02#8 [1#8, 0#8, 5#8] f ∧ (f factory).regions = [5]) ∧ (∃ f, fieldWrites 0x02#8 [0#8] f) ∧
    (∃ f, fieldWrites 0x0F#8 [127#8] f ∧ (f factory).buildDivisor = 64) ∧
    (∃ f, fieldWrites 0x16#8 [4#8] f ∧ (f factory).wake.alertWake = true) ∧
    (∃ f, fieldWrites 0x1C#8 [0#8, 1#8, 2#8, 9#8] f ∧ (f factory).roles = factory.roles) ∧
    (∃ f, fieldWrites 0x1D#8 [1#8] f ∧ (f factory).autoChangeover = true) ∧
    (∃ f, fieldWrites 0x20#8 (List.replicate 8 3#8) f ∧ (f factory).duckClasses.pla = .neither) ∧
    (∀ f, ¬ fieldWrites 0x01#8 [] f) ∧ (∀ f, ¬ fieldWrites 0x20#8 [0#8] f) := by
  refine ⟨⟨_, .inl ⟨_, .head _, rfl, rfl, rfl⟩⟩, ⟨_, .inl ⟨⟨0x11#8, 2, 0, 4000, fun p x => { p with startTarget := x }⟩, by simp [numberFields], rfl, rfl, rfl⟩, by decide⟩,
    ⟨_, .inl ⟨⟨0x0C#8, 1, 2, 120, fun p x => { p with silenceLimit := x }⟩, by simp [numberFields], rfl, rfl, rfl⟩, rfl⟩,
    ⟨_, .inr (.inl ⟨1#8, [5], rfl, rfl, rfl, by decide, by decide, rfl⟩), rfl⟩,
    ⟨_, .inr (.inl ⟨0#8, [], rfl, rfl, rfl, by decide, by decide, rfl⟩)⟩,
    ⟨_, .inr (.inr (.inl ⟨_, rfl, .inr (.inr (.inl ⟨rfl, rfl⟩))⟩)), rfl⟩,
    ⟨_, .inr (.inr (.inl ⟨_, rfl, .inr (.inr (.inr (.inr (.inl ⟨rfl, rfl⟩))))⟩)), rfl⟩,
    ⟨_, .inr (.inr (.inr (.inl ⟨_, _, _, _, rfl, rfl, rfl⟩))), rfl⟩,
    ⟨_, .inr (.inr (.inl ⟨_, rfl, .inr (.inr (.inr (.inr (.inr (.inr ⟨rfl, rfl⟩)))))⟩)), rfl⟩,
    ⟨_, .inr (.inr (.inr (.inr ⟨_, _, _, _, _, _, _, _, rfl, rfl, rfl⟩))), rfl⟩, ?_, ?_⟩
  · intro f h; simp [fieldWrites, numberFields] at h
  · intro f h; simp [fieldWrites, numberFields] at h

/-- The states of its clauses: a changed role, a changeover that holds once enabled or once the roles are written, and a wake enable
written on the air and off it. -/
theorem wit_profileWriteBeginsAndCompletes_effects :
    (let s := missing 3 .lost .present
     s.asks .con (ask [0x1D#8, 1#8, 1#8]) (0x1D#8 :: BitVec.ofNat 8 [1#8].length :: ([1#8] ++ [])) ∧ s.pf.load = none ∧
     s.tl.active = .main ∧ s.air.state = .onAir ∧ s.tl.mainDown ∧ s.tl.holder = none ∧ s.tl.sendQueue.length ≤ 10) ∧
    (air.asks .con (ask [0x1C#8, 4#8, 1#8, 0#8, 2#8, 3#8]) (0x1C#8 :: BitVec.ofNat 8 [1#8, 0#8, 2#8, 3#8].length :: ([1#8, 0#8, 2#8, 3#8] ++ [])) ∧
     roleStored 1#8 ≠ air.tl.units.u0.role ∧ air.tl.active ≠ .standby) ∧
    (∀ s ∈ [air, dark], s.asks .con (ask [0x16#8, 1#8, 0#8]) (0x16#8 :: BitVec.ofNat 8 [0#8].length :: ([0#8] ++ []))) ∧
    (let s := { dark with al := { dark.al with table := [waiting 7] } }
     s.air.state = .offAir ∧ s.collectionsFit ∧ ∀ a, s.al.table.head? = some a → a.due = false) := by
  refine ⟨⟨asks_ask (by decide), rfl, rfl, rfl, ⟨.u0, .u1, rfl, rfl, rfl, .inl rfl⟩, rfl, by decide⟩,
    ⟨asks_ask (by decide), by decide, by decide⟩, fun s hs => ?_, rfl, by unfold State.collectionsFit; decide, ?_⟩
  · fin_cases hs <;> exact asks_ask (by decide)
  · intro a ha; cases ha; rfl

/-- A state that is not reset, with a command that it steps on. -/
def airing : State := { call .ready with pending := [.lineAir .con (ask [0#8])] }

/-- It meets every invariant, and it steps. -/
theorem wit_invariants :
    airing.noticesBalance ∧ airing.collectionsFit ∧ airing.sequenceSound ∧ airing.noSignalStands ∧ airing.delaySound ∧
      airing.linesSound ∧ airing.levelsInRange ∧ airing.decksSound := by
  refine ⟨rfl, by unfold State.collectionsFit; decide, by unfold State.sequenceSound; decide, rfl, ?_, call_sound _, ?_, ?_⟩
  · unfold State.delaySound ProfileStore.targetsInRange Profile.targetInRange
    have hw : airing.pf.write = none := rfl
    have ht : airing.du.pendingTarget = none := rfl
    have hm : airing.du.mode = .idle := rfl
    refine ⟨⟨by decide, by decide, ?_⟩, by decide, ?_, by decide, ?_⟩
    · simp [hw]
    · simp [ht]
    · simp [hm]
  · have hi : airing.sq.list ++ airing.sq.tail.toList = [] := rfl
    have hr : airing.ps.records = [] := rfl
    refine ⟨fun src => ?_, by simp [hi], by simp [hr]⟩
    unfold Entry.inRange
    cases src <;> decide
  · have hd : ∀ d, airing.sq.deck d = Deck.initial := fun d => by cases d <;> rfl
    have hi : ∀ d, (airing.sq.deck d).item = none := fun d => by rw [hd]; rfl
    have hq : airing.sq.state = .stopped := rfl
    have ht : airing.sq.tail = none := rfl
    have hr : airing.ps.records = [] := rfl
    refine ⟨by unfold State.sequenceSound; decide, fun d => ⟨?_, ?_, ?_⟩, fun id h => ?_, ?_, ?_, ?_, ?_⟩
    · simp [hd, Deck.initial]
    · simp [hd, Deck.initial]
    · simp [hi]
    · have h1 : airing.sq.deckA.item = none := hi .a
      exact nomatch h1.symm.trans h.1
    · simp [ht]
    · simp [hq]
    · simp [hq, hr]
    · simp [hr]

/-- Decks that hold items meet their invariant too. -/
theorem wit_invariants_decks : twoCued.decksSound := by
  have hA : twoCued.sq.deckA = deckAt .paused 9 0 := rfl
  have hB : twoCued.sq.deckB = deckAt .ready 10 0 := rfl
  have hl : twoCued.sq.list = [item 9 none 0 0, item 10 none 0 0] := rfl
  have hq : twoCued.sq.state = .stopped := rfl
  have ht : twoCued.sq.tail = none := rfl
  have hr : twoCued.ps.records = [] := rfl
  have hd : ∀ d, twoCued.sq.deck d = if d = .a then deckAt .paused 9 0 else deckAt .ready 10 0 := fun d => by cases d <;> rfl
  refine ⟨by unfold State.sequenceSound; decide, fun d => ⟨?_, ?_, fun id h => ?_⟩, fun id h => ?_, ?_, ?_, ?_, ?_⟩
  · cases d <;> simp [hd, deckAt]
  · cases d <;> simp [hd, deckAt]
  · cases d <;> simp [hd, deckAt] at h ⊢ <;> subst h <;> simp [hl, ht, item]
  · simp only [hA, hB, deckAt, Option.some.injEq] at h; omega
  · simp [ht]
  · simp [hq]
  · simp [hq, hr]
  · simp [hr]

theorem wit_invariants_step : ∃ t, step airing = .next t := ⟨_, rfl⟩

end Sys2Proof.Tests
end

section
/-! SUPPORT. The laws of the roster that every operation keeps, and with them every step: among them the ranges of the levels (O60). -/

namespace Sys2Proof.Machine

-- Many short proofs elaborated side by side ask for more threads than the check's memory limit lets the process start.
set_option Elab.async false

/-! ### Requests and meanings, for every invariant -/

/-- What holds of the state a meaning completes in holds of the state it answers with. -/
theorem holds_of_next {I : State → Prop} {s t : State} (h : I s) (e : (.next s : Result) = .next t) : I t := by
  cases e; exact h

/-- A property that no lane's change reaches is kept by a transaction whose owner keeps it (R164). -/
theorem State.transact_preserves {I : State → Prop} (hl : ∀ s l x, I s → I (s.setLane l x)) {s : State} (h : I s)
    (l : LaneId) (code : Byte) (rest : List Byte) (known allowed : Bool) (need : Nat)
    {own : List Byte → State → State × Option (ReplyCode × List Byte)} (ho : ∀ b t, I t → I (own b t).1) :
    I (s.transact l code rest known allowed need own) := by
  have hh : I (s.heard l (code :: rest)) := by
    unfold State.heard
    split
    · exact hl _ _ _ h
    · split
      · exact hl _ _ _ h
      · exact h
  unfold State.transact
  dsimp only
  split
  · exact hh
  split
  · exact hl _ _ _ hh
  split
  · exact hl _ _ _ hh
  next body _ =>
    split
    · exact hl _ _ _ hh
    split
    · exact hl _ _ _ hh
    split
    · exact hl _ _ _ hh
    have hb := ho body _ hh
    split <;> rename_i he <;> rw [he] at hb
    · exact hl _ _ _ hb
    · exact hb

/-- The same of a request whose owner answers at once. -/
theorem State.request_preserves {I : State → Prop} (hl : ∀ s l x, I s → I (s.setLane l x)) {s : State} (h : I s)
    (l : LaneId) (code : Byte) (rest : List Byte) (allowed : Bool) (need : Nat) {own : List Byte → State → Answer}
    (ho : ∀ b t, I t → I (own b t).state) : I (s.request l code rest allowed need own) :=
  State.transact_preserves hl h l code rest true allowed need ho

/-! ### Ramp lengths and items in range (R9, R26) -/

/-- A ramp length of a request or of the profile is at most 10 s (R9). -/
theorem rampSamples_le (ms : Nat) : rampSamples ms ≤ 480000 := by
  unfold rampSamples Config.maxRampMs Config.perMs; omega

/-- An item is stored within its ranges (R26). -/
theorem storeItem_inRange (id : Nat) (kind : ItemKind) (len segue : Option Nat) (fadeIn fadeOut gain : Nat) :
    (storeItem id kind len segue fadeIn fadeOut gain).inRange := by
  have hi := rampSamples_le fadeIn
  have ho := rampSamples_le fadeOut
  have stored : ∀ x : Option Nat, (match x with | some n => min (rampSamples fadeOut) n | none => rampSamples fadeOut) ≤ 480000 := by
    intro x; cases x <;> dsimp only <;> omega
  unfold storeItem
  cases kind with
  | live => exact ⟨Nat.zero_le _, Nat.zero_le _, Nat.zero_le _⟩
  | music => exact ⟨Nat.min_le_right _ _, hi, stored _⟩
  | speech => exact ⟨Nat.min_le_right _ _, hi, stored _⟩
  | spot => exact ⟨Nat.min_le_right _ _, hi, stored _⟩

/-! ### Laws of the roster

What every step keeps of the roster entries is shown once, for any law that the operations on an entry keep, and used for the ranges of
the levels (R1, R8, R9) and for the end of a release (R6). -/

/-- A law of the roster entries that the operations on an entry keep, with the fader targets and the ramp lengths they may be given:
at least those within their ranges (R1, R9). -/
structure EntryLaw where
  holds : Entry → Prop
  target : Nat → Prop
  len : Nat → Prop
  target_of_le : ∀ {n}, n ≤ 16384 → target n
  len_of_le : ∀ {n}, n ≤ 480000 → len n
  target_holds : ∀ {e}, holds e → target e.target
  initial : ∀ c d, holds (.initial c d)
  bind : ∀ {e}, holds e → ∀ b, holds { e with bound := b }
  control : ∀ {e}, holds e → ∀ c, holds { e with controller := c }
  classify : ∀ {e}, holds e → ∀ d, holds { e with duckClass := d }
  retarget : ∀ {e}, holds e → ∀ {n}, target n → holds { e with target := n }
  setOff : ∀ {e}, holds e → holds e.setOff
  setLive : ∀ {e}, holds e → ∀ {n}, len n → holds (e.setLive n)
  setReleasing : ∀ {e}, holds e → ∀ {n}, len n → holds (e.setReleasing n)
  gain : ∀ {e}, holds e → ∀ {x n}, target x → len n → holds (e.gain x n)
  fadeOut : ∀ {e}, holds e → ∀ {n}, len n → holds (e.fadeOut n)
  startItem : ∀ {e}, holds e → ∀ {x n}, target x → len n → holds (e.startItem x n)
  resumeItem : ∀ {e}, holds e → ∀ {n}, len n → holds (e.resumeItem n)
  restore : ∀ {e}, holds e → ∀ st {x n}, target x → len n → ∀ faded, holds (e.restore st x n faded)
  step : ∀ {e}, holds e → holds e.step
  releaseEnd : ∀ {e}, holds e → holds e.releaseEnd

/-- An item gives a gain and fades that the law admits. -/
def EntryLaw.item (W : EntryLaw) (i : Item) : Prop := W.target i.gain ∧ W.len i.fadeIn ∧ W.len i.fadeOut

theorem EntryLaw.item_of_inRange (W : EntryLaw) {i : Item} (h : i.inRange) : W.item i :=
  ⟨W.target_of_le h.1, W.len_of_le h.2.1, W.len_of_le h.2.2⟩

/-- A state meets a law: its roster entries do, and its items and saved rosters give targets and lengths the law admits. -/
def State.lawful (W : EntryLaw) (s : State) : Prop :=
  (∀ src, W.holds (s.entry src)) ∧ (∀ i ∈ s.sq.list ++ s.sq.tail.toList, W.item i) ∧
    ∀ r ∈ s.ps.records, ∀ src, W.target (r.roster.get src).target

/-! ### The operations of the state -/

section
variable {W : EntryLaw} {s : State}

/-- An operation that reaches no roster entry, no item and no saved roster keeps the law. -/
theorem State.lawful.frame (h : s.lawful W) {t : State} (hb : t.pb.roster = s.pb.roster := by rfl)
    (hl : t.sq.list = s.sq.list := by rfl) (ht : t.sq.tail = s.sq.tail := by rfl)
    (hp : t.ps.records = s.ps.records := by rfl) : t.lawful W := by
  unfold State.lawful State.entry at *
  rw [hb, hl, ht, hp]; exact h

/-- Both branches of a choice keep the law. -/
theorem State.lawful.ite {c : Prop} [Decidable c] {t u : State} (ht : t.lawful W) (hu : u.lawful W) :
    (if c then t else u).lawful W := by
  split
  · exact ht
  · exact hu

/-- Every roster entry meets the law. -/
theorem State.lawful.faders (h : s.lawful W) (src : Source) : W.holds (s.entry src) := h.1 src
/-- Every item of the list and of the tail slot gives levels the law admits. -/
theorem State.lawful.items (h : s.lawful W) {i : Item} (hi : i ∈ s.sq.list ++ s.sq.tail.toList) : W.item i :=
  h.2.1 i hi
/-- Every saved fader target is one the law admits. -/
theorem State.lawful.saved (h : s.lawful W) {r : Context} (hr : r ∈ s.ps.records) (src : Source) :
    W.target (r.roster.get src).target := h.2.2 r hr src

theorem State.lawful.raise (h : s.lawful W) (k : EventKind) : (s.raise k).lawful W := h.frame

theorem State.lawful.raiseIf (h : s.lawful W) (c : Bool) (k : EventKind) : (s.raiseIf c k).lawful W := by
  cases c
  · exact h
  · exact h.raise k

theorem State.lawful.setLane (h : s.lawful W) (l : LaneId) (x : Lane) : (s.setLane l x).lawful W := h.frame
theorem State.lawful.setTl (h : s.lawful W) (l : Link) : (s.setTl l).lawful W := h.frame
theorem State.lawful.setDu (h : s.lawful W) (d : Delay) : (s.setDu d).lawful W := h.frame
theorem State.lawful.setAl (h : s.lawful W) (a : AlertUnit) : (s.setAl a).lawful W := h.frame
theorem State.lawful.setPf (h : s.lawful W) (p : ProfileStore) : (s.setPf p).lawful W := h.frame
theorem State.lawful.setLine (h : s.lawful W) (n : LineId) (r : LineRec) : (s.setLine n r).lawful W := h.frame
theorem State.lawful.enterLine (h : s.lawful W) (n : LineId) (st : LineState) : (s.enterLine n st).lawful W :=
  h.frame
theorem State.lawful.setMonitor (h : s.lawful W) (m : Monitor) : (s.setMonitor m).lawful W := h.frame

theorem State.lawful.setEntry (h : s.lawful W) (src : Source) {e : Entry} (he : W.holds e) :
    (s.setEntry src e).lawful W := by
  obtain ⟨hr, hi, hp⟩ := h
  refine ⟨fun x => ?_, hi, hp⟩
  simp only [State.entry_eq, State.setEntry_pb, PerSource_get_set]
  split
  · exact he
  · exact hr x

theorem State.lawful.updEntry (h : s.lawful W) (src : Source) {f : Entry → Entry}
    (hf : ∀ e : Entry, W.holds e → W.holds (f e)) : (s.updEntry src f).lawful W := h.setEntry src (hf _ (h.faders src))

theorem State.lawful.updRoster (h : s.lawful W) {f : Source → Entry → Entry}
    (hf : ∀ src (e : Entry), W.holds e → W.holds (f src e)) : (s.updRoster f).lawful W := by
  obtain ⟨hr, hi, hp⟩ := h
  refine ⟨fun x => ?_, hi, hp⟩
  simp only [State.entry_eq, State.updRoster_pb, PerSource_get_mapWith]
  exact hf x _ (hr x)

/-- A sequencer whose items are among those of the old one. -/
theorem State.lawful.setSq (h : s.lawful W) {q : Sequencer}
    (hq : ∀ i ∈ q.list ++ q.tail.toList, i ∈ s.sq.list ++ s.sq.tail.toList) : (s.setSq q).lawful W :=
  ⟨h.1, fun i hi => h.items (hq i hi), h.2.2⟩

theorem State.lawful.setDeck (h : s.lawful W) (d : DeckId) (k : Deck) : (s.setDeck d k).lawful W :=
  h.setSq fun i hi => by simpa using hi

/-! Sequencer -/

theorem State.lawful.freeDeck (h : s.lawful W) (d : DeckId) : (s.freeDeck d).lawful W :=
  (h.setDeck d .initial).updEntry d.source fun _ he => W.bind he none

theorem State.lawful.bindDeck (h : s.lawful W) (d : DeckId) (id : Nat) : (s.bindDeck d id).lawful W :=
  ((h.setDeck d _).updEntry d.source (f := fun e => { e with bound := some id }) fun _ he => W.bind he (some id)).raise .cueRequest

theorem State.lawful.addDone (h : s.lawful W) (r : DoneRecord) : (s.addDone r).lawful W := by
  unfold State.addDone
  refine State.lawful.raise ?_ .itemDone
  split
  · exact h.setSq fun _ hi => hi
  · exact h.setSq fun _ hi => hi

theorem State.lawful.dropHead (h : s.lawful W) : s.dropHead.lawful W :=
  h.setSq fun i hi => by
    rcases List.mem_append.mp hi with hm | hm
    · exact List.mem_append_left _ (List.mem_of_mem_drop hm)
    · exact List.mem_append_right _ hm

theorem State.lawful.cueOnce (h : s.lawful W) : s.cueOnce.lawful W := by
  unfold State.cueOnce
  split
  · exact h.bindDeck _ _
  · exact h

theorem State.lawful.cue (h : s.lawful W) : s.cue.lawful W := h.cueOnce.cueOnce

theorem State.lawful.endItem (h : s.lawful W) (d : DeckId) : (s.endItem d).lawful W := by
  unfold State.endItem
  split
  · exact h
  · rename_i i _
    have h2 := ((h.addDone { item := i.id, start := (s.deck d).startedAt, aired := (s.deck d).position,
                             outcome := if i.skipped then .skipped else .complete }).freeDeck d).updEntry d.source
      (f := Entry.setOff) fun _ he => W.setOff he
    exact State.lawful.ite (h2.setSq fun i hi => List.mem_append_left _ (by simpa using hi)) h2.dropHead

theorem State.lawful.headToTail (h : s.lawful W) : s.headToTail.lawful W := by
  unfold State.headToTail
  split
  · exact h
  · rename_i d hd
    have h1 := h.setDeck d { s.deck d with state := .tailing }
    refine h1.setSq (q := { (State.setDeck s d { s.deck d with state := .tailing }).dropHead.sq with
      tail := (s.setDeck d { s.deck d with state := .tailing }).sq.list.head? }) fun i hi => ?_
    rcases List.mem_append.mp hi with hm | hm
    · exact List.mem_append_left _ (List.mem_of_mem_drop hm)
    · exact List.mem_append_left _ (List.mem_of_mem_head? (by simpa using hm))

theorem State.lawful.halt (h : s.lawful W) : s.halt.lawful W :=
  (h.setSq (q := { s.sq with state := .halted, liveStart := some (s.sq.liveStart.getD s.ev.clock), breakSignal := true })
    fun _ hi => hi).raise .seqHalted

theorem State.lawful.startItem (h : s.lawful W) (d : DeckId) {i : Item} (hi : W.item i) (late : Bool) :
    (s.startItem d i late).lawful W := by
  obtain ⟨hg, hin, hout⟩ := hi
  have h3 := (h.headToTail.setDeck d
    { state := .playing, item := some i.id, position := 0, startedAt := some s.ev.clock, fadeTaken := i.fadeReached 0 }).updEntry d.source
    (f := fun e => if i.fadeReached 0 then (e.startItem i.gain i.fadeIn).fadeOut i.fadeOut else e.startItem i.gain i.fadeIn)
    fun e he => by
      split
      · exact W.fadeOut (W.startItem he hg hin) hout
      · exact W.startItem he hg hin
  unfold State.startItem
  exact State.lawful.raiseIf (State.lawful.raise (State.lawful.frame h3) .seqAdvance) late .lateStart

theorem Sequencer.markSegue_list (q : Sequencer) : q.markSegue.list = q.list := by unfold Sequencer.markSegue; split <;> rfl
theorem Sequencer.markSegue_tail (q : Sequencer) : q.markSegue.tail = q.tail := by unfold Sequencer.markSegue; split <;> rfl

theorem State.lawful.markSegue (h : s.lawful W) : s.markSegue.lawful W :=
  h.frame rfl (s.sq.markSegue_list) (s.sq.markSegue_tail) rfl

theorem State.lawful.takeStart (h : s.lawful W) (late : Bool) : (s.takeStart late).lawful W := by
  unfold State.takeStart
  split
  · split
    · exact h
    · rename_i i hi
      have hm : i ∈ s.sq.list := by
        unfold State.itemToStart at hi
        split at hi
        · exact List.mem_of_getElem? hi
        · exact List.mem_of_getElem? hi
      split
      · split
        · exact h.halt
        · split
          · exact h
          · exact h.headToTail.halt
      · split
        · exact h
        · split
          · exact h.startItem _ (h.items (List.mem_append_left _ hm)) late
          · exact h
  · exact h

theorem State.lawful.review (h : s.lawful W) (late : Bool) : (s.review late).lawful W :=
  (((h.markSegue.takeStart late).takeStart false).takeStart false).cue

theorem State.lawful.takeHeadPoint (h : s.lawful W) (d : DeckId) : (s.takeHeadPoint d).lawful W := by
  have h2 := (State.lawful.ite (c := s.sq.segueTaken = true) h
    (h.setSq (q := { s.sq with segueTaken := true, breakSignal := true }) fun _ hi => hi)).takeStart false
  exact (State.lawful.ite (h2.endItem d) h2).review false

theorem State.lawful.seguePoint (h : s.lawful W) : s.seguePoint.lawful W := by
  unfold State.seguePoint
  split
  · split
    · exact h.takeHeadPoint _
    · exact h
  · exact h

theorem State.lawful.itemEnd (h : s.lawful W) (d : DeckId) : (s.itemEnd d).lawful W := by
  unfold State.itemEnd
  split
  · split
    · exact h.takeHeadPoint d
    · exact (h.endItem d).review false
  · exact h

/-- The item on a deck is one of the list or of the tail slot. -/
theorem Sequencer.itemOn_mem {q : Sequencer} {d : DeckId} {i : Item} (h : q.itemOn d = some i) :
    i ∈ q.list ++ q.tail.toList := by
  obtain ⟨id, -, hf⟩ := Option.bind_eq_some_iff.mp h
  exact List.mem_of_find?_eq_some hf

theorem State.lawful.fadeOutPoint (h : s.lawful W) (d : DeckId) : (s.fadeOutPoint d).lawful W := by
  unfold State.fadeOutPoint
  split
  · split
    · rename_i i hi
      exact (h.setDeck d _).updEntry d.source fun _ he => W.fadeOut he (h.items (Sequencer.itemOn_mem hi)).2.2
    · exact h
  · exact h

theorem State.lawful.stop (h : s.lawful W) : (s.setSq s.sq.stop).lawful W := by
  rw [Sequencer.stop_eq]; exact h.frame

theorem State.lawful.enter (h : s.lawful W) (st : SeqState) : (s.setSq (s.sq.enter st)).lawful W := h.frame

theorem State.lawful.resumeDeck (h : s.lawful W) (d : DeckId) : (s.resumeDeck d).lawful W := by
  unfold State.resumeDeck
  split
  · have h1 := h.setDeck d (s.sq.resumed (s.deck d))
    dsimp only
    split
    · rename_i i hi
      split
      · exact h1.updEntry d.source fun _ he => W.resumeItem he (h.items (Sequencer.itemOn_mem hi)).2.1
      · exact h1
    · exact h1
  · exact h

theorem State.lawful.abandon (h : s.lawful W) (d : DeckId) : (s.abandon d).lawful W := by
  unfold State.abandon
  split
  · exact h
  · exact (((h.addDone _).freeDeck d).updEntry d.source fun _ he => W.setOff he).dropHead

theorem State.lawful.reposition (h : s.lawful W) (d : DeckId) (position : Nat) :
    (s.reposition d position).lawful W := by
  unfold State.reposition
  split
  · exact h
  · exact (h.setDeck d _).setSq fun _ hi => hi

/-! Lines -/

theorem State.lawful.leaveQueue (h : s.lawful W) (n : LineId) : (s.leaveQueue n).lawful W := by
  unfold State.leaveQueue
  split
  · exact h.frame
  · exact h

theorem State.lawful.leaveOffers (h : s.lawful W) (n : LineId) : (s.leaveOffers n).lawful W := by
  obtain ⟨hr, hi, hp⟩ := h
  refine ⟨hr, hi, fun r hm src => ?_⟩
  obtain ⟨r0, h0, rfl⟩ := List.mem_map.mp hm
  exact hp r0 h0 src

theorem State.takeFade_le (s : State) : s.takeFade ≤ 480000 := rampSamples_le _
theorem State.preemptFade_le (s : State) : s.preemptFade ≤ 480000 := rampSamples_le _

theorem State.lawful.dropLine (h : s.lawful W) (n : LineId) : (s.dropLine n).lawful W := by
  have h2 := ((h.leaveQueue n).leaveOffers n).enterLine n .idle
  unfold State.dropLine
  dsimp only
  split
  · exact h2.updEntry _ fun _ he => W.setReleasing he (W.len_of_le s.takeFade_le)
  · exact h2

theorem State.lawful.ringArmed (h : s.lawful W) (n : LineId) : (s.ringArmed n).lawful W := by
  unfold State.ringArmed
  dsimp only
  split
  · exact h.setLine _ _
  · exact h

theorem State.lawful.ringBurst (h : s.lawful W) (n : LineId) : (s.ringBurst n).lawful W := by
  unfold State.ringBurst
  dsimp only
  split
  · split
    · exact (h.setLine _ _).raise _
    · exact h.setLine _ _
    · exact h.setLine _ _
  · exact h

theorem State.lawful.ringExpiry (h : s.lawful W) (n : LineId) : (s.ringExpiry n).lawful W := by
  unfold State.ringExpiry
  split
  · split
    · exact h.frame
    · exact h
  · exact h

theorem State.lawful.loopLoss (h : s.lawful W) (n : LineId) : (s.loopLoss n).lawful W := by
  unfold State.loopLoss
  split
  · exact (h.dropLine n).raise _
  · exact h

theorem State.lawful.holdLong (h : s.lawful W) (n : LineId) : (s.holdLong n).lawful W := by
  unfold State.holdLong
  split
  · exact (h.setLine _ _).raise _
  · exact h

/-! Link and air state -/

theorem State.lawful.setCeiling (h : s.lawful W) (lowered : Bool) : (s.setCeiling lowered).lawful W := h.frame

theorem State.lawful.lookChangeover (h : s.lawful W) : s.lookChangeover.lawful W := by
  unfold State.lookChangeover
  split
  · exact (h.setTl _).raise _
  · exact h

theorem State.lawful.announceAir (h : s.lawful W) (old : AirState) : (s.announceAir old).lawful W := by
  unfold State.announceAir
  refine State.lawful.lookChangeover ?_
  split
  · exact (h.raise .airState).setTl _
  · exact h.raise .airState

theorem State.lawful.sweep (h : s.lawful W) : s.sweep.lawful W := h.setAl _

theorem State.lawful.endWake (h : s.lawful W) : s.endWake.lawful W := by
  unfold State.endWake
  split
  · split
    · exact State.lawful.announceAir h.frame .alertWake
    · exact (State.lawful.announceAir (s := s.setAir .offAir) h.frame .alertWake).sweep
  · exact h

/-! Preemption stack -/

theorem State.lawful.addContext (h : s.lawful W) (c : Cause) : (s.setPs (s.ps.add (s.context c))).lawful W := by
  obtain ⟨hr, hi, hp⟩ := h
  have hc : ∀ src, W.target ((s.context c).roster.get src).target := fun src => by
    simp only [State.context, PerSource_get_mapWith]; exact W.target_holds (hr src)
  refine ⟨hr, hi, fun r hm => ?_⟩
  simp only [State.setPs_ps, Stack.add] at hm
  split at hm
  · rcases List.mem_cons.mp hm with rfl | hm
    · exact hc
    · exact hp r hm
  · rcases List.mem_cons.mp hm with rfl | hm
    · exact hc
    · exact hp r (List.mem_of_mem_take hm)

theorem State.lawful.breakInChanges (h : s.lawful W) : s.breakInChanges.lawful W :=
  ((h.updEntry .pla fun _ he => W.setReleasing he (W.len_of_le s.preemptFade_le)).updEntry .plb
    fun _ he => W.setReleasing he (W.len_of_le s.preemptFade_le)).updEntry .mic fun _ he => W.setLive he (W.len_of_le s.preemptFade_le)

theorem State.lawful.alertChanges (h : s.lawful W) : s.alertChanges.lawful W :=
  (State.lawful.updRoster (s := { s with lc := s.lc.forceHold s.alertActive s.ev.clock }) h.frame
    fun _ _ he => W.setOff he).setDu _

theorem State.lawful.fallbackChanges (h : s.lawful W) : s.fallbackChanges.lawful W :=
  State.lawful.updRoster (s := { s with lc := s.lc.forceHold s.alertActive s.ev.clock }) h.frame fun src e he => by
    split
    · exact W.setLive (W.retarget he (W.target_of_le (Nat.le_refl 16384))) (W.len_of_le s.preemptFade_le)
    · exact W.setReleasing he (W.len_of_le s.preemptFade_le)

theorem State.lawful.causeChanges (h : s.lawful W) (c : Cause) : (s.causeChanges c).lawful W := by
  cases c with
  | breakIn => exact h.breakInChanges
  | alert => exact h.alertChanges
  | failover => exact h.fallbackChanges
  | remoteFallback => exact h.fallbackChanges

theorem State.lawful.push (h : s.lawful W) (c : Cause) : (s.push c).lawful W := by
  have h1 := (h.addContext c).raiseIf (!(s.ps.records.length < Config.stackMax)) .stackOverflow
  refine State.lawful.raise (State.lawful.causeChanges (h1.setSq fun i hi => ?_) c) .preempt
  rw [Sequencer.preempt_eq] at hi
  exact hi

theorem State.lawful.applyKind (h : s.lawful W) (k : ResumeKind) : (s.applyKind k).lawful W := by
  unfold State.applyKind
  split
  · exact h.abandon _
  · exact h.reposition _ _
  · exact h

/-- A restored target is the saved one or the gain of the head. -/
theorem State.restoreTarget_lawful (h : s.lawful W) (src : Source) {e : EntrySnapshot} (he : W.target e.target)
    (reprised : Option DeckId) : W.target (s.restoreTarget src e reprised) := by
  unfold State.restoreTarget
  split
  · rename_i hl
    split
    · exact (h.items (List.mem_append_left _ (hl ▸ List.mem_cons_self))).1
    · exact he
  · exact he

theorem State.lawful.restoreEntry (h : s.lawful W) {r : Context} (hr : ∀ src, W.target (r.roster.get src).target)
    (reprised : Option DeckId) (src : Source) : (s.restoreEntry r reprised src).lawful W := by
  unfold State.restoreEntry
  dsimp only
  split
  · exact h
  · exact h.updEntry src fun _ he => W.restore he _ (s.restoreTarget_lawful h src (hr src) reprised) (W.len_of_le (Nat.min_le_right _ _)) _

theorem State.lawful.restoreDeckEntry (h : s.lawful W) {r : Context}
    (hr : ∀ src, W.target (r.roster.get src).target) (reprised : Option DeckId) (d : DeckId) (saved : Option DeckSnapshot) :
    (s.restoreDeckEntry r reprised d saved).lawful W := by
  unfold State.restoreDeckEntry
  split
  · exact h.restoreEntry hr reprised _
  · exact h

theorem State.lawful.restoreRoster (h : s.lawful W) {r : Context}
    (hr : ∀ src, W.target (r.roster.get src).target) (reprised : Option DeckId) : (s.restoreRoster r reprised).lawful W := by
  have h1 := ((h.restoreDeckEntry hr reprised .a r.deckA).restoreDeckEntry hr reprised .b r.deckB).restoreEntry hr none .mic
  unfold State.restoreRoster
  dsimp only
  split
  · exact h1
  · exact h1.restoreEntry hr none .fbk

/-- A fold of operations that keep a property keeps it. -/
theorem foldl_preserves {α : Type} {I : State → Prop} {f : State → α → State} (hf : ∀ s a, I s → I (f s a)) (xs : List α)
    {s : State} (h : I s) : I (xs.foldl f s) := by
  induction xs generalizing s with
  | nil => exact h
  | cons x xs ih => exact ih (hf s x h)

theorem State.lawful.restoreLines (h : s.lawful W) {r : Context}
    (hr : ∀ src, W.target (r.roster.get src).target) : (s.restoreLines r).lawful W := by
  unfold State.restoreLines
  dsimp only
  split
  · exact h
  · exact foldl_preserves (fun _ n ht => ht.restoreEntry hr none n.source) _ h.frame

theorem State.lawful.restoreDelay (h : s.lawful W) (r : Context) : (s.restoreDelay r).lawful W := by
  unfold State.restoreDelay
  split
  · exact (h.setDu _).endWake
  · exact h

theorem State.lawful.popRecord (h : s.lawful W) {r : Context} {rest : List Context}
    (he : s.ps.records = r :: rest) (taker : ResumeBy) (k : ResumeKind) : (s.popRecord r rest taker k).lawful W := by
  obtain ⟨hf, hi, hp⟩ := h
  have hr := hp r (he ▸ List.mem_cons_self)
  have h1 : (s.setPs { s.ps with records := rest, lastResume := some (s.lastResume r taker k) }).lawful W :=
    ⟨hf, hi, fun x hx => hp x (he ▸ List.mem_cons_of_mem _ hx)⟩
  have h3 := (h1.applyKind (s.applied r k)).frame
    (t := State.setSq _ (Sequencer.reconcileDecks (State.sq _) r))
  exact ((((h3.restoreRoster hr _).restoreLines hr).restoreDelay r).enter r.seqState).review false |>.raise .resumed

theorem State.lawful.pop (h : s.lawful W) (taker : ResumeBy) (k : ResumeKind) : (s.pop taker k).lawful W := by
  unfold State.pop
  split
  · exact h
  · rename_i he; exact h.popRecord he taker k

/-! Alert unit -/

theorem State.lawful.wake (h : s.lawful W) : s.wake.lawful W := by
  unfold State.wake
  split
  · exact State.lawful.announceAir h.frame .offAir
  · exact h

theorem State.lawful.takeAir (h : s.lawful W) (p : PendingAlert) (rest : List PendingAlert) :
    (s.takeAir p rest).lawful W := by
  have h3 := State.lawful.push (s := (s.wake.setAl { s.wake.al with table := rest }).beginAttention p) h.wake.frame .alert
  exact State.lawful.raise h3.frame .alertStart

theorem State.lawful.checkAlerts (h : s.lawful W) : s.checkAlerts.lawful W := by
  unfold State.checkAlerts
  split
  · exact h
  · split
    · exact h.takeAir _ _
    · exact h

theorem State.lawful.breakOpportunity (h : s.lawful W) : s.breakOpportunity.lawful W := by
  unfold State.breakOpportunity
  split
  · exact h
  · split
    · exact h.takeAir _ _
    · exact h

theorem State.lawful.takeBreak (h : s.lawful W) : s.takeBreak.lawful W := by
  unfold State.takeBreak
  split
  · exact State.lawful.breakOpportunity h.frame
  · exact h

theorem State.lawful.enterTable (h : s.lawful W) (p : PendingAlert) : (s.enterTable p).1.lawful W := by
  unfold State.enterTable
  split
  · exact ((h.setAl _).raise _).checkAlerts
  · split
    · exact h
    · split
      · exact ((h.setAl _).raise _).checkAlerts
      · exact h.setAl _

theorem State.lawful.notice (h : s.lawful W) (n : Notice) : (s.notice n).1.lawful W := by
  unfold State.notice
  split
  · exact h
  · have h1 := h.setAl { s.al with noticeCounter := s.al.noticeCounter + 1#32 }
    dsimp only
    split
    · exact (h1.setAl _).raise _
    · split
      · exact h1.setAl _
      · split
        · split
          · exact ((h1.setAl _).frame (t := State.beginAttention _ _)).raise _
          · exact h1.enterTable _
        · exact h1.enterTable _

theorem State.lawful.windowExpiry (h : s.lawful W) (id : Nat) : (s.windowExpiry id).lawful W := by
  unfold State.windowExpiry
  split
  · exact (h.setAl _).checkAlerts
  · exact h

theorem State.lawful.attentionEnd (h : s.lawful W) : s.attentionEnd.lawful W := by
  unfold State.attentionEnd
  split
  · split
    · exact h.frame
    · exact h
  · exact h

theorem State.lawful.messageTruncated (h : s.lawful W) : s.messageTruncated.lawful W := by
  unfold State.messageTruncated
  split
  · split
    · exact h.frame
    · exact h
  · exact h

theorem State.lawful.endAlert (h : s.lawful W) (o : OnAirAlert) : (s.endAlert o).lawful W :=
  (((State.lawful.pop (h.frame (t := State.setAl _ _)) .alertUnit _).raise .alertDone).checkAlerts).takeBreak

theorem State.lawful.alertEnd (h : s.lawful W) : s.alertEnd.lawful W := by
  unfold State.alertEnd
  split
  · split
    · exact h.endAlert _
    · exact h
  · exact h

/-! Air state block -/

theorem State.lawful.signOn (h : s.lawful W) (enabled : Bool) : (s.signOn enabled).1.lawful W := by
  unfold State.signOn
  split
  · exact h
  · split
    · exact h
    · exact h
  · split
    · exact h.frame
    · exact h
  · split
    · exact (State.lawful.announceAir (s := s.setAir .onAir) h.frame .offAir).checkAlerts
    · exact h

theorem State.lawful.signOffNow (h : s.lawful W) : s.signOffNow.lawful W := by
  have h3 := (State.lawful.updRoster (s := s.setAir .offAir) h.frame (f := fun _ e => e.setOff)
    fun _ _ he => W.setOff he).stop
  exact State.lawful.setMonitor (State.lawful.takeBreak (State.lawful.checkAlerts
    (State.lawful.sweep (State.lawful.announceAir
      (State.lawful.setDu (State.lawful.raiseIf h3.frame _ .queueChange) _) .onAir)))) _

theorem State.lawful.signOff (h : s.lawful W) : s.signOff.1.lawful W := by
  unfold State.signOff
  split
  · exact h
  · split
    · exact h
    · split
      · exact h.signOffNow
      · exact h

theorem State.lawful.wakeChanged (h : s.lawful W) : s.wakeChanged.lawful W := by
  unfold State.wakeChanged
  split
  · exact h.sweep.checkAlerts
  · exact h

theorem State.lawful.enterStartState (h : s.lawful W) (st : StartState) : (s.enterStartState st).lawful W := by
  have h1 := State.lawful.announceAir (s := s.setAir st.air) h.frame .starting
  unfold State.enterStartState
  refine State.lawful.checkAlerts ?_
  split
  · exact h1.sweep
  · exact h1

theorem State.lawful.startDelayExpiry (h : s.lawful W) : s.startDelayExpiry.lawful W := by
  unfold State.startDelayExpiry
  split
  · exact State.lawful.enterStartState h.frame _
  · exact h

theorem State.lawful.judgeBlock (h : s.lawful W) : s.judgeBlock.lawful W := by
  unfold State.judgeBlock
  dsimp only
  split
  · split
    · exact (((h.push .failover).setMonitor _).raise _).takeBreak
    · exact (h.setMonitor _).raiseIf _ _
  · exact h.setMonitor _

theorem State.lawful.blockJudged (h : s.lawful W) : s.blockJudged.lawful W := by
  unfold State.blockJudged
  split
  · dsimp only
    split
    · exact h.judgeBlock.setMonitor _
    · exact h.setMonitor _
  · exact h

/-! Link events -/

theorem State.lawful.replyWindowClose (h : s.lawful W) : s.replyWindowClose.lawful W := by
  unfold State.replyWindowClose
  split
  · split
    · exact State.lawful.ite ((h.setTl _).raise _).lookChangeover (h.setTl _)
    · exact h
  · exact h

theorem State.lawful.pollTimerExpiry (h : s.lawful W) : s.pollTimerExpiry.lawful W :=
  State.lawful.ite (h.setTl _) h

theorem State.lawful.frameBoundary (h : s.lawful W) : s.frameBoundary.lawful W :=
  State.lawful.ite (h.setTl _) h

theorem State.lawful.returnCharacter (h : s.lawful W) (w : Waveform) : (s.returnCharacter w).lawful W := by
  refine State.lawful.ite h ?_
  unfold State.receive
  dsimp only
  split
  · exact h.setTl _
  · exact h.setTl _
  · exact h.setTl _
  · exact h.setTl _

theorem State.lawful.checkReflect (h : s.lawful W) (u : UnitId) (st : UnitStatus) :
    (s.checkReflect u st).lawful W :=
  State.lawful.ite
    (State.lawful.ite (State.lawful.ite ((h.setCeiling true).setTl _) h) (h.setTl _)) h

theorem State.lawful.remoteFallback (h : s.lawful W) : s.remoteFallback.lawful W :=
  State.lawful.ite (h.raise _) (h.push _).takeBreak

theorem remoteJudged_lawful {r : State × ReplyCode} (h : r.1.lawful W) : (remoteJudged r).lawful W := by
  unfold remoteJudged
  split
  · exact h.raise _
  · exact h.raise _
  · exact h

theorem State.lawful.remoteRequest (h : s.lawful W) (code : Byte) : (s.remoteRequest code).lawful W := by
  unfold State.remoteRequest
  split
  · exact h.remoteFallback
  · exact remoteJudged_lawful h.signOff
  · exact remoteJudged_lawful (h.signOn _)
  · exact h.setCeiling true
  · exact h.setCeiling false
  · exact h

theorem State.lawful.judgeRequest (h : s.lawful W) (u : UnitId) (code : Byte) :
    (s.judgeRequest u code).lawful W :=
  (State.lawful.ite (h.remoteRequest code) h).setTl _

theorem State.lawful.acceptMessage (h : s.lawful W) (u : UnitId) (st : UnitStatus) :
    (s.acceptMessage u st).lawful W :=
  ((State.lawful.checkReflect (h.setTl _) u st).judgeRequest u st.request).lookChangeover

theorem State.lawful.judgeMessage (h : s.lawful W) (m : Assembly) : (s.judgeMessage m).lawful W :=
  State.lawful.ite (h.acceptMessage _ _) (h.setTl _)

theorem State.lawful.assemblerTake (h : s.lawful W) : s.assemblerTake.lawful W := by
  unfold State.assemblerTake
  split
  · exact h
  · split
    · exact h
    · dsimp only
      split
      · exact (h.setTl _).judgeMessage _
      · exact h.setTl _

theorem State.lawful.selectTransmitter (h : s.lawful W) (t : Transmitter) :
    (s.selectTransmitter t).lawful W := State.lawful.raise (h.setTl _) .txChangeover

/-! Lanes and the profile store -/

theorem State.lawful.heard (h : s.lawful W) (l : LaneId) (bytes : List Byte) : (s.heard l bytes).lawful W :=
  State.lawful.ite (h.setLane l _) (State.lawful.ite (h.setLane l _) h)

theorem State.lawful.transactionStart (h : s.lawful W) (l : LaneId) : (s.transactionStart l).lawful W :=
  State.lawful.ite (h.setLane l _) (State.lawful.ite (h.setLane l _) h)

theorem State.lawful.laneTimeout (h : s.lawful W) (l : LaneId) : (s.laneTimeout l).lawful W :=
  State.lawful.ite ((h.setLane l _).raise _) h

theorem State.lawful.fieldWritten (h : s.lawful W) (f : Field) : (s.fieldWritten f).lawful W := by
  unfold State.fieldWritten
  split
  · exact (h.setTl _).lookChangeover
  · exact h.lookChangeover
  · exact h.wakeChanged
  · exact h

theorem State.lawful.profileWrite (h : s.lawful W) (l : LaneId) (body : List Byte) :
    (State.profileWrite l body s).1.lawful W := by
  unfold State.profileWrite
  split
  · split
    · exact h
    · split
      · exact h
      · split
        · exact h
        · split
          · exact (State.lawful.fieldWritten (h.setPf _) _).setLane l _
          · exact h
  · exact h

theorem State.lawful.profileWriteComplete (h : s.lawful W) : s.profileWriteComplete.lawful W := by
  unfold State.profileWriteComplete
  split
  · exact State.lawful.ite ((h.setPf _).setLane .con _) h
  · exact h

theorem State.lawful.profileLoadComplete (h : s.lawful W) : s.profileLoadComplete.lawful W := by
  unfold State.profileLoadComplete
  split
  · refine h.frame ?_ ?_ ?_ ?_ <;> simp
  · exact h

/-! Resets -/

/-- The bus, the sequencer and the stack at their reset values meet every law (R2, R27, R50). -/
theorem State.levelsInRange_of_initial {p : Profile} {t : State} (hb : t.pb = .initial p := by rfl)
    (hq : t.sq = .initial := by rfl) (hs : t.ps = .initial := by rfl) : t.lawful W := by
  refine ⟨fun src => ?_, fun i hi => ?_, fun r hr => ?_⟩
  rotate_left
  · simp [hq, Sequencer.initial] at hi
  · simp [hs, Stack.initial] at hr
  rw [State.entry, hb]
  cases src <;> exact W.initial _ _

theorem State.powerOn_lawful (s : State) (rst supply : Bool) : (s.powerOn rst supply).lawful W :=
  State.levelsInRange_of_initial

theorem State.globalReset_lawful (s : State) : s.globalReset.lawful W :=
  State.lawful.enterStartState (State.levelsInRange_of_initial (p := s.pf.loaded)) _

/-! Settling and the mix -/

theorem State.lawful.settleSequencer (h : s.lawful W) : s.settleSequencer.lawful W :=
  ((((h.fadeOutPoint .a).fadeOutPoint .b).seguePoint.takeBreak.itemEnd .a).takeBreak.itemEnd .b).takeBreak

theorem State.lawful.settleAlert (h : s.lawful W) : s.settleAlert.lawful W :=
  foldl_preserves (fun _ id ht => ht.windowExpiry id) _ h.attentionEnd.messageTruncated.alertEnd

theorem State.lawful.settleLines (h : s.lawful W) : s.settleLines.lawful W :=
  foldl_preserves (fun _ n ht => ((((ht.ringBurst n).ringArmed n).ringExpiry n).loopLoss n).holdLong n) _ h

theorem State.lawful.settleRoster (h : s.lawful W) : s.settleRoster.lawful W :=
  h.updRoster fun _ _ he => W.releaseEnd he

theorem State.lawful.settle (h : s.lawful W) : s.settle.lawful W :=
  ((((h.profileWriteComplete.profileLoadComplete.startDelayExpiry.settleRoster.settleSequencer.settleAlert.blockJudged
    ).settleLines.replyWindowClose.pollTimerExpiry.frameBoundary.assemblerTake).laneTimeout .aut).laneTimeout .con).laneTimeout .alr

theorem State.lawful.mixPeriod (h : s.lawful W) (f : InputFrame) : (s.mixPeriod f).lawful W := by
  obtain ⟨hr, hi, hp⟩ := h
  refine ⟨fun src => ?_, hi, ?_⟩
  · have hs : (State.entry (s.mixPeriod f) src) =
        ({ s.entry src with duckClass := s.pf.working.duckClasses.get src } : Entry).step.releaseEnd := by
      cases src <;> rfl
    rw [hs]
    exact W.releaseEnd (W.step (W.classify (hr src) _))
  · have hs : (s.mixPeriod f).ps = s.ps := by simp [State.mixPeriod]
    rw [hs]; exact hp

theorem State.lawful.mix (h : s.lawful W) (f : InputFrame) : (s.mix f).lawful W :=
  State.lawful.ite h (h.settle.mixPeriod f)

/-! ### The owners of the requests -/

theorem State.lawful.done (h : s.lawful W) : s.done.state.lawful W := h

theorem State.lawful.doneThenBreak (h : s.lawful W) : s.done.thenBreak.state.lawful W := h.takeBreak

theorem State.itemChecks_inRange {b : ItemBytes} {i : Item} (h : s.itemChecks b = .ok i) : i.inRange := by
  unfold State.itemChecks at h
  split at h
  · cases h
  split at h
  · cases h
  split at h
  · cases h
  split at h
  · cases h
  · cases h
    exact storeItem_inRange ..

theorem State.lawful.seqAppend (h : s.lawful W) (body : List Byte) : (ownSeqAppend body s).state.lawful W := by
  unfold ownSeqAppend
  split
  · exact h
  split
  · exact h
  · rename_i i he
    have h1 : (s.setSq { s.sq with list := s.sq.list ++ [i] }).lawful W := by
      refine ⟨h.1, fun x hx => ?_, h.2.2⟩
      have : x ∈ s.sq.list ++ s.sq.tail.toList ∨ x = i := by
        simp only [State.setSq_sq, List.mem_append, List.mem_singleton] at hx ⊢; tauto
      rcases this with hx | rfl
      · exact h.items hx
      · exact W.item_of_inRange (State.itemChecks_inRange he)
    exact (h1.review false).doneThenBreak

/-- What stands in a list after an insertion stood there or is the item inserted. -/
theorem mem_of_mem_insertAfter {id : Nat} {i x : Item} {l : List Item} (h : x ∈ insertAfter id i l) : x ∈ l ∨ x = i := by
  induction l with
  | nil => cases h
  | cons y ys ih =>
    unfold insertAfter at h
    split at h
    · simp only [List.mem_cons] at h ⊢; tauto
    · rcases List.mem_cons.mp h with rfl | h
      · exact .inl List.mem_cons_self
      · exact (ih h).imp_left (List.mem_cons_of_mem _)

theorem State.lawful.recue (h : s.lawful W) (d : Option DeckId) (i : Item) : (s.recue d i).lawful W := by
  unfold State.recue
  split
  · exact State.lawful.ite (h.freeDeck _) (h.bindDeck _ _)
  · exact h

theorem State.lawful.seqInsert (h : s.lawful W) (body : List Byte) : (ownSeqInsert body s).state.lawful W := by
  unfold ownSeqInsert
  split
  · split
    · exact h
    split
    · exact h
    · rename_i i he
      split
      · refine State.lawful.doneThenBreak (State.lawful.review (State.lawful.recue ?_ _ i) false)
        refine ⟨h.1, fun x hx => ?_, h.2.2⟩
        rcases List.mem_append.mp hx with hx | hx
        · rcases mem_of_mem_insertAfter hx with hx | rfl
          · exact h.items (List.mem_append_left _ hx)
          · exact W.item_of_inRange (State.itemChecks_inRange he)
        · exact h.items (List.mem_append_right _ hx)
      · exact h
  · exact h

theorem State.lawful.removeItem (h : s.lawful W) (id : Nat) : (s.removeItem id).lawful W := by
  have h1 : (s.setSq { s.sq with list := s.sq.list.filter (·.id ≠ id) }).lawful W := h.setSq fun i hi => by
    rcases List.mem_append.mp hi with hm | hm
    · exact List.mem_append_left _ (List.mem_of_mem_filter hm)
    · exact List.mem_append_right _ hm
  unfold State.removeItem
  dsimp only
  split
  · exact (h1.addDone _).freeDeck _
  · exact h1

theorem State.lawful.seqRemove (h : s.lawful W) (body : List Byte) : (ownSeqRemove body s).state.lawful W := by
  unfold ownSeqRemove
  split
  · split
    · split
      · exact h
      · exact ((h.removeItem _).review false).doneThenBreak
    · exact h
  · exact h

theorem State.lawful.seqReady (h : s.lawful W) (body : List Byte) : (ownSeqReady body s).state.lawful W := by
  unfold ownSeqReady
  split
  · split
    · exact h
    split
    · split
      · exact ((h.setDeck _ _).review true).doneThenBreak
      · exact h
      · exact h
    · exact h
  · exact h

theorem State.lawful.startSequence (h : s.lawful W) : s.startSequence.lawful W :=
  (((h.resumeDeck .a).resumeDeck .b).enter .running).review false

theorem State.lawful.seqStart (h : s.lawful W) (body : List Byte) : (ownSeqStart body s).state.lawful W := by
  unfold ownSeqStart
  split
  · exact h
  split
  · exact h
  · exact h.startSequence.doneThenBreak

theorem State.lawful.seqStop (h : s.lawful W) (body : List Byte) : (ownSeqStop body s).state.lawful W := by
  unfold ownSeqStop
  split
  · exact h
  split
  · exact h
  · exact h.stop.doneThenBreak

theorem State.lawful.skipPlaying (h : s.lawful W) (d : DeckId) {x : Item} {rest : List Item}
    (hl : s.sq.list = x :: rest) : (s.skipPlaying d x rest).lawful W := by
  have hx : W.item x := h.items (List.mem_append_left _ (hl ▸ List.mem_cons_self))
  have h1 : ∀ n, (s.setSq { s.sq with list := { x with length := some n, segue := min x.segue n, skipped := true } :: rest }).lawful W := by
    refine fun n => ⟨h.1, fun i hi => ?_, h.2.2⟩
    rcases List.mem_append.mp hi with hm | hm
    · rcases List.mem_cons.mp hm with rfl | hm
      · exact hx
      · exact h.items (List.mem_append_left _ (hl ▸ List.mem_cons_of_mem _ hm))
    · exact h.items (List.mem_append_right _ hm)
  have h2 := State.lawful.updEntry ((h1 ((s.deck d).position + x.fadeOut)).setDeck d
    { s.deck d with fadeTaken := true }) d.source (f := (·.fadeOut x.fadeOut)) fun _ he => W.fadeOut he hx.2.2
  exact State.lawful.ite h (State.lawful.ite (h2.takeHeadPoint d) h2)

theorem State.lawful.skipWaiting (h : s.lawful W) (x : Item) : (s.skipWaiting x).lawful W := by
  unfold State.skipWaiting
  dsimp only
  split
  · exact (((h.addDone _).freeDeck _).dropHead).review false
  · exact ((h.addDone _).dropHead).review false

theorem State.lawful.seqSkip (h : s.lawful W) (body : List Byte) : (ownSeqSkip body s).state.lawful W := by
  unfold ownSeqSkip
  split
  · exact h
  split
  · exact h
  · rename_i hl _; exact (h.skipPlaying _ hl).doneThenBreak
  · exact (h.skipWaiting _).doneThenBreak

theorem State.lawful.continueSequence (h : s.lawful W) : s.continueSequence.lawful W := by
  unfold State.continueSequence
  dsimp only
  split
  · exact (((h.addDone _).dropHead).enter .running).review false
  · exact (h.enter .running).review false

theorem State.lawful.seqContinue (h : s.lawful W) (body : List Byte) :
    (ownSeqContinue body s).state.lawful W := by
  unfold ownSeqContinue
  split
  · exact h.continueSequence.doneThenBreak
  · exact h

theorem State.lawful.doneRead (h : s.lawful W) (body : List Byte) : (ownDoneRead body s).state.lawful W := by
  unfold ownDoneRead
  split
  · exact h
  · exact h.setSq fun _ hi => hi

theorem State.lawful.sourceGain (h : s.lawful W) (l : LaneId) (body : List Byte) :
    (ownSourceGain l body s).state.lawful W := by
  unfold ownSourceGain
  split
  · split
    · exact h
    split
    · exact h
    · exact State.lawful.done (h.updEntry _ fun _ he => W.gain he (W.target_of_le (Nat.min_le_right _ _)) (W.len_of_le (rampSamples_le _)))
  · exact h

theorem State.lawful.sourceOn (h : s.lawful W) (l : LaneId) (body : List Byte) :
    (ownSourceOn l body s).state.lawful W := by
  unfold ownSourceOn
  split
  · split
    · exact h
    split
    · exact h
    split
    · exact h
    · exact State.lawful.done (h.updEntry _ fun _ he => W.setLive he (W.len_of_le (rampSamples_le _)))
  · exact h

theorem State.lawful.sourceOff (h : s.lawful W) (l : LaneId) (body : List Byte) :
    (ownSourceOff l body s).state.lawful W := by
  unfold ownSourceOff
  split
  · split
    · exact h
    split
    · exact h
    split
    · exact h
    · exact State.lawful.done (h.updEntry _ fun _ he => W.setReleasing he (W.len_of_le (rampSamples_le _)))
  · exact h

theorem State.lawful.setController (h : s.lawful W) (src : Source) (c : Controller) :
    (s.setController src c).lawful W := h.updEntry src fun _ he => W.control he c

theorem State.lawful.sourceTake (h : s.lawful W) (body : List Byte) : (ownSourceTake body s).state.lawful W := by
  unfold ownSourceTake
  split
  · split
    · exact h
    · exact State.lawful.done (h.setController _ _)
  · exact h

theorem State.lawful.sourceRelease (h : s.lawful W) (body : List Byte) :
    (ownSourceRelease body s).state.lawful W := by
  unfold ownSourceRelease
  split
  · split
    · exact h
    · exact State.lawful.done (h.setController _ _)
  · exact h

theorem State.lawful.breakIn (h : s.lawful W) (body : List Byte) : (ownBreakIn body s).state.lawful W := by
  unfold ownBreakIn
  split
  · exact h
  · exact (h.push .breakIn).doneThenBreak

theorem State.lawful.resume (h : s.lawful W) (l : LaneId) (body : List Byte) :
    (ownResume l body s).state.lawful W := by
  unfold ownResume
  split
  · split
    · exact h
    · exact h
    · split
      · exact (h.pop _ _).doneThenBreak
      · exact h
  · exact h

/-- A line request keeps the law where its owner does. -/
theorem State.lawful.onLine (h : s.lawful W) {own : LineId → State → Answer}
    (ho : ∀ n, (own n s).state.lawful W) (body : List Byte) : (onLine own body s).state.lawful W := by
  unfold Machine.onLine
  split
  · split
    · exact h
    · exact ho _
  · exact h

theorem State.lawful.lineAnswer (h : s.lawful W) (n : LineId) : (ownLineAnswer n s).state.lawful W := by
  unfold ownLineAnswer
  split
  · exact State.lawful.done (h.enterLine n .screen)
  · exact h

theorem State.lawful.lineScreen (h : s.lawful W) (n : LineId) : (ownLineScreen n s).state.lawful W := by
  unfold ownLineScreen
  split
  · exact State.lawful.done (((h.leaveQueue n).leaveOffers n).enterLine n .screen)
  · exact h

theorem State.lawful.lineHold (h : s.lawful W) (n : LineId) : (ownLineHold n s).state.lawful W := by
  unfold ownLineHold
  split
  · exact State.lawful.done (h.enterLine n .hold)
  split
  · exact State.lawful.done ((h.enterLine n .hold).updEntry _ fun _ he => W.setReleasing he (W.len_of_le s.takeFade_le))
  · exact h

theorem State.lawful.lineReady (h : s.lawful W) (front : Bool) (n : LineId) :
    (ownLineReady front n s).state.lawful W := by
  unfold ownLineReady
  split
  · exact State.lawful.frame ((h.leaveOffers n).enterLine n .ready)
  · exact h

theorem State.lawful.lineAir (h : s.lawful W) (body : List Byte) : (ownLineAir body s).state.lawful W := by
  unfold ownLineAir
  split
  · split
    · exact h
    split
    · exact h
    split
    · exact h
    · exact State.lawful.done (((h.leaveQueue _).enterLine _ .onAir).updEntry _ fun _ he => W.setLive he (W.len_of_le s.takeFade_le))
  · exact h

theorem State.lawful.lineDrop (h : s.lawful W) (n : LineId) : (ownLineDrop n s).state.lawful W := by
  unfold ownLineDrop
  split
  · exact State.lawful.done (h.dropLine n)
  · exact h

theorem State.lawful.delayTarget (h : s.lawful W) (body : List Byte) :
    (ownDelayTarget body s).state.lawful W := by
  unfold ownDelayTarget
  split
  · exact State.lawful.done (h.setDu _)
  · exact h

theorem State.lawful.delayDump (h : s.lawful W) (body : List Byte) : (ownDelayDump body s).state.lawful W := by
  unfold ownDelayDump
  split
  · exact h
  · exact State.lawful.done ((h.setDu _).raise _)

theorem State.lawful.alertNotice (h : s.lawful W) (body : List Byte) :
    (ownAlertNotice body s).state.lawful W := by
  unfold ownAlertNotice
  split
  · exact h
  · exact h.notice _

theorem State.lawful.alertAudioEnd (h : s.lawful W) (body : List Byte) :
    (ownAlertAudioEnd body s).state.lawful W := by
  unfold ownAlertAudioEnd
  split
  · unfold State.audioEnd
    split
    · exact h
    split
    · exact h
    split
    · exact h.frame
    · exact h
  · exact h

theorem State.lawful.alertCancel (h : s.lawful W) (body : List Byte) :
    (ownAlertCancel body s).state.lawful W := by
  unfold ownAlertCancel
  split
  · unfold State.cancel
    split
    · exact State.lawful.done ((h.setAl _).checkAlerts)
    · split
      · unfold State.cancelOnAir
        split
        · exact h
        · exact h.frame
      · exact h
    · exact h
  · exact h

theorem State.lawful.alertRearm (h : s.lawful W) (body : List Byte) :
    (ownAlertRearm body s).state.lawful W := by
  unfold ownAlertRearm
  split
  · exact h
  · exact State.lawful.done ((h.setAl _).checkAlerts)

theorem State.lawful.logRead (h : s.lawful W) (body : List Byte) : (ownLogRead body s).state.lawful W := by
  unfold ownLogRead
  split
  · split
    · exact h
    · split
      · exact h
      · exact h
  · exact h

theorem State.lawful.wakeEnable (h : s.lawful W) (body : List Byte) :
    (ownWakeEnable body s).state.lawful W := by
  unfold ownWakeEnable
  split
  · exact State.lawful.wakeChanged (h.setPf _)
  · exact h

theorem State.lawful.txSelect (h : s.lawful W) (body : List Byte) : (ownTxSelect body s).state.lawful W := by
  unfold ownTxSelect
  split
  · split
    · exact h
    · unfold State.txSelect
      split
      · exact h
      split
      · exact h
      · exact State.lawful.done (h.selectTransmitter _)
  · exact h

theorem State.lawful.statusRead (h : s.lawful W) (body : List Byte) : (ownStatusRead body s).state.lawful W := by
  unfold ownStatusRead
  split
  · split
    · exact h
    · exact h
  · exact h

theorem State.lawful.eventEnable (h : s.lawful W) (l : LaneId) (body : List Byte) :
    (ownEventEnable l body s).state.lawful W := by
  unfold ownEventEnable
  split
  · exact h.frame
  · exact h

theorem State.lawful.eventClear (h : s.lawful W) (l : LaneId) (body : List Byte) :
    (ownEventClear l body s).state.lawful W := by
  unfold ownEventClear
  split
  · exact h.frame
  · exact h

theorem State.lawful.profileRead (h : s.lawful W) (body : List Byte) :
    (ownProfileRead body s).state.lawful W := by
  unfold ownProfileRead
  split
  · rw [State.profileRead_state]; exact h
  · exact h

/-- A request whose owner keeps the law keeps them. -/
theorem State.lawful.request (h : s.lawful W) (l : LaneId) (code : Byte) (rest : List Byte) (allowed : Bool)
    (need : Nat) {own : List Byte → State → Answer} (ho : ∀ b t, t.lawful W → (own b t).state.lawful W) :
    (s.request l code rest allowed need own).lawful W :=
  State.request_preserves (fun _ l x ht => ht.setLane l x) h l code rest allowed need ho

/-- The same of a request whose owner may answer later. -/
theorem State.lawful.transact (h : s.lawful W) (l : LaneId) (code : Byte) (rest : List Byte)
    (known allowed : Bool) (need : Nat) {own : List Byte → State → State × Option (ReplyCode × List Byte)}
    (ho : ∀ b t, t.lawful W → (own b t).1.lawful W) :
    (s.transact l code rest known allowed need own).lawful W :=
  State.transact_preserves (fun _ l x ht => ht.setLane l x) h l code rest known allowed need ho

/-- Every command keeps the law in their ranges. -/
theorem exec_lawful (h : s.lawful W) {t : State} (c : Instr) (e : exec c s = .next t) : t.lawful W := by
  cases c with
  | powerOn rst supply => exact holds_of_next (s.powerOn_lawful rst supply) e
  | profileLoadComplete => exact holds_of_next h.profileLoadComplete e
  | startDelayExpiry => exact holds_of_next h.startDelayExpiry e
  | globalReset l rest => exact holds_of_next (h.request _ _ _ _ _ fun _ t _ => t.globalReset_lawful) e
  | mix f => exact holds_of_next (h.mix f) e
  | releaseRampEnd src => exact holds_of_next (h.updEntry src fun _ he => W.releaseEnd he) e
  | buildStep f => exact holds_of_next (State.lawful.ite (h.mix f) h) e
  | catchUpStep f => exact holds_of_next (State.lawful.ite (h.mix f) h) e
  | fadeOutPoint d => exact holds_of_next (h.fadeOutPoint d) e
  | seguePoint => exact holds_of_next h.seguePoint.takeBreak e
  | itemEnd d => exact holds_of_next (h.itemEnd d).takeBreak e
  | seqAppend l rest => exact holds_of_next (h.request _ _ _ _ _ fun b _ ht => ht.seqAppend b) e
  | seqInsert l rest => exact holds_of_next (h.request _ _ _ _ _ fun b _ ht => ht.seqInsert b) e
  | seqRemove l rest => exact holds_of_next (h.request _ _ _ _ _ fun b _ ht => ht.seqRemove b) e
  | seqReady l rest => exact holds_of_next (h.request _ _ _ _ _ fun b _ ht => ht.seqReady b) e
  | seqStart l rest => exact holds_of_next (h.request _ _ _ _ _ fun b _ ht => ht.seqStart b) e
  | seqStop l rest => exact holds_of_next (h.request _ _ _ _ _ fun b _ ht => ht.seqStop b) e
  | seqSkip l rest => exact holds_of_next (h.request _ _ _ _ _ fun b _ ht => ht.seqSkip b) e
  | seqContinue l rest => exact holds_of_next (h.request _ _ _ _ _ fun b _ ht => ht.seqContinue b) e
  | doneRead l rest => exact holds_of_next (h.request _ _ _ _ _ fun b _ ht => ht.doneRead b) e
  | sourceGain l rest => exact holds_of_next (h.request _ _ _ _ _ fun b _ ht => ht.sourceGain l b) e
  | sourceOn l rest => exact holds_of_next (h.request _ _ _ _ _ fun b _ ht => ht.sourceOn l b) e
  | sourceOff l rest => exact holds_of_next (h.request _ _ _ _ _ fun b _ ht => ht.sourceOff l b) e
  | sourceTake l rest => exact holds_of_next (h.request _ _ _ _ _ fun b _ ht => ht.sourceTake b) e
  | sourceRelease l rest => exact holds_of_next (h.request _ _ _ _ _ fun b _ ht => ht.sourceRelease b) e
  | breakIn l rest => exact holds_of_next (h.request _ _ _ _ _ fun b _ ht => ht.breakIn b) e
  | resume l rest => exact holds_of_next (h.request _ _ _ _ _ fun b _ ht => ht.resume l b) e
  | lineAnswer l rest => exact holds_of_next (h.request _ _ _ _ _ fun b _ ht => ht.onLine ht.lineAnswer b) e
  | lineScreen l rest => exact holds_of_next (h.request _ _ _ _ _ fun b _ ht => ht.onLine ht.lineScreen b) e
  | lineHold l rest => exact holds_of_next (h.request _ _ _ _ _ fun b _ ht => ht.onLine ht.lineHold b) e
  | lineReady l rest => exact holds_of_next (h.request _ _ _ _ _ fun b _ ht => ht.onLine (ht.lineReady _) b) e
  | lineAir l rest => exact holds_of_next (h.request _ _ _ _ _ fun b _ ht => ht.lineAir b) e
  | lineDrop l rest => exact holds_of_next (h.request _ _ _ _ _ fun b _ ht => ht.onLine ht.lineDrop b) e
  | ringFilterArmed n => exact holds_of_next (h.ringArmed n) e
  | ringBurst n => exact holds_of_next (h.ringBurst n) e
  | ringExpiry n => exact holds_of_next (h.ringExpiry n) e
  | loopLoss n => exact holds_of_next (h.loopLoss n) e
  | holdLong n => exact holds_of_next (h.holdLong n) e
  | delayTarget l rest => exact holds_of_next (h.request _ _ _ _ _ fun b _ ht => ht.delayTarget b) e
  | delayDump l rest => exact holds_of_next (h.request _ _ _ _ _ fun b _ ht => ht.delayDump b) e
  | alertNotice l rest => exact holds_of_next (h.request _ _ _ _ _ fun b _ ht => ht.alertNotice b) e
  | windowExpiry id => exact holds_of_next (h.windowExpiry id) e
  | attentionEnd => exact holds_of_next h.attentionEnd e
  | messageTruncated => exact holds_of_next h.messageTruncated e
  | alertAudioEnd l rest => exact holds_of_next (h.request _ _ _ _ _ fun b _ ht => ht.alertAudioEnd b) e
  | alertCancel l rest => exact holds_of_next (h.request _ _ _ _ _ fun b _ ht => ht.alertCancel b) e
  | alertRearm l rest => exact holds_of_next (h.request _ _ _ _ _ fun b _ ht => ht.alertRearm b) e
  | alertEnd => exact holds_of_next h.alertEnd e
  | logRead l rest => exact holds_of_next (h.request _ _ _ _ _ fun b _ ht => ht.logRead b) e
  | signOn l rest => exact holds_of_next (h.request _ _ _ _ _ fun _ _ ht => ht.signOn _) e
  | signOff l rest => exact holds_of_next (h.request _ _ _ _ _ fun _ _ ht => ht.signOff) e
  | wakeEnable l rest => exact holds_of_next (h.request _ _ _ _ _ fun b _ ht => ht.wakeEnable b) e
  | blockJudged => exact holds_of_next h.blockJudged e
  | frameBoundary => exact holds_of_next h.frameBoundary e
  | pollTimerExpiry => exact holds_of_next h.pollTimerExpiry e
  | replyWindowClose => exact holds_of_next h.replyWindowClose e
  | returnCharacter w => exact holds_of_next (h.returnCharacter w) e
  | assemblerTake => exact holds_of_next h.assemblerTake e
  | txSelect l rest => exact holds_of_next (h.request _ _ _ _ _ fun b _ ht => ht.txSelect b) e
  | ceilingRestore l rest => exact holds_of_next (h.request _ _ _ _ _ fun _ _ ht => ht.setCeiling false) e
  | transactionStart l => exact holds_of_next (h.transactionStart l) e
  | readOnlyTransaction l bytes => exact holds_of_next (h.heard l bytes) e
  | laneTimeout l => exact holds_of_next (h.laneTimeout l) e
  | nop l rest => exact holds_of_next (h.request _ _ _ _ _ fun _ _ ht => ht) e
  | statusRead l rest => exact holds_of_next (h.request _ _ _ _ _ fun b _ ht => ht.statusRead b) e
  | eventEnable l rest => exact holds_of_next (h.request _ _ _ _ _ fun b _ ht => ht.eventEnable l b) e
  | eventClear l rest => exact holds_of_next (h.request _ _ _ _ _ fun b _ ht => ht.eventClear l b) e
  | clockWrap f => exact holds_of_next (State.lawful.ite (h.mix f) h) e
  | profileRead l rest => exact holds_of_next (h.request _ _ _ _ _ fun b _ ht => ht.profileRead b) e
  | profileWrite l eng rest => exact holds_of_next (h.transact _ _ _ _ _ _ fun b _ ht => ht.profileWrite l b) e
  | profileWriteComplete => exact holds_of_next h.profileWriteComplete e
  | unknownRequestCode l code rest =>
    have e : execUnknownRequestCode l code rest s = .next t := e
    unfold execUnknownRequestCode at e
    split at e
    · exact holds_of_next (h.heard l (code :: rest)) e
    · exact holds_of_next (h.transact _ _ _ _ _ _ fun _ _ ht => ht) e

end

/-- Every step keeps every law of the roster. -/
theorem step_lawful {W : EntryLaw} {s t : State} (h : s.lawful W) (e : step s = .next t) : t.lawful W := by
  unfold step at e
  split at e
  · exact holds_of_next h e
  · exact exec_lawful h.frame _ e

/-! ### The levels in their ranges (R1, R8, R9) -/

/-- A ramp step stays between the present value and the aim (R8). -/
theorem rampStep_le {present aim most : Nat} (n : Nat) (hp : present ≤ most) (ha : aim ≤ most) :
    rampStep present aim n ≤ most := by
  unfold rampStep
  rcases Nat.le_total present aim with h | h
  · have hd : ((aim : Int) - present).tdiv n ≤ (aim : Int) - present := by
      obtain ⟨k, rfl⟩ := Nat.exists_eq_add_of_le h
      have : ((present + k : Nat) : Int) - present = (k : Int) := by push_cast; ring
      rw [this, ← Int.ofNat_tdiv]
      exact_mod_cast Nat.div_le_self k n
    omega
  · have hd : ((aim : Int) - present).tdiv n ≤ 0 := by
      obtain ⟨k, rfl⟩ := Nat.exists_eq_add_of_le h
      have : (aim : Int) - ((aim + k : Nat) : Int) = -(k : Int) := by push_cast; ring
      rw [this, Int.neg_tdiv, ← Int.ofNat_tdiv]
      exact neg_nonpos.mpr (Int.natCast_nonneg _)
    omega

section
variable {e : Entry}

theorem Entry.inRange.setOff (h : e.inRange) : e.setOff.inRange := ⟨h.1, by simp [Entry.setOff], by simp [Entry.setOff]⟩

theorem Entry.inRange.rampLive (h : e.inRange) {len : Nat} (hl : len ≤ 480000) : (e.rampLive len).inRange := by
  obtain ⟨ht, hc, -⟩ := h
  refine ⟨ht, ?_, hl⟩
  unfold Entry.rampLive
  dsimp only
  split
  · exact ht
  · exact hc

theorem Entry.inRange.setLive (h : e.inRange) {len : Nat} (hl : len ≤ 480000) : (e.setLive len).inRange := by
  have h0 : ({ e with state := .live, current := 0 } : Entry).inRange := ⟨h.1, Nat.zero_le _, h.2.2⟩
  unfold Entry.setLive
  cases e.state with
  | live => exact h.rampLive hl
  | off => exact h0.rampLive hl
  | releasing => exact h0.rampLive hl

theorem Entry.inRange.setReleasing (h : e.inRange) {len : Nat} (hl : len ≤ 480000) : (e.setReleasing len).inRange := by
  have released : (if len = 0 ∨ e.current = 0 then e.setOff else { e with state := .releasing, remaining := len }).inRange := by
    split
    · exact h.setOff
    · exact ⟨h.1, h.2.1, hl⟩
  unfold Entry.setReleasing
  cases e.state with
  | off => exact h
  | live => exact released
  | releasing => exact released

/-- A new target in range keeps an entry in range, whatever its mark. -/
theorem Entry.inRange.retarget (h : e.inRange) {target : Nat} (ht : target ≤ 16384) (st : EntryState) (faded : Bool) :
    ({ e with state := st, target := target, faded := faded } : Entry).inRange := ⟨ht, h.2.1, h.2.2⟩

theorem Entry.inRange.gain (h : e.inRange) {target len : Nat} (ht : target ≤ 16384) (hl : len ≤ 480000) :
    (e.gain target len).inRange := by
  have h1 := h.retarget ht e.state false
  unfold Entry.gain
  cases e.state with
  | live => exact h1.rampLive hl
  | off => exact h1
  | releasing => exact h1

theorem Entry.inRange.fadeOut (h : e.inRange) {len : Nat} (hl : len ≤ 480000) : (e.fadeOut len).inRange := by
  have h1 := h.retarget (Nat.zero_le 16384) e.state true
  unfold Entry.fadeOut
  split
  · exact h
  · split
    · exact h1.rampLive hl
    · exact h1
    · exact h1.setReleasing hl

theorem Entry.inRange.startItem (h : e.inRange) {gain len : Nat} (hg : gain ≤ 16384) (hl : len ≤ 480000) :
    (e.startItem gain len).inRange := by
  unfold Entry.startItem
  split
  · exact ⟨h.1, h.1, Nat.zero_le _⟩
  · exact (h.retarget hg e.state false).setLive hl

theorem Entry.inRange.resumeItem (h : e.inRange) {len : Nat} (hl : len ≤ 480000) : (e.resumeItem len).inRange := by
  unfold Entry.resumeItem
  cases e.state with
  | live => exact h
  | releasing => exact h
  | off =>
    cases e.controller with
    | con => exact ⟨h.1, h.1, Nat.zero_le _⟩
    | aut => exact h.setLive hl

theorem Entry.inRange.restore (h : e.inRange) (saved : EntryState) {target len : Nat} (ht : target ≤ 16384)
    (hl : len ≤ 480000) (faded : Bool) : (e.restore saved target len faded).inRange := by
  unfold Entry.restore
  cases saved with
  | live => exact (h.retarget ht .live faded).rampLive hl
  | off => exact (h.retarget ht e.state faded).setReleasing hl
  | releasing =>
    refine ⟨ht, ?_, hl⟩
    dsimp only
    split
    · exact Nat.zero_le _
    · exact h.2.1

theorem Entry.inRange.step (h : e.inRange) : e.step.inRange := by
  obtain ⟨ht, hc, hr⟩ := h
  unfold Entry.step
  split
  · exact ⟨ht, hc, hr⟩
  · cases e.state with
    | off => exact ⟨ht, hc, hr⟩
    | live => exact ⟨ht, rampStep_le _ hc ht, by dsimp only; omega⟩
    | releasing => exact ⟨ht, rampStep_le _ hc (Nat.zero_le _), by dsimp only; omega⟩

theorem Entry.inRange.releaseEnd (h : e.inRange) : e.releaseEnd.inRange := by
  unfold Entry.releaseEnd
  split
  · exact h.setOff
  · exact h

end

/-- The ranges of the levels are a law of the roster. -/
def levelLaw : EntryLaw where
  holds := Entry.inRange
  target n := n ≤ 16384
  len n := n ≤ 480000
  target_of_le h := h
  len_of_le h := h
  target_holds h := h.1
  initial _ _ := ⟨Nat.le_refl _, Nat.zero_le _, Nat.zero_le _⟩
  bind h _ := h
  control h _ := h
  classify h _ := h
  retarget h _ ht := ⟨ht, h.2⟩
  setOff h := h.setOff
  setLive h _ hl := h.setLive hl
  setReleasing h _ hl := h.setReleasing hl
  gain h _ _ ht hl := h.gain ht hl
  fadeOut h _ hl := h.fadeOut hl
  startItem h _ _ ht hl := h.startItem ht hl
  resumeItem h _ hl := h.resumeItem hl
  restore h st _ _ ht hl faded := h.restore st ht hl faded
  step h := h.step
  releaseEnd h := h.releaseEnd

/-- The levels in their ranges are the state lawful. -/
theorem State.levelsInRange_iff (s : State) : s.levelsInRange ↔ s.lawful levelLaw := Iff.rfl

/-- Settles O60: the ranges are a law of the roster, and every step keeps every law. -/
theorem everyStepKeepsTheLevels : Obligations.EveryStepKeepsTheLevels := by
  intro s t h stepped
  rw [State.levelsInRange_iff] at h ⊢
  exact step_lawful h stepped

end Sys2Proof.Machine
end

section
/-! SUPPORT. What a request that is taken leaves, from what its owner answers; and the roster requests (O14, O15, O16). -/

namespace Sys2Proof.Machine

set_option Elab.async false

/-! ### Requests that complete -/

section
variable {s : State} {l : LaneId} {rest body : List Byte} {i : Instr} {code : Byte} {allowed : Bool} {need : Nat}
  {own : List Byte → State → Answer}

/-- The state in which an owner judges a request on a lane that asks: the transaction has ended, and nothing else (R163). -/
def State.hearing (s : State) (l : LaneId) (bytes : List Byte) : State := { s with cl := s.lanesHeard l bytes }

/-- A request taken completes in what its owner leaves, with the owner's reply placed on the lane. -/
theorem completes_of_own (h : s.asks l rest body) (hi : exec i s = .next (s.request l code rest allowed need own))
    (ha : allowed = true) (hn : need ≤ body.length) {u : State} {c : ReplyCode} {b : List Byte}
    (ho : own body (s.hearing l (code :: rest)) = { state := u, code := c, body := b })
    (hu : u.cl = s.lanesHeard l (code :: rest)) : completes i s { u with cl := s.replied l (code :: rest) c b } := by
  have hr := State.request_asks h code ha hn own
  have ho : own body (s.setLane l ((s.cl.get l).finish (code :: rest))) = { state := u, code := c, body := b } := ho
  rw [ho] at hr
  have hp : u.place l c b = { u with cl := s.replied l (code :: rest) c b } := by
    unfold State.place State.setLane State.replied State.lane
    rw [hu]
    simp [State.lanesHeard]
  unfold completes
  rw [hi, hr]
  exact congrArg _ hp

/-- A request whose owner answers with a code and changes nothing is turned away. -/
theorem turnedAway_of_reply (h : s.asks l rest body) (hi : exec i s = .next (s.request l code rest allowed need own))
    (ha : allowed = true) (hn : need ≤ body.length) {c : ReplyCode}
    (ho : own body (s.hearing l (code :: rest)) = (s.hearing l (code :: rest)).reply c) :
    turnedAway i s l (code :: rest) c := completes_of_own (u := s.hearing l (code :: rest)) h hi ha hn ho rfl

end

/-- AUT and CON are the lanes that are not ALR. -/
theorem autOrCon_of_ne_alr {l : LaneId} (h : l ≠ .alr) : autOrCon l = true := by
  cases l with
  | aut => rfl
  | con => rfl
  | alr => exact absurd rfl h

/-! ### What the roster requests make of an entry -/

/-- A new target: a LIVE entry ramps to it, at once over a length of 0; any other takes the target alone (R9, R10). -/
theorem Entry.gain_eq (e : Entry) (target len : Nat) :
    e.gain target len = if e.state = .live then
      { e with target := target, remaining := len, faded := false, current := if len = 0 then target else e.current }
    else { e with target := target, faded := false } := by
  cases hs : e.state <;> simp [Entry.gain, Entry.rampLive, hs]

/-- An entry that is not LIVE rises from 0 (R5). -/
theorem Entry.setLive_of_ne_live {e : Entry} (h : e.state ≠ .live) (len : Nat) :
    e.setLive len = { e with state := .live, remaining := len, current := if len = 0 then e.target else 0 } := by
  cases hs : e.state with
  | live => exact absurd hs h
  | off => simp [Entry.setLive, Entry.rampLive, hs]
  | releasing => simp [Entry.setLive, Entry.rampLive, hs]

/-- An entry that is not OFF is released from where its fader stands, or is OFF at once (R6). -/
theorem Entry.setReleasing_of_ne_off {e : Entry} (h : e.state ≠ .off) (len : Nat) :
    e.setReleasing len = if len = 0 ∨ e.current = 0 then { e with state := .off, current := 0, remaining := 0 }
      else { e with state := .releasing, remaining := len } := by
  cases hs : e.state with
  | off => exact absurd hs h
  | live => simp [Entry.setReleasing, Entry.setOff, hs]
  | releasing => simp [Entry.setReleasing, Entry.setOff, hs]

/-- The default controller: AUT for the decks and FBK, CON for the others (R2). -/
theorem eq_defaultController {src : Source} {k : Controller} (h : k = .aut ↔ src = .pla ∨ src = .plb ∨ src = .fbk) :
    k = defaultController src := by
  cases k <;> cases src <;> simp_all [defaultController]

/-! ### SOURCE_GAIN, SOURCE_ON, SOURCE_OFF, SOURCE_TAKE, SOURCE_RELEASE -/

/-- Who is turned away HELD (R13). -/
theorem State.heldFor_iff (s : State) (l : LaneId) (src : Source) :
    s.heldFor l src = true ↔ l = .aut ∧ (s.entry src).controller = .con := by
  simp only [State.heldFor, Bool.and_eq_true, decide_eq_true_eq]

/-- Settles O14: the owner's branches one by one, each placed on the lane by `completes_of_own`. -/
theorem sourceGainRetargets : Obligations.SourceGainRetargets := by
  intro s l rest more c t1 t0 r1 r0 h hl
  have ha := autOrCon_of_ne_alr hl
  have hn : 5 ≤ (c :: t1 :: t0 :: r1 :: r0 :: more).length := by simp
  refine ⟨fun hc => ?_, fun src target len hc htarget hlen => ⟨fun hheld => ?_, fun hfree => ?_⟩⟩
  · refine turnedAway_of_reply (own := ownSourceGain l) h rfl ha hn ?_
    simp [ownSourceGain, hc]
  · have hheld : (s.hearing l (0x20#8 :: rest)).heldFor l src = true := (State.heldFor_iff _ _ _).mpr hheld
    refine turnedAway_of_reply (own := ownSourceGain l) h rfl ha hn ?_
    simp [ownSourceGain, hc, hheld]
  · have hfree : ¬ (s.hearing l (0x20#8 :: rest)).heldFor l src = true := fun hh => hfree ((State.heldFor_iff _ _ _).mp hh)
    have hgain := Entry.gain_eq (s.entry src) target len
    rw [← hgain]
    refine completes_of_own (own := ownSourceGain l) h rfl ha hn
      (u := (s.hearing l (0x20#8 :: rest)).updEntry src (·.gain target len)) ?_ rfl
    subst htarget hlen
    simp only [ownSourceGain, hc, hfree]
    rfl

/-- The sources a lane may turn on and off (R11). -/
theorem mayTurn_iff (l : LaneId) (src : Source) : mayTurn l src = true ↔ src = .fbk ∨ src = .mic ∧ l = .con := by
  simp only [mayTurn, Bool.or_eq_true, Bool.and_eq_true, decide_eq_true_eq]

section
variable (s : State) {l : LaneId} {src : Source}

/-- BAD_STATE comes before HELD: a source the lane may not turn (R11). -/
theorem State.turnChecks_of_not_mayTurn (h : ¬ (src = .fbk ∨ src = .mic ∧ l = .con)) :
    s.turnChecks l src = some .badState := by
  have hm : mayTurn l src = false := by rw [← Bool.not_eq_true, mayTurn_iff]; exact h
  simp [State.turnChecks, hm]

/-- HELD for AUT on a source it may turn and CON holds (R11, R13). -/
theorem State.turnChecks_of_held (h : src = .fbk ∨ src = .mic ∧ l = .con) (hh : l = .aut ∧ (s.entry src).controller = .con) :
    s.turnChecks l src = some .held := by
  have hm := (mayTurn_iff l src).mpr h
  have hf := (s.heldFor_iff l src).mpr hh
  simp [State.turnChecks, hm, hf]

/-- A source that passes both checks (R11, R13). -/
theorem State.turnChecks_of_free (h : src = .fbk ∨ src = .mic ∧ l = .con)
    (hh : ¬ (l = .aut ∧ (s.entry src).controller = .con)) : s.turnChecks l src = none := by
  have hm := (mayTurn_iff l src).mpr h
  have hf : s.heldFor l src = false := by rw [← Bool.not_eq_true, State.heldFor_iff]; exact hh
  simp [State.turnChecks, hm, hf]

end

/-- SOURCE_ON and SOURCE_OFF as one owner: the state in which an entry is left as it is, and what the ramp makes of any other. -/
def ownTurn (still : EntryState) (f : Nat → Entry → Entry) (l : LaneId) (body : List Byte) (s : State) : Answer :=
  match body with
  | c :: r1 :: r0 :: _ =>
    match sourceOf c with
    | none => s.reply .unknown
    | some src =>
      match s.turnChecks l src with
      | some code => s.reply code
      | none =>
        if (s.entry src).state = still then s.done else (s.updEntry src (f (rampSamples (word16 r1 r0)))).done
  | _ => s.reply .badLength

theorem ownSourceOn_eq (l : LaneId) : ownSourceOn l = ownTurn .live (fun len e => e.setLive len) l := by
  funext body s; unfold ownSourceOn ownTurn; rfl
theorem ownSourceOff_eq (l : LaneId) : ownSourceOff l = ownTurn .off (fun len e => e.setReleasing len) l := by
  funext body s; unfold ownSourceOff ownTurn; rfl

/-- Every answer of that owner, its checks in their order (R11, R12). -/
theorem ownTurn_answers {s : State} {l : LaneId} {rest more : List Byte} {c r1 r0 code : Byte} {i : Instr} {still : EntryState}
    {f : Nat → Entry → Entry} (h : s.asks l rest (c :: r1 :: r0 :: more)) (hl : l ≠ .alr)
    (hi : exec i s = .next (s.request l code rest (autOrCon l) 3 (ownTurn still f l))) :
    (sourceOf c = none → turnedAway i s l (code :: rest) .unknown) ∧
    ∀ (src : Source) (len : Nat), sourceOf c = some src → len = min (word16 r1 r0) 10000 * 48 →
      (¬ (src = .fbk ∨ src = .mic ∧ l = .con) → turnedAway i s l (code :: rest) .badState) ∧
      (src = .fbk → l = .aut → (s.entry src).controller = .con → turnedAway i s l (code :: rest) .held) ∧
      (src = .fbk ∨ src = .mic ∧ l = .con → ¬ (l = .aut ∧ (s.entry src).controller = .con) →
        ((s.entry src).state = still → turnedAway i s l (code :: rest) .done) ∧
        ((s.entry src).state ≠ still →
          completes i s
            { s with
              pb := { s.pb with roster := s.pb.roster.set src (f len (s.entry src)) }
              cl := s.replied l (code :: rest) .done [] })) := by
  have ha := autOrCon_of_ne_alr hl
  have hn : 3 ≤ (c :: r1 :: r0 :: more).length := by simp
  refine ⟨fun hc => ?_, fun src len hc hlen => ⟨fun hm => ?_, fun hf haut hcon => ?_, fun hm hfree => ⟨fun hs => ?_, fun hs => ?_⟩⟩⟩
  · exact turnedAway_of_reply h hi ha hn (by simp [ownTurn, hc])
  · have hk := (s.hearing l (code :: rest)).turnChecks_of_not_mayTurn hm
    exact turnedAway_of_reply h hi ha hn (by simp [ownTurn, hc, hk])
  · have hk := (s.hearing l (code :: rest)).turnChecks_of_held (.inl hf) ⟨haut, hcon⟩
    exact turnedAway_of_reply h hi ha hn (by simp [ownTurn, hc, hk])
  · have hk := (s.hearing l (code :: rest)).turnChecks_of_free hm hfree
    have hs : ((s.hearing l (code :: rest)).entry src).state = still := hs
    exact turnedAway_of_reply h hi ha hn (by simp only [ownTurn, hc, hk, hs]; rfl)
  · have hk := (s.hearing l (code :: rest)).turnChecks_of_free hm hfree
    have hs : ¬ ((s.hearing l (code :: rest)).entry src).state = still := hs
    refine completes_of_own (u := (s.hearing l (code :: rest)).updEntry src (f len)) h hi ha hn ?_ rfl
    subst hlen
    simp only [ownTurn, hc, hk, hs]
    rfl

/-- Settles O15: the answers of the shared owner, with the entry equations of a rise and of a release. -/
theorem sourcesAreTurnedOnAndOff : Obligations.SourcesAreTurnedOnAndOff := by
  refine ⟨fun s l rest more c r1 r0 h hl => ?_, fun s l rest more c r1 r0 h hl => ?_⟩
  · obtain ⟨hunknown, hturn⟩ := ownTurn_answers (code := 0x21#8) (i := .sourceOn l rest)
      (still := .live) (f := fun len e => e.setLive len) h hl
      (by rw [← ownSourceOn_eq]; rfl)
    refine ⟨hunknown, fun src len hc hlen => ?_⟩
    obtain ⟨hbad, hheld, hfree⟩ := hturn src len hc hlen
    refine ⟨hbad, hheld, fun hm hf => ⟨(hfree hm hf).1, fun hs => ?_⟩⟩
    rw [← Entry.setLive_of_ne_live hs]
    exact (hfree hm hf).2 hs
  · obtain ⟨hunknown, hturn⟩ := ownTurn_answers (code := 0x22#8) (i := .sourceOff l rest)
      (still := .off) (f := fun len e => e.setReleasing len) h hl
      (by rw [← ownSourceOff_eq]; rfl)
    refine ⟨hunknown, fun src len hc hlen => ?_⟩
    obtain ⟨hbad, hheld, hfree⟩ := hturn src len hc hlen
    refine ⟨hbad, hheld, fun hm hf => ⟨(hfree hm hf).1, fun hs => ?_⟩⟩
    rw [← Entry.setReleasing_of_ne_off hs]
    exact (hfree hm hf).2 hs

/-- Settles O16: both owners write the controller of the named entry alone. -/
theorem takeAndReleaseWriteTheController : Obligations.TakeAndReleaseWriteTheController := by
  intro s rest more c h
  have hn : 1 ≤ (c :: more).length := by simp
  refine ⟨fun hc => ⟨?_, ?_⟩, fun src hc => ⟨?_, fun k hk => ?_⟩⟩
  · exact turnedAway_of_reply (own := ownSourceTake) h rfl rfl hn (by simp [ownSourceTake, hc])
  · exact turnedAway_of_reply (own := ownSourceRelease) h rfl rfl hn (by simp [ownSourceRelease, hc])
  · exact completes_of_own (own := ownSourceTake) h rfl rfl hn
      (u := (s.hearing .con (0x23#8 :: rest)).setController src .con) (by simp only [ownSourceTake, hc]; rfl) rfl
  · rw [eq_defaultController hk]
    exact completes_of_own (own := ownSourceRelease) h rfl rfl hn
      (u := (s.hearing .con (0x24#8 :: rest)).setController src (defaultController src))
      (by simp only [ownSourceRelease, hc]; rfl) rfl

end Sys2Proof.Machine
end

section
/-! SUPPORT. The site send queue and the changeover: which unit bears a role, what a command adds to the queue, when the changeover
condition holds (R150, R151, R158, R161); and TX_SELECT and CEILING_RESTORE (O46). -/

namespace Sys2Proof.Machine

set_option Elab.async false

/-! ### Bearers and commands -/

section
variable {l m : Link} {r : Role} {op : SiteOp}

/-- The bearer of a role is read from the unit table alone. -/
theorem Link.bearer_congr (h : l.units = m.units) (r : Role) : l.bearer r = m.bearer r := by
  unfold Link.bearer; rw [h]

/-- No unit bears a role: every unit of the table has another. -/
theorem Link.bearer_eq_none_iff : l.bearer r = none ↔ ∀ u, (l.units.get u).role ≠ r := by
  have all : (∀ u, (l.units.get u).role ≠ r) ↔
      l.units.u0.role ≠ r ∧ l.units.u1.role ≠ r ∧ l.units.u2.role ≠ r ∧ l.units.u3.role ≠ r :=
    ⟨fun h => ⟨h .u0, h .u1, h .u2, h .u3⟩, fun ⟨h0, h1, h2, h3⟩ u => by
      cases u with
      | u0 => exact h0
      | u1 => exact h1
      | u2 => exact h2
      | u3 => exact h3⟩
  rw [all]
  unfold Link.bearer
  split_ifs <;> simp_all

/-- A command to the bearer of a role takes two places of the queue, and none where no unit bears it (R150). -/
theorem Link.charsTo_length_le (l : Link) (r : Role) (op : SiteOp) : (l.charsTo r op).length ≤ 2 := by
  unfold Link.charsTo
  cases l.bearer r with
  | none => exact Nat.zero_le _
  | some u => exact Nat.le_refl _

/-- Characters that have entered the send queue. -/
def Link.queue (l : Link) (cs : List SiteChar) : Link := { l with sendQueue := l.sendQueue ++ cs }

@[simp] theorem Link.queue_holder (l : Link) (cs : List SiteChar) : (l.queue cs).holder = l.holder := rfl
@[simp] theorem Link.queue_sendQueue (l : Link) (cs : List SiteChar) : (l.queue cs).sendQueue = l.sendQueue ++ cs := rfl
@[simp] theorem Link.charsTo_queue (l : Link) (cs : List SiteChar) (r : Role) (op : SiteOp) :
    (l.queue cs).charsTo r op = l.charsTo r op := rfl
theorem Link.queue_queue (l : Link) (cs ds : List SiteChar) : (l.queue cs).queue ds = l.queue (cs ++ ds) := by
  simp [Link.queue]

/-- A command that finds the holder empty and room in the queue enters the queue whole (R150, R151). -/
theorem Link.commandRole_eq (hh : l.holder = none) (hr : l.sendQueue.length + (l.charsTo r op).length ≤ 16) :
    l.commandRole r op = l.queue (l.charsTo r op) := by
  unfold Link.commandRole
  unfold Link.charsTo Link.queue at *
  cases hb : l.bearer r with
  | none => simp
  | some u =>
    have hroom : l.hasRoom = true := by
      simp only [hb, Option.map_some, Option.getD_some, SiteCommand.chars, List.length_cons, List.length_nil] at hr
      simpa [Link.hasRoom, Config.sendMax] using hr
    simp [Link.command, hh, hroom, Link.append]

@[simp] theorem Link.commandRole_units (l : Link) (r : Role) (op : SiteOp) : (l.commandRole r op).units = l.units := by
  unfold Link.commandRole Link.command
  split
  · split
    · rfl
    · split <;> rfl
  · rfl

@[simp] theorem Link.commandRole_active (l : Link) (r : Role) (op : SiteOp) : (l.commandRole r op).active = l.active := by
  unfold Link.commandRole Link.command
  split
  · split
    · rfl
    · split <;> rfl
  · rfl

/-! ### The changeover condition (R161) -/

/-- A unit is faulted by flag bit 1 of its last status (R177). -/
theorem SiteUnit.fault_iff (u : SiteUnit) : u.fault = true ↔ ∃ st, u.last = some st ∧ st.flags.getLsbD 1 = true := by
  unfold SiteUnit.fault bitAt
  cases u.last <;> simp

/-- The unit table's part of the changeover condition (R161). -/
theorem Link.mainFailed_iff : l.mainFailed = true ↔ l.mainDown := by
  unfold Link.mainFailed Link.mainDown
  cases hm : l.bearer .mainTx with
  | none => simp
  | some x =>
    cases hb : l.bearer .standbyTx with
    | none => simp
    | some y => simp [SiteUnit.fault_iff, and_comm]

end

theorem AirState.carrierUp_iff (a : AirState) : a.carrierUp = true ↔ a = .onAir ∨ a = .alertWake := by
  simp [AirState.carrierUp]

/-- The changeover condition, clause by clause (R161). -/
theorem State.changeoverHolds_iff (s : State) : s.changeoverHolds = true ↔
    s.pf.working.autoChangeover = true ∧ s.tl.active = .main ∧ (s.air.state = .onAir ∨ s.air.state = .alertWake) ∧
      s.tl.mainDown := by
  simp [State.changeoverHolds, AirState.carrierUp_iff, Link.mainFailed_iff, and_assoc]

/-- No changeover where its condition does not hold. -/
theorem State.lookChangeover_of_not {s : State} (h : ¬ s.changeoverHolds = true) : s.lookChangeover = s := if_neg h

/-! ### TX_SELECT -/

/-- A transmitter code names its transmitter (R174). -/
theorem transmitterOf_eq_some {c : Byte} {t : Transmitter} (h : c.toNat = if t = .main then 0 else 1) :
    transmitterOf c = some t := by
  unfold transmitterOf
  cases t with
  | main => rw [show c.toNat = 0 from h]; rfl
  | standby => rw [show c.toNat = 1 from h]; rfl

theorem transmitterOf_eq_none {c : Byte} (h : 1 < c.toNat) : transmitterOf c = none := by
  unfold transmitterOf
  split
  · omega
  · omega
  · rfl

/-- The characters of a TX_SELECT, in their order (R159). -/
def Link.selectChars (l : Link) (t : Transmitter) (up : Bool) : List SiteChar :=
  (if up then l.charsTo l.active.role .carrierOff ++ l.charsTo t.role .carrierOn else []) ++
    l.charsTo .siteControl (goCommand t)

/-- The carrier commands and the command to the site control unit, with an empty holder and room in the queue (R150, R159). -/
theorem Link.moveCarrier_commandRole {l : Link} (hh : l.holder = none) (left named : Transmitter) (up : Bool) (op : SiteOp)
    {cs : List SiteChar}
    (hc : cs = (if up then l.charsTo left.role .carrierOff ++ l.charsTo named.role .carrierOn else []) ++ l.charsTo .siteControl op)
    (hr : l.sendQueue.length + cs.length ≤ 16) : (l.moveCarrier left named up).commandRole .siteControl op = l.queue cs := by
  subst hc
  unfold Link.moveCarrier
  cases up with
  | false =>
    simp only [Bool.false_eq_true, if_false, List.nil_append] at hr ⊢
    exact Link.commandRole_eq hh hr
  | true =>
    simp only [if_true, List.length_append] at hr ⊢
    have h1 : l.commandRole left.role .carrierOff = l.queue (l.charsTo left.role .carrierOff) :=
      Link.commandRole_eq hh (by omega)
    have queued : ∀ (cs : List SiteChar) (r : Role) (op : SiteOp),
        l.sendQueue.length + cs.length + (l.charsTo r op).length ≤ 16 →
          (l.queue cs).commandRole r op = l.queue (cs ++ l.charsTo r op) := fun cs r op h => by
      rw [Link.commandRole_eq (l := l.queue cs) hh (by simpa using h), Link.charsTo_queue, Link.queue_queue]
    rw [h1, queued _ _ _ (by omega), queued _ _ _ (by simp only [List.length_append]; omega)]

/-- What a TX_SELECT leaves, with an empty holder and room in the queue (R150, R159). -/
theorem State.selectTransmitter_eq {s : State} {t : Transmitter} (hh : s.tl.holder = none)
    (hr : s.tl.sendQueue.length + (s.tl.selectChars t s.air.state.carrierUp).length ≤ 16) :
    s.selectTransmitter t = (s.setTl { s.tl with active := t, reflectSeen := false
                                                 sendQueue := s.tl.sendQueue ++ s.tl.selectChars t s.air.state.carrierUp }).raise
      .txChangeover := by
  have h := Link.moveCarrier_commandRole (l := { s.tl with active := t }) hh s.tl.active t s.air.state.carrierUp (goCommand t)
    (cs := s.tl.selectChars t s.air.state.carrierUp) rfl hr
  unfold State.selectTransmitter
  dsimp only
  rw [h]
  rfl

/-- When a TX_SELECT of a transmitter would be undone at once (R159 check 4). -/
theorem State.wouldChangeOver_iff (s : State) (t : Transmitter) : s.wouldChangeOver t = true ↔
    t = .main ∧ s.pf.working.autoChangeover = true ∧ (s.air.state = .onAir ∨ s.air.state = .alertWake) ∧ s.tl.mainDown := by
  unfold State.wouldChangeOver
  rw [State.changeoverHolds_iff]
  constructor
  · exact fun ⟨ha, ht, hu, hd⟩ => ⟨ht, ha, hu, hd⟩
  · exact fun ⟨ht, ha, hu, hd⟩ => ⟨ha, ht, hu, hd⟩

/-- Settles O46: the checks in order, then the queue by `State.selectTransmitter_eq`. -/
theorem txSelectAndCeilingRestore : Obligations.TxSelectAndCeilingRestore := by
  refine ⟨fun s rest more c h => ⟨fun hc => ?_, fun t up blocked q hc hup hblocked hqup hqdown => ?_⟩, fun s rest body h => ?_⟩
  · exact turnedAway_of_reply (own := ownTxSelect) h rfl rfl (by simp) (by simp [ownTxSelect, transmitterOf_eq_none hc])
  · have hn : 1 ≤ (c :: more).length := by simp
    have ht := transmitterOf_eq_some hc
    have hwould : (s.hearing .con (0x50#8 :: rest)).wouldChangeOver t = true ↔ blocked := by
      rw [State.wouldChangeOver_iff, hblocked, hup]; rfl
    have hq : q = s.tl.selectChars t s.air.state.carrierUp := by
      have hgo : goCommand t = if t = .main then .goMain else .goStandby := by cases t <;> rfl
      unfold Link.selectChars
      rw [hgo]
      by_cases hu : s.air.state.carrierUp = true
      · rw [if_pos hu]; exact hqup (hup.mpr ((AirState.carrierUp_iff _).mp hu))
      · rw [if_neg hu, List.nil_append]; exact hqdown fun hh => hu ((AirState.carrierUp_iff _).mpr (hup.mp hh))
    refine ⟨fun he => ?_, fun hne hbad => ?_, fun hne hex hfree hh hroom => ?_, fun hu hne h0 h1 h2 => ?_⟩
    · refine turnedAway_of_reply (own := ownTxSelect) h rfl rfl hn ?_
      simp only [ownTxSelect, ht, State.txSelect]
      exact if_pos he
    · have hcheck : (((s.hearing .con (0x50#8 :: rest)).tl.bearer t.role).isNone ||
          (s.hearing .con (0x50#8 :: rest)).wouldChangeOver t) = true := by
        rw [Bool.or_eq_true, hwould, Option.isNone_iff_eq_none, Link.bearer_eq_none_iff]
        exact hbad
      refine turnedAway_of_reply (own := ownTxSelect) h rfl rfl hn ?_
      simp only [ownTxSelect, ht, State.txSelect]
      exact (if_neg hne).trans (if_pos hcheck)
    · have hcheck : ¬ (((s.hearing .con (0x50#8 :: rest)).tl.bearer t.role).isNone ||
          (s.hearing .con (0x50#8 :: rest)).wouldChangeOver t) = true := by
        rw [Bool.or_eq_true, hwould, Option.isNone_iff_eq_none, Link.bearer_eq_none_iff]
        obtain ⟨u, hu⟩ := hex
        exact fun hh => hh.elim (fun hall => hall u hu) hfree
      have hsel := State.selectTransmitter_eq (s := s.hearing .con (0x50#8 :: rest)) (t := t) hh (hq ▸ hroom)
      rw [hq]
      refine completes_of_own (own := ownTxSelect)
        (u := ((s.hearing .con (0x50#8 :: rest)).setTl { s.tl with
          active := t, reflectSeen := false
          sendQueue := s.tl.sendQueue ++ s.tl.selectChars t s.air.state.carrierUp }).raise .txChangeover) h rfl rfl hn ?_ rfl
      simp only [ownTxSelect, ht, State.txSelect]
      exact ((if_neg hne).trans (if_neg hcheck)).trans (congrArg State.done hsel)
    · have hmain : s.tl.bearer .mainTx = some .u0 := by simp [Link.bearer, h0]
      have hstandby : s.tl.bearer .standbyTx = some .u1 := by simp [Link.bearer, h0, h1]
      have hcontrol : s.tl.bearer .siteControl = some .u2 := by simp [Link.bearer, h0, h1, h2]
      rw [hqup hu]
      cases ht : t with
      | main =>
        have ha : s.tl.active = .standby := by cases ha : s.tl.active <;> simp_all
        simp [ha, Transmitter.role, Link.charsTo, hmain, hstandby, hcontrol, SiteCommand.chars, selectCode, SiteOp.code]
      | standby =>
        have ha : s.tl.active = .main := by cases ha : s.tl.active <;> simp_all
        simp [ha, Transmitter.role, Link.charsTo, hmain, hstandby, hcontrol, SiteCommand.chars, selectCode, SiteOp.code]
  · exact completes_of_own (own := ownCeilingRestore) h rfl rfl (Nat.zero_le _)
      (u := (s.hearing .con (0x51#8 :: rest)).setCeiling false) rfl rfl

end Sys2Proof.Machine
end

section
/-! SUPPORT. The alert log as records written in order, the entry into a start state, and the two resets (O4, O8). -/

namespace Sys2Proof.Machine

set_option Elab.async false

/-! ### Records written to the alert log (R128) -/

/-- No record written leaves the alert unit as it is, where the log fits. -/
theorem AlertUnit.logged_nil {a : AlertUnit} (h : a.log.length ≤ 32) : a.logged [] = a := by
  simp [AlertUnit.logged, List.take_of_length_le h]

/-- Records are written one after the other. -/
theorem AlertUnit.logged_cons {a : AlertUnit} (h : a.log.length ≤ 32) (r : LogRecord) (rs : List LogRecord) :
    a.logged (r :: rs) = (a.logged [r]).logged rs := by
  have numbers : ∀ k : Nat, (a.recordCounter.toNat + (k + 1)) % 65536 = ((a.recordCounter + 1#32).toNat + k) % 65536 := by
    intro k
    simp only [BitVec.toNat_add, BitVec.toNat_ofNat]
    omega
  have counter : a.recordCounter + BitVec.ofNat 32 (rs.length + 1) = a.recordCounter + 1#32 + BitVec.ofNat 32 rs.length := by
    apply BitVec.eq_of_toNat_eq
    simp only [BitVec.toNat_add, BitVec.toNat_ofNat]
    omega
  have overwrites : countUp^[rs.length + 1 - (32 - a.log.length)] a.logOverwrites =
      countUp^[rs.length - (32 - min 32 (a.log.length + 1))] (countUp^[1 - (32 - a.log.length)] a.logOverwrites) := by
    rw [← Function.iterate_add_apply]
    congr 1
    omega
  have newest : ∀ xs ys : List LogRecord, (xs ++ ys.take 32).take 32 = (xs ++ ys).take 32 := fun xs ys => by
    simp [List.take_append, List.take_take]
  simp only [AlertUnit.logged, List.mapIdx_cons, List.mapIdx_nil, List.reverse_cons, List.reverse_nil, List.nil_append,
    List.length_cons, List.length_nil, Nat.add_zero, Nat.zero_add, List.append_assoc, List.cons_append, List.length_take,
    numbers, counter, overwrites, newest]

theorem AlertUnit.logged_log_le (a : AlertUnit) (rs : List LogRecord) : (a.logged rs).log.length ≤ 32 := by
  simp [AlertUnit.logged]

/-- A record written is one record logged (R128). -/
theorem AlertUnit.write_eq {a : AlertUnit} (h : a.log.length ≤ 32) (id : Nat) (cls : AlertClass) (originator : Nat)
    (out : LogOutcome) (arrival : Clock) (airing : Option Airing) :
    a.write id cls originator out arrival airing =
      a.logged [{ number := 0, id := id, cls := cls, originator := originator, outcome := out, arrival := arrival
                  airing := airing }] := by
  have lost : (if a.log.length < 32 then a.logOverwrites else countUp a.logOverwrites) =
      countUp^[1 - (32 - a.log.length)] a.logOverwrites := by
    split
    · rw [show 1 - (32 - a.log.length) = 0 by omega]; rfl
    · rw [show 1 - (32 - a.log.length) = 1 by omega]; rfl
  simp [AlertUnit.write, AlertUnit.logged, Config.logMax]
  exact lost

/-- Pending alerts logged in table order are their records logged (R128). -/
theorem AlertUnit.foldl_writePending {a : AlertUnit} (h : a.log.length ≤ 32) (out : LogOutcome) (ps : List PendingAlert) :
    ps.foldl (fun acc p => acc.writePending p out) a = a.logged (ps.map (·.record out)) := by
  induction ps generalizing a with
  | nil => exact (AlertUnit.logged_nil h).symm
  | cons p ps ih =>
    rw [List.map_cons, AlertUnit.logged_cons h, List.foldl_cons]
    unfold AlertUnit.writePending at ih ⊢
    rw [AlertUnit.write_eq h, ih (AlertUnit.logged_log_le _ _)]
    rfl

/-- The alert unit at a global reset: the on-air alert and then the pending ones logged ABORTED (R131). -/
theorem AlertUnit.globalReset_eq {a : AlertUnit} (h : a.log.length ≤ 32) (now : Clock) :
    a.globalReset now = { a.logged (a.onAir.toList.map (·.record now .aborted) ++ a.table.map (·.record .aborted)) with
      table := [], onAir := none, armed := true, p1 := 0#32, p2 := 0#32 } := by
  unfold AlertUnit.globalReset
  cases ho : a.onAir with
  | none =>
    dsimp only
    rw [AlertUnit.foldl_writePending h]
    rfl
  | some o =>
    have hw : a.writeOnAir o .aborted now = a.logged [o.record now .aborted] := AlertUnit.write_eq h ..
    dsimp only
    rw [hw, AlertUnit.foldl_writePending (AlertUnit.logged_log_le _ _), ← AlertUnit.logged_cons h]
    rfl

/-! ### An alert unit with no alert pending -/

section
variable {s : State}

/-- A sweep of an empty table changes nothing (R119). -/
theorem State.sweep_of_empty (h : s.al.table = []) : s.sweep = s := by
  have ha : s.al.sweep s.pf.working.wake.alertWake = s.al := by
    unfold AlertUnit.sweep
    rw [h]
    show { s.al with table := [] } = s.al
    rw [← h]
  unfold State.sweep State.setAl
  rw [ha]

/-- With an empty table no alert takes the air (R117). -/
theorem State.checkAlerts_of_empty (h : s.al.table = []) : s.checkAlerts = s := by
  unfold State.checkAlerts; rw [h]

/-- With an empty table a break opportunity only clears its signal (R118). -/
theorem State.takeBreak_of_empty (h : s.al.table = []) : s.takeBreak = s.setSq { s.sq with breakSignal := false } := by
  have hb : ∀ u : State, u.al.table = [] → u.breakOpportunity = u := fun u hu => by
    unfold State.breakOpportunity; rw [hu]
  unfold State.takeBreak
  split
  · exact hb _ h
  · rename_i hs
    have hs : false = s.sq.breakSignal := (Bool.eq_false_iff.mpr hs).symm
    rw [hs]
    rfl

/-! ### The entry into a start state (R141) -/

/-- No main unit is down before a unit has been polled (R158, R161). -/
theorem Link.not_mainDown_initial (p : Profile) {l : Link} (h : l.units = (Link.initial p).units) : ¬ l.mainDown := by
  rintro ⟨m, b, -, -, hp, -⟩
  rw [h] at hp
  cases b <;> exact nomatch hp

/-- Whether the main unit is down is read from the unit table alone (R161). -/
theorem Link.mainDown_congr {l m : Link} (h : l.units = m.units) : l.mainDown ↔ m.mainDown := by
  unfold Link.mainDown
  simp only [Link.bearer_congr h, h]

/-- A change of the air state with the main unit not down: AIR_STATE and the carrier command (R133). -/
theorem State.announceAir_eq (hd : ¬ s.tl.mainDown) {old : AirState} {op : SiteOp} (hc : carrierFor old s.air.state = some op) :
    s.announceAir old = (s.raise .airState).carrier op := by
  have hl : ¬ ((s.raise .airState).carrier op).changeoverHolds = true := by
    rw [State.changeoverHolds_iff]
    exact fun h => hd ((Link.mainDown_congr (Link.commandRole_units _ _ _)).mp h.2.2.2)
  unfold State.announceAir
  simp only [hc]
  exact State.lookChangeover_of_not hl

/-- The entry into a start state with no alert pending and the main unit not down (R133, R141). -/
theorem State.enterStartState_eq (ht : s.al.table = []) (hd : ¬ s.tl.mainDown) (st : StartState) :
    s.enterStartState st = { s with
      air := { s.air with state := st.air }
      ev := s.ev.raise .airState
      tl := s.tl.commandRole s.tl.active.role (if st = .onAir then .carrierOn else .carrierOff) } := by
  have hc : carrierFor .starting (s.setAir st.air).air.state = some (if st = .onAir then .carrierOn else .carrierOff) := by
    cases st <;> rfl
  unfold State.enterStartState
  dsimp only
  rw [State.announceAir_eq (s := s.setAir st.air) hd hc, State.sweep_of_empty (by exact ht), ite_self,
    State.checkAlerts_of_empty (by exact ht)]
  rfl

end

/-! ### GLOBAL_RESET -/

/-- The characters a global reset queues: the return to MAIN, and the carrier command of the start state (R133, R157). -/
def Link.resetChars (l : Link) (was : Transmitter) (st : StartState) : List SiteChar :=
  (if was = .standby then l.charsTo .standbyTx .carrierOff ++ l.charsTo .siteControl .goMain else []) ++
    l.charsTo .mainTx (if st = .onAir then .carrierOn else .carrierOff)

/-- The return to MAIN and the carrier command enter the emptied queue whole (R150, R157). -/
theorem Link.returnToMain_commandRole {l : Link} (hh : l.holder = none) (hq : l.sendQueue = []) (was : Transmitter)
    (st : StartState) :
    (l.returnToMain was).commandRole .mainTx (if st = .onAir then .carrierOn else .carrierOff) =
      l.queue (l.resetChars was st) := by
  have hlen := fun (r : Role) (op : SiteOp) => l.charsTo_length_le r op
  have queued : ∀ (cs : List SiteChar) (r : Role) (op : SiteOp), cs.length ≤ 14 →
      (l.queue cs).commandRole r op = l.queue (cs ++ l.charsTo r op) := fun cs r op h => by
    have hl := hlen r op
    rw [Link.commandRole_eq (l := l.queue cs) hh (by simp only [Link.queue_sendQueue, hq, List.nil_append, Link.charsTo_queue]; omega),
      Link.charsTo_queue, Link.queue_queue]
  have h0 : l = l.queue [] := by simp [Link.queue]
  unfold Link.returnToMain Link.resetChars
  split
  · have h1 := hlen .standbyTx .carrierOff
    have h2 := hlen .siteControl .goMain
    have hc : l.commandRole .standbyTx .carrierOff = l.queue ([] ++ l.charsTo .standbyTx .carrierOff) := by
      conv_lhs => rw [h0]
      exact queued [] _ _ (by simp)
    rw [hc, queued _ _ _ (by simp only [List.nil_append]; omega),
      queued _ _ _ (by simp only [List.nil_append, List.length_append]; omega)]
    rfl
  · conv_lhs => rw [h0]
    exact queued [] _ _ (by simp)

/-- The blocks at a global reset, before the return to MAIN and the entry into the start state (R189 steps 1 to 4). -/
theorem State.resetBlocks_eq {s : State} (h : s.al.log.length ≤ 32) (p : Profile) (hp : p = s.pf.loaded) :
    s.resetBlocks = { s with
      pb := .initial p, sq := .initial, ps := .initial, lc := .initial, du := .initial p
      al := { s.al.logged (s.al.onAir.toList.map (·.record s.ev.clock .aborted) ++ s.al.table.map (·.record .aborted)) with
              table := [], onAir := none, armed := true, p1 := 0#32, p2 := 0#32 }
      air := s.air.globalReset p
      tl := s.tl.globalReset p
      cl := mapLanes Lane.globalReset s.cl
      ev := if s.pf.valid then s.ev.globalReset else s.ev.globalReset.raise .profileDefaulted
      pf := s.pf.globalReset } := by
  subst hp
  unfold State.resetBlocks
  dsimp only
  rw [AlertUnit.globalReset_eq h]
  cases s.pf.valid <;> rfl

/-- A power-on and a global reset leave a lane that has just ended a transaction at its initial value (R170). -/
theorem Lane.globalReset_finish (x : Lane) (bytes : List Byte) : (x.finish bytes).globalReset = Lane.initial := by
  simp only [Lane.globalReset, Lane.powerOn, Lane.finish_phase, if_true]
  rfl

/-- The whole state a global reset leaves (R189). -/
theorem State.globalReset_eq {s : State} (h : s.al.log.length ≤ 32) (p : Profile) (hp : p = s.pf.loaded) :
    s.globalReset = { s with
      pb := .initial p, sq := .initial, ps := .initial, lc := .initial, du := .initial p
      al := { s.al.logged (s.al.onAir.toList.map (·.record s.ev.clock .aborted) ++ s.al.table.map (·.record .aborted)) with
              table := [], onAir := none, armed := true, p1 := 0#32, p2 := 0#32 }
      air := { s.air.globalReset p with state := p.startState.air }
      tl := (s.tl.globalReset p).queue ((Link.initial p).resetChars s.tl.active p.startState)
      cl := mapLanes Lane.globalReset s.cl
      ev := (if s.pf.valid then s.ev.globalReset else s.ev.globalReset.raise .profileDefaulted).raise .airState
      pf := s.pf.globalReset } := by
  have hm := Link.returnToMain_commandRole (l := s.tl.globalReset p) rfl rfl s.tl.active p.startState
  have hactive : ((s.tl.globalReset p).returnToMain s.tl.active).active = .main := by
    unfold Link.returnToMain
    split
    · simp only [Link.commandRole_active]; rfl
    · rfl
  have hunits : ((s.tl.globalReset p).returnToMain s.tl.active).units = (Link.initial p).units := by
    unfold Link.returnToMain
    split
    · simp only [Link.commandRole_units]; rfl
    · rfl
  unfold State.globalReset
  dsimp only
  rw [State.resetBlocks_eq h p hp, State.enterStartState_eq rfl (Link.not_mainDown_initial p hunits)]
  simp only [State.setTl, hactive]
  rw [show Transmitter.main.role = Role.mainTx from rfl,
    show (s.air.globalReset p).startInto = p.startState from rfl, hm]
  rfl

/-- Settles O8: the owner's whole effect by `State.globalReset_eq`, the lanes and the raised kinds evaluated. -/
theorem globalResetTakesEveryBlock : Obligations.GlobalResetTakesEveryBlock := by
  intro s rest body p l q set h hfit hp hl hq hset
  obtain ⟨-, -, -, hlog, -, -⟩ := hfit
  have hqueue : q = l.resetChars s.tl.active p.startState := by
    rw [hq]
    cases p.startState <;> rfl
  constructor
  · have hr := State.request_asks h 0x58#8 (allowed := onlyCon .con) rfl (Nat.zero_le _) ownGlobalReset
    have hg := State.globalReset_eq (s := s.hearing .con (0x58#8 :: rest)) hlog p hp
    have hev : (if s.pf.valid then s.ev.globalReset else s.ev.globalReset.raise .profileDefaulted).raise .airState =
        { status := { aut := set, con := set, alr := set }, enable := defaultEnables, clock := s.ev.clock } := by
      rw [hset]
      cases s.pf.valid <;> simp [EventUnit.raise, EventUnit.globalReset, EventUnit.initial]
    have hcl : mapLanes Lane.globalReset (s.hearing .con (0x58#8 :: rest)).cl =
        { aut := s.cl.aut.globalReset, con := Lane.initial, alr := s.cl.alr.globalReset } := by
      have hcon := Lane.globalReset_finish s.cl.con (0x58#8 :: rest)
      unfold mapLanes State.hearing State.lanesHeard
      exact congrArg (fun x : Lane => ({ aut := s.cl.aut.globalReset, con := x, alr := s.cl.alr.globalReset } : PerLane Lane)) hcon
    have ho : ∀ t : State, ownGlobalReset body t = t.globalReset.done := fun _ => rfl
    unfold completes exec execGlobalReset
    dsimp only
    rw [hr, ho, show s.setLane .con ((s.cl.get .con).finish (0x58#8 :: rest)) = s.hearing .con (0x58#8 :: rest) from rfl, hg,
      hcl, hqueue, hl]
    unfold State.done State.reply State.place State.setLane State.hearing
    dsimp only
    rw [hev, hp]
    rfl
  · intro hroles
    have hmain : l.bearer .mainTx = some .u0 := by rw [hl]; simp [Link.bearer, Link.initial, SiteUnit.initial, hroles]
    have hstandby : l.bearer .standbyTx = some .u1 := by rw [hl]; simp [Link.bearer, Link.initial, SiteUnit.initial, hroles]
    have hcontrol : l.bearer .siteControl = some .u2 := by rw [hl]; simp [Link.bearer, Link.initial, SiteUnit.initial, hroles]
    rw [hq]
    cases p.startState <;> cases s.tl.active <;>
      simp [Link.charsTo, hmain, hstandby, hcontrol, SiteCommand.chars, selectCode, SiteOp.code]

/-! ### The power-on values -/

/-- Settles O4: each register of the state right after power-on, source by source, deck by deck, line by line, lane by lane. -/
theorem resetHoldsThePowerOnValues : Obligations.ResetHoldsThePowerOnValues := by
  have sources : ∀ src : Source, (State.reset.entry src).state = .off ∧ (State.reset.entry src).current = 0 ∧
      (State.reset.entry src).remaining = 0 ∧ (State.reset.entry src).target = 16384 ∧ (State.reset.entry src).bound = none ∧
      ((State.reset.entry src).controller = .aut ↔ src = .pla ∨ src = .plb ∨ src = .fbk) := fun src => by
    cases src <;> decide
  have decks : ∀ d : DeckId, (State.reset.deck d).state = .free ∧ (State.reset.deck d).item = none ∧
      (State.reset.deck d).position = 0 ∧ (State.reset.deck d).startedAt = none := fun d => by
    cases d <;> decide
  have lines : ∀ n : LineId, (State.reset.line n).state = .idle ∧ (State.reset.line n).seize = false ∧
      (State.reset.line n).ringTimer = none ∧ (State.reset.line n).holdStart = none ∧ (State.reset.line n).feed = .hold := fun n => by
    cases n <;> decide
  have lanes : ∀ l : LaneId, (State.reset.lane l).rx = [] ∧ (State.reset.lane l).reply = none ∧
      (State.reset.lane l).inFlight = false ∧ (State.reset.lane l).collision = false ∧ (State.reset.lane l).errors = 0 ∧
      State.reset.ev.status.get l = 0#29 ∧ State.reset.attention l = false := fun l => by
    cases l <;> decide
  unfold Obligations.ResetHoldsThePowerOnValues
  simp only [sources, decks, lines, lanes, implies_true, true_and]
  decide

end Sys2Proof.Machine
end

section
/-! SUPPORT. What one mix leaves of each block (R17 to R25): the roster, the duck envelope, the gains and the sums, the ceiling, the
feeds and the tone; and the statements about MIX and RELEASE_RAMP_END (O9, O10, O11, O12). -/

namespace Sys2Proof.Machine

set_option Elab.async false

/-! ### A release that has run stands at 0 (R6) -/

/-- A RELEASING entry whose ramp has run stands at 0. -/
def Entry.runOut (e : Entry) : Prop := e.state = .releasing → e.remaining = 0 → e.current = 0

section
variable {e : Entry}

/-- A state other than RELEASING is no release. -/
theorem Entry.runOut_of_ne (h : e.state ≠ .releasing) : e.runOut := fun hs => absurd hs h

theorem Entry.rampLive_state (e : Entry) (len : Nat) : (e.rampLive len).state = e.state := rfl

theorem Entry.setLive_state (e : Entry) (len : Nat) : (e.setLive len).state = .live := by
  unfold Entry.setLive
  cases hs : e.state with
  | live => exact hs
  | off => rfl
  | releasing => rfl

/-- A step of a release lands on 0 with its last step (R8). -/
theorem rampStep_last (present aim : Nat) : rampStep present aim 1 = aim := by
  unfold rampStep
  rw [Nat.cast_one, Int.tdiv_one]
  omega

theorem Entry.runOut.setReleasing (h : e.runOut) (len : Nat) : (e.setReleasing len).runOut := by
  by_cases hs : e.state = .off
  · have he : e.setReleasing len = e := by unfold Entry.setReleasing; rw [hs]
    rw [he]; exact h
  · rw [Entry.setReleasing_of_ne_off hs]
    split
    · exact Entry.runOut_of_ne nofun
    · rename_i hn
      exact fun _ hr => absurd (.inl hr) hn

theorem Entry.runOut.fadeOut (h : e.runOut) (len : Nat) : (e.fadeOut len).runOut := by
  unfold Entry.fadeOut
  split
  · exact h
  · split
    · rename_i hs; exact Entry.runOut_of_ne (by rw [Entry.rampLive_state]; simp [hs])
    · exact h
    · exact Entry.runOut.setReleasing (e := { e with target := 0, faded := true }) h len

theorem Entry.runOut.restore (h : e.runOut) (saved : EntryState) (target len : Nat) (faded : Bool) :
    (e.restore saved target len faded).runOut := by
  unfold Entry.restore
  cases saved with
  | live => exact Entry.runOut_of_ne nofun
  | off => exact Entry.runOut.setReleasing (e := { e with target := target, faded := faded }) h len
  | releasing => exact fun _ (hl : len = 0) => if_pos hl

theorem Entry.runOut.step (h : e.runOut) : e.step.runOut := by
  unfold Entry.step
  split
  · exact h
  · rename_i hr
    cases hs : e.state with
    | off => exact h
    | live => exact Entry.runOut_of_ne (by simp)
    | releasing =>
      intro _ hl
      have h1 : e.remaining = 1 := by dsimp only at hl; omega
      dsimp only
      rw [h1, rampStep_last]

theorem Entry.runOut_releaseEnd (e : Entry) : e.releaseEnd.runOut := by
  unfold Entry.releaseEnd
  split
  · exact Entry.runOut_of_ne nofun
  · rename_i h; exact fun hs hr => absurd ⟨hs, hr⟩ h

end

/-- That a release that has run stands at 0 is a law of the roster. -/
def releaseLaw : EntryLaw where
  holds := Entry.runOut
  target _ := True
  len _ := True
  target_of_le _ := trivial
  len_of_le _ := trivial
  target_holds _ := trivial
  initial _ _ := Entry.runOut_of_ne nofun
  bind h _ := h
  control h _ := h
  classify h _ := h
  retarget h _ _ := h
  setOff _ := Entry.runOut_of_ne nofun
  setLive {e} _ {n} _ := Entry.runOut_of_ne (by rw [e.setLive_state]; nofun)
  setReleasing h n _ := h.setReleasing n
  gain {e} h {x n} _ _ := by
    rw [Entry.gain_eq]
    split
    · rename_i hs; exact Entry.runOut_of_ne (by simp [hs])
    · exact h
  fadeOut h n _ := h.fadeOut n
  startItem {e} _ {x n} _ _ := by
    unfold Entry.startItem
    split
    · exact Entry.runOut_of_ne nofun
    · exact Entry.runOut_of_ne (by rw [Entry.setLive_state]; nofun)
  resumeItem {e} h {n} _ := by
    unfold Entry.resumeItem
    split
    · split
      · exact Entry.runOut_of_ne nofun
      · exact Entry.runOut_of_ne (by rw [Entry.setLive_state]; nofun)
    · exact h
    · exact h
  restore h st x n _ _ faded := h.restore st x n faded
  step h := h.step
  releaseEnd {e} _ := e.runOut_releaseEnd

/-- With nothing due, no release stands at its end with its fader up (R6; log 6). -/
theorem State.settled.runOut {s : State} (h : s.settled) (src : Source) : (s.entry src).runOut := by
  have hr : State.lawful releaseLaw s.settleStart.settleRoster :=
    ⟨fun x => by
      rw [State.settleRoster, State.entry_eq, State.updRoster_pb]
      simp only [PerSource_get_mapWith]
      exact Entry.runOut_releaseEnd _, fun _ _ => ⟨trivial, trivial, trivial⟩, fun _ _ _ => trivial⟩
  have hs : s.settle.lawful releaseLaw :=
    ((((hr.settleSequencer.settleAlert.blockJudged).settleLines.replyWindowClose.pollTimerExpiry.frameBoundary.assemblerTake
      ).laneTimeout .aut).laneTimeout .con).laneTimeout .alr
  rw [h.1] at hs
  exact hs.faders src

/-! ### What a mix completes with -/

theorem mix_completes (f : InputFrame) (s : State) : completes (.mix f) s (s.mix f) := rfl

theorem mix_completes_of_settled {s : State} (h : s.settled) (f : InputFrame) : completes (.mix f) s (s.mixPeriod f) := by
  rw [← State.mix_settled h]
  exact mix_completes f s

section
variable (s : State) (f : InputFrame)

theorem EventUnit.advance_clock (e : EventUnit) : e.advance.clock = e.clock + 1#32 := by
  unfold EventUnit.advance
  dsimp only
  split <;> rfl

theorem State.mixPeriod_clock : (s.mixPeriod f).ev.clock = s.ev.clock + 1#32 := by
  change (s.raiseIf (programClips (s.mixAudio f).acc) .clip).ev.advance.clock = _
  rw [EventUnit.advance_clock]
  unfold State.raiseIf
  split <;> rfl

/-! ### The ceiling stage (R22, R23, R25) -/

theorem ceilingInForce_eq (lowered : Bool) (c : Nat) :
    ceilingInForce lowered c = ((if lowered then (c * 11598 + 8192) / 16384 else c : Nat) : Int) := by
  cases lowered <;> rfl

theorem clampTo_natAbs_le (c : Nat) (x : Int) : (clampTo c x).natAbs ≤ c := by
  unfold clampTo
  omega

theorem clampTo_eq_self_iff {c : Nat} {x : Int} : clampTo c x = x ↔ x.natAbs ≤ c := by
  unfold clampTo
  omega

theorem countUp_eq (n : Nat) : countUp n = if n < 65535 then n + 1 else n := rfl

theorem State.mixPeriod_output : (s.mixPeriod f).ap.airMonitor = (s.mixAudio f).output := rfl

theorem State.mixPeriod_lowered : (s.mixPeriod f).pb.ceilingLowered = s.pb.ceilingLowered := rfl

theorem State.mixPeriod_working : (s.mixPeriod f).pf.working = s.pf.working := rfl

theorem State.mixPeriod_air : (s.mixPeriod f).air.state = s.air.state := rfl

theorem State.mixPeriod_pairs : (s.mixPeriod f).tl.pairs = s.tl.pairs ++ [(s.mixAudio f).output] := rfl

theorem State.mixAudio_output_of_silent (h : s.air.state.silent = true) : (s.mixAudio f).output = { l := 0, r := 0 } :=
  if_pos h

variable {s} {c : Nat}
  (hc : c = if s.pb.ceilingLowered then (s.pf.working.ceiling * 11598 + 8192) / 16384 else s.pf.working.ceiling)
include hc

theorem State.mixAudio_output_of_not_silent (h : s.air.state.silent = false) :
    (s.mixAudio f).output = { l := clampTo c (s.mixAudio f).toLimit.l, r := clampTo c (s.mixAudio f).toLimit.r } := by
  rw [hc, ← ceilingInForce_eq]
  exact if_neg (by simp [h])

theorem State.mixAudio_output_natAbs_le : (s.mixAudio f).output.l.natAbs ≤ c ∧ (s.mixAudio f).output.r.natAbs ≤ c := by
  cases h : s.air.state.silent with
  | true => simp [State.mixAudio_output_of_silent s f h]
  | false =>
    rw [State.mixAudio_output_of_not_silent f hc h]
    exact ⟨clampTo_natAbs_le _ _, clampTo_natAbs_le _ _⟩

/-- A mix counts one ceiling hit where a channel of the pair to limit lies outside the ceiling (R25). -/
theorem State.mixPeriod_ceilingHits (h : s.air.state.silent = false) : (s.mixPeriod f).pb.ceilingHits =
    if (c < (s.mixAudio f).toLimit.l.natAbs ∨ c < (s.mixAudio f).toLimit.r.natAbs) ∧ s.pb.ceilingHits < 65535
    then s.pb.ceilingHits + 1 else s.pb.ceilingHits := by
  have hit : (s.mixAudio f).hit s.air.state.silent = true ↔
      (c < (s.mixAudio f).toLimit.l.natAbs ∨ c < (s.mixAudio f).toLimit.r.natAbs) := by
    rw [MixResult.hit, h, State.mixAudio_output_of_not_silent f hc h, ← not_iff_not, not_or, Nat.not_lt, Nat.not_lt,
      ← clampTo_eq_self_iff, ← clampTo_eq_self_iff]
    obtain ⟨l, r⟩ := (s.mixAudio f).toLimit
    simp
  change (if (s.mixAudio f).hit s.air.state.silent then countUp s.pb.ceilingHits else s.pb.ceilingHits) = _
  simp only [hit, countUp_eq, ite_and]

end

theorem AirState.silent_eq_false {a : AirState} (h : a = .onAir ∨ a = .alertWake) : a.silent = false := by
  obtain rfl | rfl := h <;> rfl

theorem AirState.silent_eq_true {a : AirState} (h : a = .offAir ∨ a = .starting) : a.silent = true := by
  obtain rfl | rfl := h <;> rfl

/-- Settles O9, from the ceiling stage of the period of a mix: on every state after what was due is settled, and with nothing due on
the state itself. -/
theorem mixOutputStaysWithinTheCeiling : Obligations.MixOutputStaysWithinTheCeiling := by
  unfold Obligations.MixOutputStaysWithinTheCeiling
  constructor
  · intro f s held
    refine ⟨s.settle.mixPeriod f, ?_, ?_, fun c hc => ?_, fun ha => ?_, ?_⟩
    · rw [← State.mix_runs held]; exact mix_completes f s
    · rw [State.mixPeriod_clock, State.settle_ev_clock]
    · rw [State.mixPeriod_lowered, State.mixPeriod_working] at hc
      rw [State.mixPeriod_output]
      exact State.mixAudio_output_natAbs_le f hc
    · rw [State.mixPeriod_air] at ha
      rw [State.mixPeriod_output, State.mixAudio_output_of_silent _ f (AirState.silent_eq_true ha)]
    · rw [State.mixPeriod_pairs, List.getLast?_concat, State.mixPeriod_output]
  · intro f s c settled noAlert onAir hc
    have sounding := AirState.silent_eq_false onAir
    have limit : (s.mixAudio f).toLimit = (s.mixPeriod f).du.lastOut := if_neg (by simp [State.alertActive, noAlert])
    refine ⟨s.mixPeriod f, mix_completes_of_settled settled f, ?_, ?_⟩
    · rw [State.mixPeriod_output, State.mixAudio_output_of_not_silent f hc sounding, limit]; rfl
    · rw [State.mixPeriod_ceilingHits f hc sounding, limit]

/-! ### An alert on the air (R24, R125) -/

theorem sat24_eq (x : Int) : sat24 x = max (-8388608) (min 8388607 x) := rfl

theorem toneSample_eq (p1 p2 : BitVec 32) (level : Nat) : toneSample p1 p2 level =
    max (-8388608) (min 8388607 ((sine (p1.toNat / 4194304) * level + sine (p2.toNat / 4194304) * level + 16384) >>> (15 : Nat))) := by
  have index (p : BitVec 32) : toneIndex p = p.toNat / 4194304 := by
    rw [toneIndex, BitVec.toNat_ushiftRight, Nat.shiftRight_eq_div_pow]
  rw [toneSample, index, index, sat24_eq, monoRound]

section
variable (s : State) {o : OnAirAlert} (h : s.al.onAir = some o) (alr : Sample)
include h

theorem State.alertMix_eq : s.alertMix alr =
    if o.phase = .attention then
      max (-8388608) (min 8388607 ((sine (s.al.p1.toNat / 4194304) * s.pf.working.toneLevel +
        sine (s.al.p2.toNat / 4194304) * s.pf.working.toneLevel + 16384) >>> (15 : Nat)))
    else if o.phase = .message then
      max (-8388608) (min 8388607 ((alr.toInt * s.pf.working.alertGain + 8192) >>> (14 : Nat)))
    else 0 := by
  unfold State.alertMix
  rw [h]
  cases hp : o.phase with
  | attention => simp only [hp, if_true]; exact toneSample_eq _ _ _
  | message => simp only [hp]; rfl
  | closing => simp [hp]

theorem AlertUnit.tick_of_onAir : s.al.tick =
    { s.al with
      onAir := some { o with count := o.count + 1 }
      p1 := if o.phase = .attention then s.al.p1 + 57266231#32 else s.al.p1
      p2 := if o.phase = .attention then s.al.p2 + 91625969#32 else s.al.p2 } := by
  unfold AlertUnit.tick
  rw [h]
  dsimp only
  split <;> rfl

end

theorem State.mixPeriod_feed (s : State) (f : InputFrame) (n : LineId) : (s.mixPeriod f).ap.feeds.get n =
    feedSample (s.line n) (s.mixAudio f).acc ((s.mixAudio f).bus.contribution f n.source) s.pf.working.holdGain f.tb
      (s.alertMix f.alr) := by
  cases n <;> rfl

theorem feedSample_of_not_seized {r : LineRec} (h : r.seize = false) (acc x : Pair) (holdGain : Nat) (tb : Sample) (alert : Int) :
    feedSample r acc x holdGain tb alert = 0 := if_neg (by simp [h])

theorem feedSample_of_seized {r : LineRec} (h : r.seize = true) (acc x : Pair) (holdGain : Nat) (tb : Sample) (alert : Int) :
    feedSample r acc x holdGain tb alert =
      match r.feed with
      | .mixMinus => sat24 (monoRound ((acc.l - x.l) + (acc.r - x.r)))
      | .hold => gainRound (sat24 (monoRound (acc.l + acc.r)) * holdGain)
      | .screen => tb.toInt
      | .alert => alert := if_pos h

/-- Settles O11: the alert-mix sample is the pair to limit on both channels, and the feed of the lines that hear the alert. -/
theorem mixOfAnAlert : Obligations.MixOfAnAlert := by
  unfold Obligations.MixOfAnAlert
  intro f s o x settled active onAir hx
  have sounding := AirState.silent_eq_false onAir
  have sample : s.alertMix f.alr = x := (s.alertMix_eq active f.alr).trans hx.symm
  have limit : (s.mixAudio f).toLimit = { l := x, r := x } := by
    rw [← sample]
    exact if_pos (by simp [State.alertActive, active])
  refine ⟨s.mixPeriod f, mix_completes_of_settled settled f, fun c hc => ⟨?_, ?_⟩, fun n seized alert => ?_, fun n free => ?_,
    AlertUnit.tick_of_onAir s active⟩
  · rw [State.mixPeriod_output, State.mixAudio_output_of_not_silent f hc sounding, limit]; rfl
  · rw [State.mixPeriod_ceilingHits f hc sounding, limit]
    simp only [or_self]
  · rw [State.mixPeriod_feed, feedSample_of_seized seized, alert, sample]
  · rw [State.mixPeriod_feed, feedSample_of_not_seized free]

/-! ### The sources and the sum (R18 to R20) -/

/-- The gain the samples of a source are multiplied by: none while it is OFF (R19). -/
def Entry.gainOf (e : Entry) (src : Source) (envelope : Nat) : Int := if e.state = .off then 0 else e.effective src envelope

theorem ProgramBus.contribution_eq (b : ProgramBus) (f : InputFrame) (src : Source) : b.contribution f src =
    { l := (slotPair f src).l * (b.roster.get src).gainOf src b.duck.present
      r := (slotPair f src).r * (b.roster.get src).gainOf src b.duck.present } := by
  unfold ProgramBus.contribution Entry.gainOf
  dsimp only
  split
  · simp
  · rfl

theorem gainRound_natCast (n : Nat) : gainRound n = ((n + 8192) / 16384 : Nat) := by
  unfold gainRound
  rw [Int.shiftRight_eq_div_pow]
  omega

theorem monoSource_iff {src : Source} : monoSource src = true ↔ src = .ln1 ∨ src = .ln2 ∨ src = .ln3 ∨ src = .ln4 := by
  cases src <;> decide

/-- The gain of a source in figures: the duck on a DUCKED source, then the pan law on a line (R18). -/
theorem Entry.gainOf_eq (e : Entry) (src : Source) (envelope u : Nat)
    (hu : u = if e.duckClass = .ducked then (e.current * envelope + 8192) / 16384 else e.current) :
    e.gainOf src envelope = ((if e.state = .off then 0
      else if src = .ln1 ∨ src = .ln2 ∨ src = .ln3 ∨ src = .ln4 then (u * 11585 + 8192) / 16384 else u : Nat) : Int) := by
  have under : e.gainUnder envelope = u := hu.symm
  have pan : gainRound ((u : Int) * Config.panGain) = ((u * 11585 + 8192) / 16384 : Nat) := gainRound_natCast (u * 11585)
  unfold Entry.gainOf Entry.effective
  simp only [monoSource_iff, under, pan, Nat.cast_ite, Nat.cast_zero]

/-- The end of a release at the end of a mix changes no gain: its fader stands at 0. -/
theorem Entry.gainOf_releaseEnd {e : Entry} (h : e.runOut) (src : Source) (envelope : Nat) :
    e.releaseEnd.gainOf src envelope = e.gainOf src envelope := by
  unfold Entry.releaseEnd
  split
  · rename_i hr
    obtain ⟨releasing, ended⟩ := hr
    have silent : e.current = 0 := h releasing ended
    rw [Entry.gainOf_eq e src envelope 0 (by simp [silent])]
    simp [Entry.gainOf, Entry.setOff]
  · rfl

/-- The entry of a source after the roster's part of a mix: its duck class read anew and its ramp step (R4, R8). -/
theorem State.mixAudio_roster (s : State) (f : InputFrame) (src : Source) : (s.mixAudio f).bus.roster.get src =
    { s.entry src with duckClass := s.pf.working.duckClasses.get src }.step := by
  cases src <;> rfl

/-- The entry of a source after a mix: a release that has run is OFF (R6). -/
theorem State.mixPeriod_entry (s : State) (f : InputFrame) (src : Source) : (s.mixPeriod f).entry src =
    ((s.mixAudio f).bus.roster.get src).releaseEnd := by
  cases src <;> rfl

theorem State.mixPeriod_duck (s : State) (f : InputFrame) : (s.mixPeriod f).pb.duck = (s.mixAudio f).bus.duck := rfl

theorem Entry.step_duckClass (e : Entry) : e.step.duckClass = e.duckClass := by
  unfold Entry.step
  split
  · rfl
  · split <;> rfl

theorem Entry.releaseEnd_duckClass (e : Entry) : e.releaseEnd.duckClass = e.duckClass := by
  unfold Entry.releaseEnd
  split <;> rfl

theorem State.mixPeriod_duckClass (s : State) (f : InputFrame) (src : Source) :
    ((s.mixPeriod f).entry src).duckClass = s.pf.working.duckClasses.get src := by
  rw [State.mixPeriod_entry, Entry.releaseEnd_duckClass, State.mixAudio_roster, Entry.step_duckClass]

/-- The gain a mix used for a source, read from the state it leaves. -/
theorem State.settled.mixAudio_gain {s : State} (h : s.settled) (f : InputFrame) (src : Source) :
    ((s.mixAudio f).bus.roster.get src).gainOf src (s.mixAudio f).bus.duck.present =
      ((s.mixPeriod f).entry src).gainOf src (s.mixPeriod f).pb.duck.present := by
  have run : Entry.runOut { s.entry src with duckClass := s.pf.working.duckClasses.get src } := h.runOut src
  rw [State.mixPeriod_entry, State.mixPeriod_duck, Entry.gainOf_releaseEnd]
  rw [State.mixAudio_roster]
  exact run.step

/-- The accumulators, source by source (R19). -/
theorem State.mixAudio_acc {s : State} {f : InputFrame} {g : Source → Int}
    (hg : ∀ src, (s.mixAudio f).bus.contribution f src =
      { l := (slotPair f src).l * g src, r := (slotPair f src).r * g src }) : (s.mixAudio f).acc =
    { l := f.plaL.toInt * g .pla + f.plbL.toInt * g .plb + f.micL.toInt * g .mic + f.fbkL.toInt * g .fbk +
        f.line.l1.toInt * g .ln1 + f.line.l2.toInt * g .ln2 + f.line.l3.toInt * g .ln3 + f.line.l4.toInt * g .ln4
      r := f.plaR.toInt * g .pla + f.plbR.toInt * g .plb + f.micR.toInt * g .mic + f.fbkR.toInt * g .fbk +
        f.line.l1.toInt * g .ln1 + f.line.l2.toInt * g .ln2 + f.line.l3.toInt * g .ln3 + f.line.l4.toInt * g .ln4 } := by
  change (s.mixAudio f).bus.accumulate f = _
  simp only [ProgramBus.accumulate, Source.all, List.foldl_cons, List.foldl_nil, hg, slotPair, zero_add]

/-! ### The clip of P (R20, R25) -/

theorem programClips_iff (acc : Pair) : programClips acc = true ↔
    ¬ (-8388608 ≤ gainRound acc.l ∧ gainRound acc.l ≤ 8388607 ∧ -8388608 ≤ gainRound acc.r ∧ gainRound acc.r ≤ 8388607) := by
  have inRange (x : Int) : sat24 x ≠ x ↔ ¬ (-8388608 ≤ x ∧ x ≤ 8388607) := by rw [sat24_eq]; omega
  simp only [programClips, Bool.or_eq_true, decide_eq_true_eq, inRange]
  omega

theorem State.mixPeriod_clipCount (s : State) (f : InputFrame) : (s.mixPeriod f).pb.clipCount =
    if programClips (s.mixAudio f).acc then countUp s.pb.clipCount else s.pb.clipCount := by rfl

/-- A raise puts the kind in the status set of every lane (R178). -/
theorem EventUnit.raise_status (e : EventUnit) (k : EventKind) (l : LaneId) :
    (e.raise k).status.get l = e.status.get l ||| k.set := by
  cases l <;> rfl

/-- The advance of the air clock takes no kind out of a status set. -/
theorem EventUnit.advance_status (e : EventUnit) (l : LaneId) : ∃ x, e.advance.status.get l = e.status.get l ||| x := by
  unfold EventUnit.advance
  dsimp only
  split
  · exact ⟨_, EventUnit.raise_status _ _ _⟩
  · exact ⟨0#29, BitVec.or_zero.symm⟩

theorem State.mixPeriod_clip (s : State) (f : InputFrame) (h : programClips (s.mixAudio f).acc = true) (l : LaneId) :
    (s.mixPeriod f).ev.status.get l &&& EventKind.clip.set ≠ 0#29 := by
  have raised : (s.raiseIf (programClips (s.mixAudio f).acc) .clip).ev = s.ev.raise .clip := by rw [h]; rfl
  have period : (s.mixPeriod f).ev = (s.ev.raise .clip).advance := congrArg EventUnit.advance raised
  obtain ⟨x, hx⟩ := (s.ev.raise .clip).advance_status l
  rw [period, hx, EventUnit.raise_status]
  intro none
  have bit := congrArg (·.getLsbD 24) none
  revert bit
  simp [EventKind.set, EventKind.bit]

/-- Settles O10: the gains a mix used, read from the state it leaves, give the contributions, and these the sums, P and the feeds. -/
theorem mixSumsTheSources : Obligations.MixSumsTheSources := by
  unfold Obligations.MixSumsTheSources
  intro f s settled
  refine ⟨s.mixPeriod f, mix_completes_of_settled settled f, ?_⟩
  intro g accL accR x y hg hL hR hx hy
  have gains (src : Source) : (s.mixAudio f).bus.contribution f src =
      { l := (slotPair f src).l * g src, r := (slotPair f src).r * g src } := by
    rw [ProgramBus.contribution_eq, settled.mixAudio_gain,
      Entry.gainOf_eq _ _ _ _ (by rw [State.mixPeriod_duckClass]), ← hg src _ rfl]
  have acc : (s.mixAudio f).acc = { l := accL, r := accR } := by rw [State.mixAudio_acc gains, hL, hR]
  have clips := programClips_iff (s.mixAudio f).acc
  rw [acc] at clips
  replace hx : gainRound accL = x := hx.symm
  replace hy : gainRound accR = y := hy.symm
  simp only [hx, hy] at clips
  have line (n : LineId) : slotPair f n.source = { l := (f.line.get n).toInt, r := (f.line.get n).toInt } := by cases n <;> rfl
  refine ⟨?_, fun fits => ?_, fun clipped => ⟨?_, ?_⟩, fun n own hown => ⟨?_, ?_, ?_, ?_⟩⟩
  · change programOf (s.mixAudio f).acc = _
    rw [acc, programOf, hx, hy, sat24_eq, sat24_eq]
  · rw [State.mixPeriod_clipCount, acc, if_neg (by rw [clips]; exact not_not_intro fits)]
  · rw [State.mixPeriod_clipCount, acc, if_pos (clips.mpr clipped), countUp_eq]
  · exact s.mixPeriod_clip f (by rw [acc]; exact clips.mpr clipped)
  · intro seized feed
    rw [State.mixPeriod_feed, feedSample_of_seized seized, feed, acc, gains, line, sat24_eq, monoRound, hown]
  · intro seized feed
    rw [State.mixPeriod_feed, feedSample_of_seized seized, feed, acc]
    dsimp only
    rw [sat24_eq, monoRound, gainRound]
  · intro seized feed
    rw [State.mixPeriod_feed, feedSample_of_seized seized, feed]
  · intro free
    rw [State.mixPeriod_feed, feedSample_of_not_seized free]

/-! ### The ramp law (R6, R8) -/

/-- A ramp step does not pass below 0, so its value is the ramp law's. -/
theorem rampStep_eq (present aim n : Nat) :
    ((rampStep present aim n : Nat) : Int) = present + ((aim : Int) - present).tdiv n := by
  have bound := Int.natAbs_tdiv_le_natAbs ((aim : Int) - present) n
  rcases Nat.le_total present aim with up | down
  · have := Int.tdiv_nonneg (a := (aim : Int) - present) (b := n) (by omega) (by omega)
    unfold rampStep
    omega
  · unfold rampStep
    omega

theorem Entry.step_eq {e : Entry} {aim : Nat} (h : 0 < e.remaining)
    (ha : e.state = .live ∧ aim = e.target ∨ e.state = .releasing ∧ aim = 0) :
    e.step = { e with current := rampStep e.current aim e.remaining, remaining := e.remaining - 1 } := by
  unfold Entry.step
  rw [if_neg (by omega)]
  obtain ⟨hs, rfl⟩ | ⟨hs, rfl⟩ := ha
  · rw [hs]
  · rw [hs]

section
variable {e : Entry}

theorem Entry.releaseEnd_of_not (h : ¬ (e.state = .releasing ∧ e.remaining = 0)) : e.releaseEnd = e := if_neg h

theorem Entry.releaseEnd_of_ended (hs : e.state = .releasing) (hr : e.remaining = 0) : e.releaseEnd = e.setOff :=
  if_pos ⟨hs, hr⟩

theorem Entry.releaseEnd_remaining : e.releaseEnd.remaining = e.remaining := by
  unfold Entry.releaseEnd
  split
  · rename_i h; exact h.2.symm
  · rfl

theorem Entry.releaseEnd_target : e.releaseEnd.target = e.target := by
  unfold Entry.releaseEnd
  split <;> rfl

theorem Entry.releaseEnd_state :
    e.releaseEnd.state = if e.state = .releasing ∧ e.remaining = 0 then .off else e.state := by
  unfold Entry.releaseEnd
  split <;> rfl

theorem Entry.runOut.releaseEnd_current (h : e.runOut) : e.releaseEnd.current = e.current := by
  unfold Entry.releaseEnd
  split
  · rename_i hr; exact (h hr.1 hr.2).symm
  · rfl

end

theorem releaseRampEnd_completes (s : State) (src : Source) :
    completes (.releaseRampEnd src) s (s.setEntry src (s.entry src).releaseEnd) := rfl

theorem State.setEntry_self (s : State) (src : Source) : s.setEntry src (s.entry src) = s := by
  cases src <;> rfl

/-! ### The duck envelope (R14, R15) -/

theorem Source.mem_all (src : Source) : src ∈ Source.all := by cases src <;> decide

theorem Entry.ducks_iff (e : Entry) : e.ducks = true ↔ e.duckClass = .ducker ∧ e.state = .live ∧ 0 < e.target := by
  simp [Entry.ducks, and_assoc]

theorem anyDucker_iff (r : PerSource Entry) :
    anyDucker r = true ↔ ∃ src, (r.get src).duckClass = .ducker ∧ (r.get src).state = .live ∧ 0 < (r.get src).target := by
  simp [anyDucker, List.any_eq_true, Source.mem_all, Entry.ducks_iff]

/-- The DUCKER condition a mix evaluates, with the duck classes read anew (R4, R14). -/
def State.duckCondition (s : State) : Bool :=
  anyDucker (s.pb.roster.mapWith fun src e => { e with duckClass := s.pf.working.duckClasses.get src })

theorem State.duckCondition_iff (s : State) : s.duckCondition = true ↔
    ∃ src, s.pf.working.duckClasses.get src = .ducker ∧ (s.entry src).state = .live ∧ 0 < (s.entry src).target := by
  rw [State.duckCondition, anyDucker_iff]
  simp only [PerSource_get_mapWith]
  rfl

theorem State.mixPeriod_duck_eq (s : State) (f : InputFrame) : (s.mixPeriod f).pb.duck =
    (s.pb.duck.evaluate s.duckCondition s.pf.working.duckDepth (min s.pf.working.duckAttack 10000 * 48)
      (min s.pf.working.duckRelease 10000 * 48)).step := rfl

section
variable {d : Duck} {on : Bool} {depth attack release : Nat}

theorem Duck.step_eq (d : Duck) : d.step =
    { d with
      present := if d.remaining = 0 then d.present else rampStep d.present d.aim d.remaining
      remaining := d.remaining - 1 } := by
  unfold Duck.step
  split
  · rename_i h; obtain ⟨present, aim, remaining, engaged⟩ := d; simp_all
  · rfl

/-- A depth that stands changes nothing (R15). -/
theorem Duck.follow_of_stands (engaged : d.engaged = true → depth = d.aim) (free : d.engaged = false → depth ≤ d.present) :
    d.follow depth attack release = d := by
  unfold Duck.follow
  cases he : d.engaged with
  | true => simp [engaged he]
  | false => simp [free he]

theorem Duck.evaluate_of_same (h : on = (d.follow depth attack release).engaged) :
    d.evaluate on depth attack release = d.follow depth attack release := if_pos h

theorem Duck.evaluate_of_change (h : on ≠ d.engaged) (hf : d.follow depth attack release = d) :
    d.evaluate on depth attack release =
      { d.retarget (if on then depth else 16384) attack release with engaged := on } := by
  unfold Duck.evaluate
  dsimp only
  rw [hf, if_neg h]
  rfl

theorem Duck.follow_of_lower (he : d.engaged = true) (ha : depth ≠ d.aim) (hp : depth < d.present) :
    d.follow depth attack release = d.retarget depth attack release := by
  simp [Duck.follow, he, ha, hp]

theorem Duck.follow_of_higher (he : d.engaged = true) (ha : depth ≠ d.aim) (hp : d.present ≤ depth) :
    d.follow depth attack release = { d with present := depth, aim := depth, remaining := 0 } := by
  simp [Duck.follow, he, ha, Nat.not_lt.mpr hp]

theorem Duck.follow_of_free (he : d.engaged = false) (hp : d.present < depth) :
    d.follow depth attack release = { d with present := depth } := by
  simp [Duck.follow, he, hp]

end

/-- Settles O12: the ramp step and the end of a release of one entry, and the envelope by the case of its condition and its depth. -/
theorem rampsAreSteppedAndEnd : Obligations.RampsAreSteppedAndEnd := by
  unfold Obligations.RampsAreSteppedAndEnd
  refine ⟨fun f s src aim settled ramping aimed => ?_, fun s src => ⟨fun releasing ended => ?_, fun other => ?_⟩,
    fun f s d on depth attack release go settled hd hdepth hattack hrelease hon hgo => ?_⟩
  · have run : Entry.runOut { s.entry src with duckClass := s.pf.working.duckClasses.get src } := settled.runOut src
    have stepped := Entry.step_eq (e := { s.entry src with duckClass := s.pf.working.duckClasses.get src }) ramping aimed
    have run' := run.step
    have after := (s.mixPeriod_entry f src).trans (congrArg Entry.releaseEnd (s.mixAudio_roster f src))
    rw [stepped] at run' after
    refine ⟨s.mixPeriod f, mix_completes_of_settled settled f, ?_⟩
    rw [after, Entry.releaseEnd_remaining, run'.releaseEnd_current, Entry.releaseEnd_state, Entry.releaseEnd_target]
    refine ⟨rfl, rampStep_eq _ _ _, fun last => ?_, ?_, rfl⟩
    · dsimp only; rw [last, rampStep_last]
    · have last : (s.entry src).remaining - 1 = 0 ↔ (s.entry src).remaining = 1 := by omega
      simp only [last]
  · have done := releaseRampEnd_completes s src
    rw [Entry.releaseEnd_of_ended releasing ended] at done
    exact done
  · have done := releaseRampEnd_completes s src
    rw [Entry.releaseEnd_of_not other, State.setEntry_self] at done
    exact done
  · have condition : s.duckCondition = on := Bool.eq_iff_iff.mpr (s.duckCondition_iff.trans hon.symm)
    have law (present aim n : Nat) : go present aim n = if n = 0 then present else rampStep present aim n := hgo present aim n
    refine ⟨s.mixPeriod f, mix_completes_of_settled settled f, ?_⟩
    rw [State.mixPeriod_duck_eq, condition, ← hd, ← hdepth, ← hattack, ← hrelease]
    simp only [law]
    refine ⟨fun same engaged free => ?_, fun change engaged free aim n haim hn => ?_, fun hon he ha =>
      ⟨fun lower => ?_, fun higher => ?_⟩, fun hoff he free => ?_⟩
    · have stands := Duck.follow_of_stands (attack := attack) (release := release) engaged free
      rw [Duck.evaluate_of_same (by rw [stands]; exact same), stands, Duck.step_eq]
    · rw [Duck.evaluate_of_change change (Duck.follow_of_stands engaged free), Duck.step_eq, ← haim]
      simp only [Duck.retarget, ← hn]
      split <;> rfl
    · have follows := Duck.follow_of_lower (attack := attack) (release := release) he ha lower
      rw [Duck.evaluate_of_same (by rw [follows, hon]; exact he.symm), follows, Duck.step_eq]
      simp only [Duck.retarget, if_pos lower, he]
      split <;> rfl
    · have follows := Duck.follow_of_higher (attack := attack) (release := release) he ha higher
      rw [Duck.evaluate_of_same (by rw [follows, hon]; exact he.symm), follows, Duck.step_eq]
      simp [he]
    · have follows := Duck.follow_of_free (attack := attack) (release := release) he free
      rw [Duck.evaluate_of_same (by rw [follows, hoff]; exact he.symm), follows, Duck.step_eq]

end Sys2Proof.Machine
end

section
/-! SUPPORT. The fade-out point and the end of an item (R38, R39), what the review of an event does with nothing in the list and with a
LIVE head (R40), and the statement about them (O20). -/

namespace Sys2Proof.Machine

set_option Elab.async false

/-! ### Items on decks -/

section
variable {q : Sequencer} {d : DeckId}

theorem Sequencer.itemOn_head {h : Item} {tl : List Item} (list : q.list = h :: tl) (bound : (q.deck d).item = some h.id) :
    q.itemOn d = some h := by
  simp [Sequencer.itemOn, Sequencer.item, list, bound]

theorem Sequencer.itemOn_tail {i : Item} (list : q.list = []) (tail : q.tail = some i) (bound : (q.deck d).item = some i.id) :
    q.itemOn d = some i := by
  simp [Sequencer.itemOn, Sequencer.item, list, tail, bound]

/-- The deck that is PLAYING, the other being FREE. -/
theorem Sequencer.playing_of_other_free (playing : (q.deck d).state = .playing) (other : q.deck d.other = Deck.initial) :
    q.playing = some d := by
  cases d with
  | a => exact if_pos playing
  | b => rw [Sequencer.playing, if_neg (by rw [show q.deckA = Deck.initial from other]; nofun)]; exact if_pos playing

theorem Sequencer.playing_of_free (free : q.deck d = Deck.initial) (other : q.deck d.other = Deck.initial) :
    q.playing = none := by
  cases d with
  | a => simp [Sequencer.playing, show q.deckA = _ from free, show q.deckB = _ from other, Deck.initial]
  | b => simp [Sequencer.playing, show q.deckB = _ from free, show q.deckA = _ from other, Deck.initial]

theorem Deck.run_iff {k : Deck} : k.run = true ↔ k.state = .playing ∨ k.state = .tailing := by
  simp [Deck.run]

end

section
variable {s : State} {d : DeckId} {i : Item} {n : Nat} (on : s.sq.itemOn d = some i) (length : i.length = some n)
include on length

theorem State.fadeDue_iff : s.fadeDue d = true ↔
    (s.deck d).run = true ∧ (s.deck d).fadeTaken = false ∧ i.fadeOut ≠ 0 ∧ n - i.fadeOut ≤ (s.deck d).position := by
  simp [State.fadeDue, on, Item.fadeReached, length, and_assoc]

theorem State.atEnd_iff : s.atEnd d = true ↔ (s.deck d).run = true ∧ n ≤ (s.deck d).position := by
  rw [State.atEnd, on, Bool.and_eq_true]
  refine and_congr_right fun _ => ?_
  change i.endReached _ = true ↔ _
  rw [Item.endReached, length]
  exact decide_eq_true_iff

end

theorem Entry.fadeOut_of_con {e : Entry} (h : e.controller = .con) (len : Nat) : e.fadeOut len = e := by
  unfold Entry.fadeOut
  rw [h]

theorem Entry.fadeOut_of_live {e : Entry} (hc : e.controller = .aut) (hs : e.state = .live) {len : Nat} (hl : len ≠ 0) :
    e.fadeOut len = { e with target := 0, remaining := len, faded := true } := by
  unfold Entry.fadeOut
  rw [hc, hs]
  simp [Entry.rampLive, hl]

/-! ### What ends with an item (R39, R48) -/

/-- The state of an item's end, before it leaves the tail slot or the list: its record, its deck FREE and its entry OFF and unbound. -/
def State.ended (s : State) (d : DeckId) (i : Item) : State :=
  { s.setEntry d.source { s.entry d.source with state := .off, current := 0, remaining := 0, bound := none } with
    sq := { (s.setDeck d Deck.initial).sq with
      done := (if s.sq.done.length < 8 then s.sq.done else s.sq.done.drop 1) ++
        [{ item := i.id, start := (s.deck d).startedAt, aired := (s.deck d).position
           outcome := if i.skipped then .skipped else .complete }]
      doneOverflow := if s.sq.done.length < 8 then s.sq.doneOverflow else countUp s.sq.doneOverflow }
    ev := s.ev.raise .itemDone }

theorem State.addDone_eq (s : State) (r : DoneRecord) : s.addDone r =
    { s with
      sq := { s.sq with
        done := (if s.sq.done.length < 8 then s.sq.done else s.sq.done.drop 1) ++ [r]
        doneOverflow := if s.sq.done.length < 8 then s.sq.doneOverflow else countUp s.sq.doneOverflow }
      ev := s.ev.raise .itemDone } := by
  unfold State.addDone
  rw [show Config.doneMax = 8 from rfl]
  by_cases room : s.sq.done.length < 8
  · simp only [if_pos room]; rfl
  · simp only [if_neg room]; rfl

section
variable {s : State} {d : DeckId} {i : Item} (on : s.sq.itemOn d = some i)
include on

theorem State.endItem_eq : s.endItem d =
    if s.sq.tail.map (·.id) = some i.id then (s.ended d i).setSq { (s.ended d i).sq with tail := none }
    else (s.ended d i).dropHead := by
  have done : ((s.addDone
      { item := i.id
        start := (s.deck d).startedAt
        aired := (s.deck d).position
        outcome := if i.skipped then .skipped else .complete }).freeDeck d).updEntry d.source Entry.setOff = s.ended d i := by
    rw [State.addDone_eq]
    cases d <;> rfl
  have tail : (s.ended d i).sq.tail = s.sq.tail := by cases d <;> rfl
  unfold State.endItem
  rw [on]
  dsimp only
  rw [done, tail]

theorem State.endItem_of_tail (tail : s.sq.tail = some i) :
    s.endItem d = (s.ended d i).setSq { (s.ended d i).sq with tail := none } := by
  rw [State.endItem_eq on, tail]
  exact if_pos rfl

theorem State.endItem_of_head (tail : s.sq.tail = none) : s.endItem d = (s.ended d i).dropHead := by
  rw [State.endItem_eq on, tail]
  exact if_neg nofun

end

/-! ### The review of an event (R33, R35, R40, R47) -/

section
variable {s : State}

theorem State.takeStart_of_no_item (h : s.itemToStart = none) (late : Bool) : s.takeStart late = s := by
  unfold State.takeStart
  split
  · rw [h]
  · rfl

theorem State.takeStart_of_not_running (h : s.sq.state ≠ .running) (late : Bool) : s.takeStart late = s :=
  if_neg (by simp [State.startDue, h])

theorem State.markSegue_of_not (h : s.headAtSegue = false) : s.markSegue = s := by
  have none : s.sq.markSegue = s.sq := if_neg (by simp [show s.sq.headAtSegue = false from h])
  rw [State.markSegue, none]
  rfl

theorem State.cue_of_no_candidate (h : s.sq.cueCandidate = none) : s.cue = s := by
  have once : s.cueOnce = s := by
    unfold State.cueOnce
    rw [h]
    split
    · contradiction
    · rfl
  rw [State.cue, once, once]

/-- With an empty list a review finds nothing to do. -/
theorem State.review_of_empty (h : s.sq.list = []) (late : Bool) : s.review late = s := by
  have unmarked : s.markSegue = s := State.markSegue_of_not (by
    unfold State.headAtSegue Sequencer.headAtSegue
    rw [h]
    split
    · rename_i list; cases list
    · rfl)
  have idle (late : Bool) : s.takeStart late = s := State.takeStart_of_no_item (by simp [State.itemToStart, h]) late
  rw [State.review, unmarked, idle, idle, idle, State.cue_of_no_candidate (by simp [Sequencer.cueCandidate, h])]

/-- A review with nothing PLAYING and a LIVE item alone in the list of a RUNNING sequencer halts it (R40). -/
theorem State.review_of_live {i : Item} (running : s.sq.state = .running) (list : s.sq.list = [i]) (live : i.kind = .live)
    (idle : s.sq.playing = none) (late : Bool) : s.review late = s.halt := by
  have unmarked : s.markSegue = s := State.markSegue_of_not (by
    unfold State.headAtSegue Sequencer.headAtSegue
    rw [idle])
  have halts : s.takeStart late = s.halt := by
    unfold State.takeStart
    rw [if_pos (by simp [State.startDue, running, idle])]
    simp [State.itemToStart, idle, list, live]
  have halted (late : Bool) : s.halt.takeStart late = s.halt :=
    State.takeStart_of_not_running (show SeqState.halted ≠ .running from nofun) late
  have uncued : s.halt.sq.cueCandidate = none := by
    change s.sq.cueCandidate = none
    simp [Sequencer.cueCandidate, list, Sequencer.cueable, live]
  rw [State.review, unmarked, halts, halted, halted, State.cue_of_no_candidate uncued]

/-- With no pending alert a break opportunity only ceases to be signalled (R118). -/
theorem State.takeBreak_of_none {b : Bool} (h : s.al.table = []) (hb : b = false) :
    s.takeBreak = s.setSq { s.sq with breakSignal := b } := by
  rw [State.takeBreak_of_empty h, hb]

end

/-! ### The head at its end (R37) -/

/-- The start behind a head at its end waits for that end: there is no item, or a LIVE one (R37, R40). -/
theorem State.takeStart_at_end {s : State} {d : DeckId} (alone : s.sq.playing = some d) (tail : s.sq.tail = none) (atEnd : s.atEnd d = true)
    (next : ∀ i, s.sq.list[1]? = some i → i.kind = .live) (late : Bool) : s.takeStart late = s := by
  cases hi : s.itemToStart with
  | none => exact State.takeStart_of_no_item hi late
  | some i =>
    have live : i.kind = .live := next i (by simpa [State.itemToStart, alone] using hi)
    unfold State.takeStart
    split
    · simp [hi, live, alone, tail, atEnd]
    · rfl

/-- The segue point of a PLAYING head is taken; a break opportunity is signalled where it was not yet. -/
def State.pointTaken (s : State) : State :=
  s.setSq { s.sq with segueTaken := true, breakSignal := s.sq.breakSignal || !s.sq.segueTaken }

theorem State.takeHeadPoint_eq (s : State) (d : DeckId) : s.takeHeadPoint d =
    (if (s.pointTaken.takeStart false).atEnd d then (s.pointTaken.takeStart false).endItem d
      else s.pointTaken.takeStart false).review false := by
  have taken : (if s.sq.segueTaken then s else s.setSq { s.sq with segueTaken := true, breakSignal := true }) = s.pointTaken := by
    unfold State.pointTaken
    cases h : s.sq.segueTaken with
    | true => rw [Bool.not_true, Bool.or_false, if_pos rfl, ← h]; rfl
    | false => rw [Bool.not_false, Bool.or_true]; rfl
  unfold State.takeHeadPoint
  rw [taken]

/-! ### The statement -/

theorem fadeOutPoint_completes (d : DeckId) (s : State) : completes (.fadeOutPoint d) s (s.fadeOutPoint d) := rfl

theorem itemEnd_completes (d : DeckId) (s : State) : completes (.itemEnd d) s (s.itemEnd d).takeBreak := rfl

theorem fadeOutPoint_of_not_due {s : State} {d : DeckId} (h : s.fadeDue d = false) : s.fadeOutPoint d = s :=
  if_neg (by simp [h])

theorem fadeOutPoint_of_due {s : State} {d : DeckId} {i : Item} (h : s.fadeDue d = true) (on : s.sq.itemOn d = some i) :
    s.fadeOutPoint d =
      (s.setDeck d { s.deck d with fadeTaken := true }).setEntry d.source ((s.entry d.source).fadeOut i.fadeOut) := by
  unfold State.fadeOutPoint
  rw [if_pos h, on]
  rfl

section
variable {s : State} {d : DeckId}

theorem State.itemEnd_of_not_atEnd (h : s.atEnd d = false) : s.itemEnd d = s := if_neg (by simp [h])

theorem State.itemEnd_of_tailing (h : s.atEnd d = true) (tailing : (s.deck d).state = .tailing) :
    s.itemEnd d = (s.endItem d).review false := by
  unfold State.itemEnd
  rw [if_pos h, if_neg (by rw [tailing]; nofun)]

theorem State.itemEnd_of_playing (h : s.atEnd d = true) (playing : (s.deck d).state = .playing) :
    s.itemEnd d = s.takeHeadPoint d := by
  unfold State.itemEnd
  rw [if_pos h, if_pos playing]

theorem State.ended_list (s : State) (d : DeckId) (i : Item) : (s.ended d i).sq.list = s.sq.list := by cases d <;> rfl

/-- What the end of a PLAYING head leaves before the review. -/
def State.headEnded (s : State) (d : DeckId) (h : Item) : State := (s.pointTaken.ended d h).dropHead

theorem State.headEnded_list (s : State) (d : DeckId) (h : Item) : (s.headEnded d h).sq.list = s.sq.list.drop 1 := by
  cases d <;> rfl

theorem State.headEnded_state (s : State) (d : DeckId) (h : Item) : (s.headEnded d h).sq.state = s.sq.state := by
  cases d <;> rfl

theorem State.headEnded_playing {h : Item} (other : s.deck d.other = Deck.initial) : (s.headEnded d h).sq.playing = none :=
  Sequencer.playing_of_free (d := d) (by cases d <;> rfl) (by cases d <;> exact other)

end

/-- A head at its end with nothing behind it, or with a LIVE item alone: its record and its deck, then the review of what is left. -/
theorem State.takeHeadPoint_of_end {s : State} {d : DeckId} {h : Item} (alone : s.sq.playing = some d)
    (on : s.sq.itemOn d = some h) (tail : s.sq.tail = none) (atEnd : s.atEnd d = true)
    (next : ∀ i, s.sq.list[1]? = some i → i.kind = .live) :
    s.takeHeadPoint d = (s.headEnded d h).review false := by
  have waits : s.pointTaken.takeStart false = s.pointTaken := State.takeStart_at_end (s := s.pointTaken) alone tail atEnd next false
  rw [State.takeHeadPoint_eq, waits, if_pos (show s.pointTaken.atEnd d = true from atEnd),
    State.endItem_of_head (s := s.pointTaken) on tail, State.headEnded]

/-- Settles O20: the fade-out point by whether it is due; the end of the tail, with a review of an empty list; and the end of the head,
with a review of an empty list or of a LIVE item alone. -/
theorem fadeOutPointsAndItemEnds : Obligations.FadeOutPointsAndItemEnds := by
  unfold Obligations.FadeOutPointsAndItemEnds
  refine ⟨fun s d i n on length => ⟨fun undue => ?_, fun fades reached untaken runs => ⟨fun con => ?_, fun aut live => ?_⟩⟩,
    fun s d i n ⟨table, signal⟩ list tail tailing bound length => ⟨fun before => ?_, fun reached => ?_⟩,
    fun s d h tl n q ⟨table, signal⟩ running list tail playing bound other length reached unique hq =>
      ⟨fun last => ?_, fun i next live => ?_⟩⟩
  · have idle : s.fadeDue d = false := by
      rw [Bool.eq_false_iff, Ne, State.fadeDue_iff on length]
      rintro ⟨hrun, htaken, hfade, hpos⟩
      obtain h | h | h | h := undue
      · cases h.symm.trans htaken
      · exact hfade h
      · omega
      · cases h.symm.trans hrun
    have done := fadeOutPoint_completes d s
    rw [fadeOutPoint_of_not_due idle] at done
    exact done
  · have due := (State.fadeDue_iff on length).mpr ⟨Deck.run_iff.mpr runs, untaken, fades, reached⟩
    have done := fadeOutPoint_completes d s
    rw [fadeOutPoint_of_due due on, Entry.fadeOut_of_con con] at done
    exact done.trans (congrArg _ (State.setEntry_self (s.setDeck d { s.deck d with fadeTaken := true }) d.source))
  · have due := (State.fadeDue_iff on length).mpr ⟨Deck.run_iff.mpr runs, untaken, fades, reached⟩
    have done := fadeOutPoint_completes d s
    rw [fadeOutPoint_of_due due on, Entry.fadeOut_of_live aut live fades] at done
    exact done
  · have on := Sequencer.itemOn_tail list tail bound
    have idle : s.atEnd d = false := by
      rw [Bool.eq_false_iff, Ne, State.atEnd_iff on length]
      omega
    have done := itemEnd_completes d s
    rw [State.itemEnd_of_not_atEnd idle, State.takeBreak_of_none table rfl, ← signal] at done
    exact done
  · have on := Sequencer.itemOn_tail list tail bound
    have atEnd := (State.atEnd_iff on length).mpr ⟨Deck.run_iff.mpr (.inr tailing), reached⟩
    have done := itemEnd_completes d s
    rw [State.itemEnd_of_tailing atEnd tailing, State.endItem_of_tail on tail,
      State.review_of_empty (s := (s.ended d i).setSq { (s.ended d i).sq with tail := none }) ((s.ended_list d i).trans list),
      State.takeBreak_of_none (s := (s.ended d i).setSq { (s.ended d i).sq with tail := none }) table signal] at done
    refine done.trans ?_
    cases d <;> rfl
  · have rest : tl = s.sq.list.drop 1 := by rw [list]; rfl
    have on := Sequencer.itemOn_head list bound
    have atEnd := (State.atEnd_iff on length).mpr ⟨Deck.run_iff.mpr (.inl playing), reached⟩
    have done := itemEnd_completes d s
    rw [State.itemEnd_of_playing atEnd playing,
      State.takeHeadPoint_of_end (Sequencer.playing_of_other_free playing other) on tail atEnd (by simp [list, last]),
      State.review_of_empty (by rw [State.headEnded_list, ← rest, last]),
      State.takeBreak_of_none (s := s.headEnded d h) table signal] at done
    rw [hq, rest]
    refine done.trans ?_
    cases d <;> rfl
  · have rest : tl = s.sq.list.drop 1 := by rw [list]; rfl
    have on := Sequencer.itemOn_head list bound
    have atEnd := (State.atEnd_iff on length).mpr ⟨Deck.run_iff.mpr (.inl playing), reached⟩
    have done := itemEnd_completes d s
    rw [State.itemEnd_of_playing atEnd playing,
      State.takeHeadPoint_of_end (Sequencer.playing_of_other_free playing other) on tail atEnd (by simp [list, next, live]),
      State.review_of_live ((s.headEnded_state d h).trans running) (by rw [State.headEnded_list, ← rest, next]) live
        (State.headEnded_playing other),
      State.takeBreak_of_none (s := (s.headEnded d h).halt) table signal] at done
    rw [hq, rest]
    refine done.trans ?_
    cases d <;> rfl

end Sys2Proof.Machine
end

section
/-! SUPPORT. The statement about ASSEMBLER_TAKE (O45) fails at a corner of the states it ranges over: a fourth character above 5
that is also the last request code kept of its unit. R156 makes such a message stray, as the statement's own clause before says, while its clause for
an accepted message, which has no bound on the code, has it accepted. -/

namespace Sys2Proof.Machine

set_option Elab.async false

/-- The fourth character of a message, with a data byte above every request code (R156). -/
def codeAboveFive : SiteChar := { marker := false, data := 6#8 }

/-- A unit whose last request code is that byte. -/
def unitWithCodeAboveFive : SiteUnit := { State.reset.tl.units.get .u0 with lastCode := 6#8 }

/-- Its message, with three characters received, in its open reply window. -/
def messageAboveFive : State :=
  { State.reset with
    tl := { State.reset.tl with
      fifo := [codeAboveFive]
      assembler := some { unit := .u0, chars := [0#8, 0#8, 0#8], bad := false }
      window := some { unit := .u0, left := 1 }
      units := State.reset.tl.units.set .u0 unitWithCodeAboveFive } }

/-- What the statement's clause for an accepted message says is left. -/
def acceptedAboveFive : State :=
  { messageAboveFive with
    tl := { messageAboveFive.tl with
      fifo := [], took := true, assembler := none, window := none, reflectSeen := false
      units := messageAboveFive.tl.units.set .u0
        { unitWithCodeAboveFive with
          presence := .present, misses := 0, lastCode := 6#8
          last := some { flags := 0#8, forward := 0#8, reflected := 0#8, request := 6#8 } } } }

/-- The model discards the message as stray, and the window stays open (R156). -/
theorem messageAboveFive_stray : messageAboveFive.assemblerTake =
    { messageAboveFive with
      tl := { messageAboveFive.tl with fifo := [], took := true, assembler := none, stray := 1 } } := rfl

theorem acceptedAboveFive_not_mainDown : ¬ acceptedAboveFive.tl.mainDown := by
  rw [← Link.mainFailed_iff]
  decide

/-- Refutes O45: the clause for an accepted message, at `messageAboveFive`, closes the window of a message that the model discards. -/
theorem not_assemblerTakesOneCharacter : ¬ Obligations.AssemblerTakesOneCharacter := by
  unfold Obligations.AssemblerTakesOneCharacter
  intro h
  obtain ⟨-, characters⟩ := h messageAboveFive
  obtain ⟨-, -, -, completed⟩ := characters codeAboveFive [] rfl rfl
  obtain ⟨-, accepted⟩ := completed .u0 0#8 0#8 0#8 false rfl rfl
  obtain ⟨unchanged, -⟩ := accepted { unit := .u0, left := 1 } unitWithCodeAboveFive false false acceptedAboveFive rfl rfl rfl
    Nat.one_pos rfl (by simp) (by decide) rfl
  obtain ⟨sameCode, -⟩ := unchanged fun down => absurd down acceptedAboveFive_not_mainDown
  have closes : completes .assemblerTake messageAboveFive acceptedAboveFive := sameCode (.inr rfl)
  have left : messageAboveFive.assemblerTake = acceptedAboveFive := Host.Outcome.next.inj closes
  rw [messageAboveFive_stray] at left
  have window := congrArg (·.tl.window) left
  exact nomatch window

end Sys2Proof.Machine
end

section
/-! SUPPORT. What every step keeps of the air sequencer, the preemption stack and the bounded collections of the alert unit and the link,
shown once for every law that the operations on them keep. -/

namespace Sys2Proof.Machine

set_option Elab.async false

/-! ### What no operation on the sequencer or the stack is -/

/-- The pending table and the alert log are within their places (R112, R128). -/
def AlertUnit.fits (a : AlertUnit) : Prop := a.table.length ≤ 8 ∧ a.log.length ≤ 32

/-- The site send queue and the return FIFO are within their places (R150, R154). -/
def Link.fits (l : Link) : Prop := l.sendQueue.length ≤ 16 ∧ l.fifo.length ≤ 4

/-- A change that leaves the sequencer and what the records saved of it, and keeps the collections of the alert unit and of the link
within their places. -/
structure State.Frames (s t : State) : Prop where
  sq : t.sq = s.sq := by rfl
  ps : t.ps.records.map (·.seqState) = s.ps.records.map (·.seqState) := by rfl
  al : s.al.fits → t.al.fits := by exact fun h => h
  tl : s.tl.fits → t.tl.fits := by exact fun h => h

theorem State.Frames.trans {s t u : State} (h : s.Frames t) (k : t.Frames u) : s.Frames u :=
  ⟨k.sq.trans h.sq, k.ps.trans h.ps, k.al ∘ h.al, k.tl ∘ h.tl⟩

theorem State.Frames.refl (s : State) : s.Frames s := {}

/-! Alert unit -/

section
variable {a : AlertUnit}

theorem AlertUnit.fits.table (h : a.fits) {ps : List PendingAlert} (le : ps.length ≤ a.table.length) :
    ({ a with table := ps } : AlertUnit).fits := ⟨le.trans h.1, h.2⟩

theorem AlertUnit.fits.write (h : a.fits) (id : Nat) (cls : AlertClass) (originator : Nat) (out : LogOutcome) (arrival : Clock)
    (airing : Option Airing) : (a.write id cls originator out arrival airing).fits := by
  refine ⟨h.1, ?_⟩
  simp only [AlertUnit.write, List.length_cons, List.length_take, Config.logMax]
  omega

theorem AlertUnit.fits.writePending (h : a.fits) (p : PendingAlert) (out : LogOutcome) : (a.writePending p out).fits :=
  h.write ..

theorem AlertUnit.fits.writeAll (h : a.fits) (out : LogOutcome) (ps : List PendingAlert) :
    (ps.foldl (fun acc p => acc.writePending p out) a).fits := by
  induction ps generalizing a with
  | nil => exact h
  | cons p ps ih => exact ih (h.writePending p out)

theorem AlertUnit.fits.sweep (h : a.fits) (alertWake : Bool) : (a.sweep alertWake).fits :=
  AlertUnit.fits.writeAll (h.table (List.length_filter_le _ _)) .notAired _

theorem placePending_length (p : PendingAlert) (ps : List PendingAlert) : (placePending p ps).length = ps.length + 1 := by
  induction ps with
  | nil => rfl
  | cons q ps ih =>
    unfold placePending
    split
    · rfl
    · simp [ih]

theorem AlertUnit.fits.place (h : a.fits) {ps : List PendingAlert} (lt : ps.length < 8) (p : PendingAlert) :
    ({ a with table := placePending p ps } : AlertUnit).fits := ⟨by rw [placePending_length]; exact lt, h.2⟩

theorem AlertUnit.fits.globalReset (h : a.fits) (now : Clock) : (a.globalReset now).fits := by
  have aired : (match a.onAir with | some o => a.writeOnAir o .aborted now | none => a).fits := by
    split
    · exact h.write ..
    · exact h
  exact ⟨Nat.zero_le _, (aired.writeAll .aborted a.table).2⟩

end

/-! Link -/

section
variable {l : Link}

theorem Link.fits.append (h : l.fits) (room : l.hasRoom = true) (c : SiteCommand) : (l.append c).fits := by
  have hr : l.sendQueue.length + 2 ≤ 16 := by simpa [Link.hasRoom, Config.sendMax] using room
  exact ⟨by simpa [Link.append, SiteCommand.chars] using hr, h.2⟩

theorem Link.fits.commandRole (h : l.fits) (r : Role) (op : SiteOp) : (l.commandRole r op).fits := by
  unfold Link.commandRole Link.command
  split
  · split
    · exact h
    · split
      · rename_i room; exact h.append room _
      · exact h
  · exact h

theorem Link.fits.drainHolder (h : l.fits) : l.drainHolder.fits := by
  unfold Link.drainHolder
  split
  · split
    · rename_i room; exact h.append room _
    · exact h
  · exact h

theorem Link.fits.changeover (h : l.fits) : l.changeover.fits :=
  ((h.commandRole .mainTx .carrierOff).commandRole .standbyTx .carrierOn).commandRole .siteControl .goStandby

theorem Link.fits.poll (h : l.fits) (periodMs : Nat) : (l.poll periodMs).fits := by
  unfold Link.poll
  dsimp only
  split
  · split
    · rename_i room
      exact Link.fits.append (l := { l with pollTimer := periodMs * Config.perMs }) h (Bool.and_eq_true_iff.mp room).1 _
    · exact h
  · exact h

theorem Link.fits.leaves (h : l.fits) (c : SiteChar) : (l.leaves c).fits := by
  unfold Link.leaves
  split
  · exact h
  · split
    · exact h
    · exact h

theorem Link.fits.offer (h : l.fits) (c : SiteChar) : (l.offer c).fits := by
  unfold Link.offer
  split
  · rename_i room
    exact ⟨h.1, by simpa [Config.fifoMax] using room⟩
  · exact h

theorem Link.fits.assemble (h : l.fits) (c : SiteChar) : (l.assemble c).1.fits := by
  unfold Link.assemble
  split
  · split
    · exact h
    · exact h
    · exact h
  · split
    · exact h
    · dsimp only
      split
      · exact h
      · exact h

theorem Link.fits.returnToMain (h : l.fits) (was : Transmitter) : (l.returnToMain was).fits := by
  unfold Link.returnToMain
  split
  · exact (h.commandRole _ _).commandRole _ _
  · exact h

theorem Link.fits.moveCarrier (h : l.fits) (left named : Transmitter) (up : Bool) : (l.moveCarrier left named up).fits := by
  unfold Link.moveCarrier
  split
  · exact (h.commandRole _ _).commandRole _ _
  · exact h

end

/-! Operations of the state -/

section
variable (s : State)

theorem State.frames_raise (k : EventKind) : s.Frames (s.raise k) := {}

theorem State.frames_raiseIf (c : Bool) (k : EventKind) : s.Frames (s.raiseIf c k) := by
  cases c
  · exact .refl s
  · exact s.frames_raise k

theorem State.frames_updEntry (src : Source) (f : Entry → Entry) : s.Frames (s.updEntry src f) := {}

theorem State.frames_setTl {l : Link} (h : s.tl.fits → l.fits) : s.Frames (s.setTl l) := { tl := h }

theorem State.frames_setAl {a : AlertUnit} (h : s.al.fits → a.fits) : s.Frames (s.setAl a) := { al := h }

/-- Both branches of a choice. -/
theorem State.Frames.ite {s t u : State} {c : Prop} [Decidable c] (ht : s.Frames t) (hu : s.Frames u) :
    s.Frames (if c then t else u) := by
  split
  · exact ht
  · exact hu

theorem State.frames_carrier (op : SiteOp) : s.Frames (s.carrier op) := s.frames_setTl (·.commandRole _ op)

theorem State.frames_lookChangeover : s.Frames s.lookChangeover :=
  .ite ((s.frames_setTl (·.changeover)).trans (State.frames_raise _ _)) (.refl s)

theorem State.frames_announceAir (old : AirState) : s.Frames (s.announceAir old) := by
  unfold State.announceAir
  refine .trans ?_ (State.frames_lookChangeover _)
  split
  · exact (s.frames_raise .airState).trans (State.frames_carrier _ _)
  · exact s.frames_raise .airState

theorem State.frames_sweep : s.Frames s.sweep := s.frames_setAl (·.sweep _)

theorem State.frames_endWake : s.Frames s.endWake := by
  unfold State.endWake
  split
  · split
    · exact .trans {} (State.frames_announceAir _ .alertWake)
    · exact .trans (.trans {} (State.frames_announceAir (s.setAir .offAir) .alertWake)) (State.frames_sweep _)
  · exact .refl s

theorem State.frames_wake : s.Frames s.wake := .ite (.trans {} (State.frames_announceAir _ .offAir)) (.refl s)

theorem State.frames_leaveQueue (n : LineId) : s.Frames (s.leaveQueue n) := .ite {} (.refl s)

theorem State.frames_leaveOffers (n : LineId) : s.Frames (s.leaveOffers n) :=
  { ps := by simp only [State.leaveOffers_ps, List.map_map]; rfl }

theorem State.frames_dropLine (n : LineId) : s.Frames (s.dropLine n) := by
  have dropped : s.Frames (((s.leaveQueue n).leaveOffers n).enterLine n .idle) :=
    ((s.frames_leaveQueue n).trans (State.frames_leaveOffers _ n)).trans {}
  exact .ite (dropped.trans {}) dropped

theorem State.frames_ringArmed (n : LineId) : s.Frames (s.ringArmed n) := .ite {} (.refl s)

theorem State.frames_ringBurst (n : LineId) : s.Frames (s.ringBurst n) := by
  unfold State.ringBurst
  dsimp only
  split
  · split
    · exact {}
    · exact {}
    · exact {}
  · exact .refl s

theorem State.frames_ringExpiry (n : LineId) : s.Frames (s.ringExpiry n) := by
  unfold State.ringExpiry
  split
  · exact .ite {} (.refl s)
  · exact .refl s

theorem State.frames_loopLoss (n : LineId) : s.Frames (s.loopLoss n) := .ite ((s.frames_dropLine n).trans {}) (.refl s)

theorem State.frames_holdLong (n : LineId) : s.Frames (s.holdLong n) := .ite {} (.refl s)

theorem State.frames_settleLine (n : LineId) : s.Frames (s.settleLine n) :=
  ((((s.frames_ringBurst n).trans (State.frames_ringArmed _ n)).trans (State.frames_ringExpiry _ n)).trans
    (State.frames_loopLoss _ n)).trans (State.frames_holdLong _ n)

/-- A fold of operations that are frames is one. -/
theorem State.frames_foldl {α : Type} {f : State → α → State} (hf : ∀ t a, State.Frames t (f t a)) (xs : List α) :
    s.Frames (xs.foldl f s) :=
  foldl_preserves (I := s.Frames) (fun t a h => h.trans (hf t a)) xs (.refl s)

theorem State.frames_settleLines : s.Frames s.settleLines := s.frames_foldl State.frames_settleLine _

theorem State.frames_attentionEnd : s.Frames s.attentionEnd := by
  unfold State.attentionEnd
  split
  · exact .ite {} (.refl s)
  · exact .refl s

theorem State.frames_messageTruncated : s.Frames s.messageTruncated := by
  unfold State.messageTruncated
  split
  · exact .ite {} (.refl s)
  · exact .refl s

theorem State.frames_replyWindowClose : s.Frames s.replyWindowClose := by
  unfold State.replyWindowClose
  split
  · exact .ite (.ite (.trans {} (State.frames_lookChangeover _)) {}) (.refl s)
  · exact .refl s

theorem State.frames_pollTimerExpiry : s.Frames s.pollTimerExpiry := .ite (s.frames_setTl (·.poll _)) (.refl s)

theorem State.frames_frameBoundary : s.Frames s.frameBoundary := by
  refine .ite (s.frames_setTl fun h => ?_) (.refl s)
  have sent : ∀ (ps : List Pair) (bs : List Byte) (n : Nat),
      ({ s.tl with pairs := ps, frame := bs, frameNumber := n, sendQueue := s.tl.sendQueue.drop 1 } : Link).fits :=
    fun _ _ _ => ⟨(List.length_drop ..).trans_le ((Nat.sub_le ..).trans h.1), h.2⟩
  split
  · exact ((sent ..).leaves _).drainHolder
  · exact (sent ..).drainHolder

theorem State.frames_returnCharacter (w : Waveform) : s.Frames (s.returnCharacter w) := by
  refine .ite (.refl s) ?_
  unfold State.receive
  dsimp only
  split
  · exact s.frames_setTl fun h => Link.fits.offer (l := { s.tl with receiver := (s.tl.receiver.take w _ _).1 }) h _
  · exact {}
  · exact {}
  · exact {}

theorem State.frames_checkReflect (u : UnitId) (st : UnitStatus) : s.Frames (s.checkReflect u st) :=
  .ite (.ite (.ite {} (.refl s)) {}) (.refl s)

theorem State.frames_heard (l : LaneId) (bytes : List Byte) : s.Frames (s.heard l bytes) := .ite {} (.ite {} (.refl s))

theorem State.frames_transactionStart (l : LaneId) : s.Frames (s.transactionStart l) := .ite {} (.ite {} (.refl s))

theorem State.frames_laneTimeout (l : LaneId) : s.Frames (s.laneTimeout l) := .ite {} (.refl s)

theorem State.frames_profileWriteComplete : s.Frames s.profileWriteComplete := by
  unfold State.profileWriteComplete
  split
  · exact .ite {} (.refl s)
  · exact .refl s

theorem State.frames_profileLoadComplete : s.Frames s.profileLoadComplete := by
  unfold State.profileLoadComplete
  split
  · have loaded := (State.Frames.trans (s := s) (t := s.setPf { s.pf with working := s.pf.loaded, load := none }) {}
      (State.frames_raiseIf _ (!s.pf.valid) .profileDefaulted))
    exact loaded.trans {}
  · exact .refl s

end

end Sys2Proof.Machine
end

section
/-! SUPPORT. The step of a law of the sequencer and the stack, from the operations on them. -/

namespace Sys2Proof.Machine

set_option Elab.async false

/-! ### Laws that every step keeps -/

/-- A law of the sequencer, the stack and the bounded collections: what holds between steps, and what is left of it within a step, until
its break opportunity is given or lost (R47). Each field says that one operation on the sequencer or the stack keeps it. -/
structure StepLaw where
  holds : State → Prop
  within : State → Prop
  relax : ∀ {s}, holds s → within s
  frame : ∀ {s t}, holds s → s.Frames t → holds t
  frameWithin : ∀ {s t}, within s → s.Frames t → within t
  settleBreak : ∀ {s}, within s → holds (s.setSq { s.sq with breakSignal := false })
  initial : ∀ {s t}, holds s → t.sq = .initial → t.ps = .initial → (s.al.fits → t.al.fits) → (s.tl.fits → t.tl.fits) → holds t
  tick : ∀ {s}, holds s → holds (s.setSq s.sq.tick)
  pushAlert : ∀ {s}, holds s → holds (s.push .alert)
  push : ∀ {s}, within s → ∀ c, within (s.push c)
  pop : ∀ {s}, holds s → ∀ taker k, within (s.pop taker k)
  stop : ∀ {s}, holds s → within (s.setSq s.sq.stop)
  fadeOutPoint : ∀ {s}, holds s → ∀ d, holds (s.fadeOutPoint d)
  seguePoint : ∀ {s}, holds s → within s.seguePoint
  itemEnd : ∀ {s}, holds s → ∀ d, within (s.itemEnd d)
  append : ∀ {s}, holds s → ∀ {b i}, s.itemChecks b = .ok i →
    within ((s.setSq { s.sq with list := s.sq.list ++ [i] }).review false)
  insert : ∀ {s}, holds s → ∀ {b i}, s.itemChecks b = .ok i → ∀ id,
    within (((s.setSq { s.sq with list := insertAfter id i s.sq.list }).recue (s.releasedDeck id) i).review false)
  remove : ∀ {s}, holds s → ∀ {id}, s.sq.list.any (·.id = id) = true → s.sq.list.head?.map (·.id) ≠ some id →
    within ((s.removeItem id).review false)
  ready : ∀ {s}, holds s → ∀ {d}, (s.deck d).state = .cueing → within ((s.setDeck d { s.deck d with state := .ready }).review true)
  start : ∀ {s}, holds s → s.ps.records = [] → within s.startSequence
  skipPlaying : ∀ {s}, holds s → s.sq.state = .running → ∀ {d x rest}, s.sq.list = x :: rest → s.sq.playing = some d →
    within (s.skipPlaying d x rest)
  skipWaiting : ∀ {s}, holds s → s.sq.state = .running → ∀ {x rest}, s.sq.list = x :: rest → s.sq.playing = none →
    within (s.skipWaiting x)
  proceed : ∀ {s}, holds s → s.sq.state = .halted → within s.continueSequence
  readDone : ∀ {s}, holds s → ∀ {r rest}, s.sq.done = r :: rest → holds (s.setSq { s.sq with done := rest })

/-! Taking the air -/

/-- An alert that takes the air is a push of an ALERT between changes that reach neither sequencer nor stack (R120). -/
theorem State.takeAir_frames {s : State} {p : PendingAlert} {rest : List PendingAlert} (table : s.al.table = p :: rest) :
    ∃ u, s.Frames u ∧ (u.push .alert).Frames (s.takeAir p rest) := by
  refine ⟨(s.wake.setAl { s.wake.al with table := rest }).beginAttention p, s.frames_wake.trans { al := fun h => ?_ }, {}⟩
  have al : s.wake.al = s.al := by
    unfold State.wake
    split
    · unfold State.announceAir State.lookChangeover State.carrier
      dsimp only
      (repeat' split) <;> rfl
    · rfl
  refine ⟨(?_ : rest.length ≤ 8), h.2⟩
  have le := h.1
  rw [al, table, List.length_cons] at le
  omega

section
variable {I : State → Prop} (frame : ∀ {s t : State}, I s → s.Frames t → I t) (push : ∀ {s : State}, I s → I (s.push .alert))
include frame push

theorem State.takeAir_keeps {s : State} (h : I s) {p : PendingAlert} {rest : List PendingAlert} (table : s.al.table = p :: rest) :
    I (s.takeAir p rest) := by
  obtain ⟨u, before, after⟩ := State.takeAir_frames table
  exact frame (push (frame h before)) after

theorem State.checkAlerts_keeps {s : State} (h : I s) : I s.checkAlerts := by
  unfold State.checkAlerts
  split
  · exact h
  · rename_i table
    split
    · exact State.takeAir_keeps frame push h table
    · exact h

theorem State.breakOpportunity_keeps {s : State} (h : I s) : I s.breakOpportunity := by
  unfold State.breakOpportunity
  split
  · exact h
  · rename_i table
    split
    · exact State.takeAir_keeps frame push h table
    · exact h

end

namespace StepLaw

section
variable (W : StepLaw) {s : State}
include W

theorem checkAlerts (h : W.holds s) : W.holds s.checkAlerts := State.checkAlerts_keeps W.frame W.pushAlert h

theorem checkAlertsWithin (h : W.within s) : W.within s.checkAlerts :=
  State.checkAlerts_keeps W.frameWithin (fun h => W.push h .alert) h

/-- The break opportunity of a step is given or lost at its end (R47). -/
theorem takeBreak (h : W.within s) : W.holds s.takeBreak := by
  have settled := W.settleBreak h
  unfold State.takeBreak
  split
  · exact State.breakOpportunity_keeps W.frame W.pushAlert settled
  · rename_i silent
    have idle : { s.sq with breakSignal := false } = s.sq := by
      rw [← (Bool.not_eq_true _).mp silent]
    rw [idle] at settled
    exact settled

theorem ite {c : Prop} [Decidable c] {t u : State} (ht : W.holds t) (hu : W.holds u) : W.holds (if c then t else u) := by
  split
  · exact ht
  · exact hu

/-! Alert unit -/

theorem enterTable (h : W.holds s) (p : PendingAlert) : W.holds (s.enterTable p).1 := by
  unfold State.enterTable
  split
  · rename_i room
    exact W.checkAlerts (W.frame h { al := fun fits => fits.place (by simpa [Config.pendingMax] using room) p })
  · split
    · exact h
    · rename_i low last
      split
      · refine W.checkAlerts (W.frame h { al := fun fits => ?_ })
        have table : s.al.table.dropLast.length < 8 := by
          have nonempty : s.al.table ≠ [] := fun none => by simp [none] at last
          have pos := List.length_pos_iff.mpr nonempty
          have le := fits.1
          rw [List.length_dropLast]
          omega
        have dropped := (fits.table (ps := s.al.table.dropLast) (by simp)).writePending low .superseded
        exact dropped.place (ps := s.al.table.dropLast) table p
      · exact W.frame h (s.frames_setAl (·.writePending _ _))

theorem notice (h : W.holds s) (n : Notice) : W.holds (s.notice n).1 := by
  have counted := W.frame h (s.frames_setAl (a := { s.al with noticeCounter := s.al.noticeCounter + 1#32 }) id)
  unfold State.notice
  split
  · exact h
  · dsimp only
    split
    · exact W.frame counted { al := (·.writePending _ _) }
    · split
      · exact W.frame counted { al := (·.writePending _ _) }
      · split
        · split
          · exact W.frame counted { al := fun fits => fits.write .. }
          · exact W.enterTable counted _
        · exact W.enterTable counted _

theorem windowExpiry (h : W.holds s) (id : Nat) : W.holds (s.windowExpiry id) :=
  W.ite (W.checkAlerts (W.frame h { al := (·.table (by simp)) })) h

theorem endAlert (h : W.holds s) (o : OnAirAlert) : W.holds (s.endAlert o) := by
  have logged := W.frame h (t := ({ s with lc := s.lc.refeed false } : State).setAl
    { s.al.writeOnAir o o.outcome s.ev.clock with onAir := none, armed := false }) { al := fun fits => fits.write .. }
  exact W.takeBreak (W.checkAlertsWithin (W.frameWithin (W.pop logged .alertUnit _) {}))

theorem alertEnd (h : W.holds s) : W.holds s.alertEnd := by
  unfold State.alertEnd
  split
  · exact W.ite (W.endAlert h _) h
  · exact h

/-! Air state block -/

theorem signOn (h : W.holds s) (enabled : Bool) : W.holds (s.signOn enabled).1 := by
  unfold State.signOn
  split
  · exact h
  · split
    · exact h
    · exact h
  · split
    · exact W.frame h {}
    · exact h
  · split
    · exact W.checkAlerts (W.frame h (.trans {} (State.frames_announceAir (s.setAir .onAir) .offAir)))
    · exact h

theorem signOffNow (h : W.holds s) : W.holds s.signOffNow := by
  have stopped := W.stop (W.frame h (t := (s.setAir .offAir).updRoster fun _ e => e.setOff) {})
  have dropped : ∀ {u : State} (lc : LineController) (c : Bool) (du : Delay), W.within u →
      W.within ((({ u with lc := lc } : State).raiseIf c .queueChange).setDu du) := fun {u} lc c du hu =>
    W.frameWithin hu (.trans (.trans {} (State.frames_raiseIf { u with lc := lc } c .queueChange)) {})
  have announced : ∀ {u : State}, W.within u → W.within (u.announceAir .onAir).sweep := fun hu =>
    W.frameWithin hu ((State.frames_announceAir _ .onAir).trans (State.frames_sweep _))
  exact W.frame (W.takeBreak (W.checkAlertsWithin (announced (dropped _ _ _ stopped)))) {}

theorem signOff (h : W.holds s) : W.holds s.signOff.1 := by
  unfold State.signOff
  split
  · exact h
  · split
    · exact h
    · split
      · exact W.signOffNow h
      · exact h

theorem wakeChanged (h : W.holds s) : W.holds s.wakeChanged := W.ite (W.checkAlerts (W.frame h s.frames_sweep)) h

theorem enterStartState (h : W.holds s) (st : StartState) : W.holds (s.enterStartState st) := by
  have announced : s.Frames ((s.setAir st.air).announceAir .starting) := .trans {} (State.frames_announceAir _ _)
  exact W.checkAlerts (W.frame h (.ite (announced.trans (State.frames_sweep _)) announced))

theorem startDelayExpiry (h : W.holds s) : W.holds s.startDelayExpiry := W.ite (W.enterStartState (W.frame h {}) _) h

theorem judgeBlock (h : W.holds s) : W.holds s.judgeBlock := by
  unfold State.judgeBlock
  dsimp only
  split
  · split
    · exact W.takeBreak (W.frameWithin (W.push (W.relax h) .failover) {})
    · exact W.frame h (.trans {} (State.frames_raiseIf (s.setMonitor _) _ _))
  · exact W.frame h {}

theorem blockJudged (h : W.holds s) : W.holds s.blockJudged := by
  refine W.ite ?_ h
  split
  · exact W.frame (W.judgeBlock h) {}
  · exact W.frame h {}

/-! Link and profile -/

theorem remoteJudged {r : State × ReplyCode} (h : W.holds r.1) : W.holds (remoteJudged r) := by
  unfold Machine.remoteJudged
  split
  · exact W.frame h {}
  · exact W.frame h {}
  · exact h

theorem remoteRequest (h : W.holds s) (code : Byte) : W.holds (s.remoteRequest code) := by
  unfold State.remoteRequest
  split
  · exact W.ite (W.frame h {}) (W.takeBreak (W.push (W.relax h) .remoteFallback))
  · exact W.remoteJudged (W.signOff h)
  · exact W.remoteJudged (W.signOn h _)
  · exact W.frame h {}
  · exact W.frame h {}
  · exact h

theorem judgeRequest (h : W.holds s) (u : UnitId) (code : Byte) : W.holds (s.judgeRequest u code) :=
  W.frame (W.ite (W.remoteRequest h code) h) (State.frames_setTl _ fun fits => fits)

theorem judgeMessage (h : W.holds s) (m : Assembly) : W.holds (s.judgeMessage m) := by
  refine W.ite ?_ (W.frame h {})
  have taken := W.frame h (.trans {} (State.frames_checkReflect (s.setTl { s.tl with
    window := none, units := s.tl.units.set m.unit ((s.tl.units.get m.unit).accept m.status) }) m.unit m.status))
  exact W.frame (W.judgeRequest taken m.unit m.status.request) (State.frames_lookChangeover _)

theorem assemblerTake (h : W.holds s) : W.holds s.assemblerTake := by
  unfold State.assemblerTake
  split
  · exact h
  · split
    · exact h
    · rename_i c rest queue
      have taken : ∀ l, l = ({ s.tl with fifo := rest, took := true } : Link).assemble c → W.holds (s.setTl l.1) := by
        rintro _ rfl
        refine W.frame h (s.frames_setTl fun fits => Link.fits.assemble (l := { s.tl with fifo := rest, took := true }) ⟨fits.1, ?_⟩ c)
        have le := fits.2
        rw [queue, List.length_cons] at le
        show rest.length ≤ 4
        omega
      dsimp only
      split
      · exact W.judgeMessage (taken _ rfl) _
      · exact taken _ rfl

theorem fieldWritten (h : W.holds s) (f : Field) : W.holds (s.fieldWritten f) := by
  unfold State.fieldWritten
  split
  · exact W.frame h (.trans {} (State.frames_lookChangeover (s.setTl _)))
  · exact W.frame h s.frames_lookChangeover
  · exact W.wakeChanged h
  · exact h

theorem profileWrite (h : W.holds s) (l : LaneId) (body : List Byte) : W.holds (State.profileWrite l body s).1 := by
  unfold State.profileWrite
  split
  · split
    · exact h
    · split
      · exact h
      · split
        · exact h
        · split
          · rename_i f _ _
            have written : ∀ v, W.holds ((s.setPf (s.pf.begin f v)).fieldWritten f) := fun _ => W.fieldWritten (W.frame h {}) f
            exact W.frame (written _) {}
          · exact h
  · exact h

theorem globalReset (h : W.holds s) : W.holds s.globalReset := by
  refine W.enterStartState (s := s.resetBlocks.setTl (s.resetBlocks.tl.returnToMain s.tl.active)) (W.initial h rfl rfl ?_ ?_) _
  · intro fits
    have al : s.resetBlocks.al = s.al.globalReset s.ev.clock := by
      unfold State.resetBlocks
      cases hv : s.pf.valid <;> simp
    rw [State.setTl_al, al]
    exact fits.globalReset _
  · exact fun _ => Link.fits.returnToMain (l := s.tl.globalReset s.pf.loaded) ⟨Nat.zero_le _, Nat.zero_le _⟩ _

theorem powerOn (h : W.holds s) (rst supply : Bool) : W.holds (s.powerOn rst supply) :=
  W.initial h rfl rfl (fun _ => ⟨Nat.zero_le _, Nat.zero_le _⟩) fun _ => ⟨Nat.zero_le _, Nat.zero_le _⟩

/-! Settling and the mix -/

theorem settleSequencer (h : W.holds s) : W.holds s.settleSequencer := by
  have segued := W.takeBreak (W.seguePoint (W.fadeOutPoint (W.fadeOutPoint h .a) .b))
  exact W.takeBreak (W.itemEnd (W.takeBreak (W.itemEnd segued .a)) .b)

theorem settleAlert (h : W.holds s) : W.holds s.settleAlert := by
  have phases : s.Frames s.attentionEnd.messageTruncated :=
    s.frames_attentionEnd.trans (State.frames_messageTruncated _)
  exact foldl_preserves (I := W.holds) (fun _ id ht => W.windowExpiry ht id) _ (W.alertEnd (W.frame h phases))

theorem settleLink (h : W.holds s) : W.holds s.settleLink :=
  W.assemblerTake (W.frame h ((s.frames_replyWindowClose.trans (State.frames_pollTimerExpiry _)).trans (State.frames_frameBoundary _)))

theorem settle (h : W.holds s) : W.holds s.settle := by
  have start := W.startDelayExpiry (W.frame h (s.frames_profileWriteComplete.trans (State.frames_profileLoadComplete _)))
  have judged := W.blockJudged (W.settleAlert (W.settleSequencer (W.frame start (t := State.settleRoster _) {})))
  have linked := W.settleLink (W.frame judged (State.frames_settleLines _))
  exact W.frame linked (((State.frames_laneTimeout _ .aut).trans (State.frames_laneTimeout _ .con)).trans (State.frames_laneTimeout _ .alr))

theorem mixPeriod (h : W.holds s) (f : InputFrame) : W.holds (s.mixPeriod f) := by
  refine W.frame (W.tick h) { sq := rfl, ps := ?_, al := fun fits => ?_, tl := id }
  · simp [State.mixPeriod]
  · have tick : s.al.tick.fits := by
      unfold AlertUnit.tick
      split
      · dsimp only
        split
        · exact fits
        · exact fits
      · exact fits
    exact tick

theorem mix (h : W.holds s) (f : InputFrame) : W.holds (s.mix f) := W.ite h (W.mixPeriod (W.settle h) f)

/-! Requests -/

theorem request (h : W.holds s) (l : LaneId) (code : Byte) (rest : List Byte) (allowed : Bool) (need : Nat)
    {own : List Byte → State → Answer} (ho : ∀ b t, W.holds t → W.holds (own b t).state) :
    W.holds (s.request l code rest allowed need own) :=
  State.request_preserves (fun _ _ _ ht => W.frame ht {}) h l code rest allowed need ho

/-- A request whose owner is a frame. -/
theorem framedRequest (h : W.holds s) (l : LaneId) (code : Byte) (rest : List Byte) (allowed : Bool) (need : Nat)
    {own : List Byte → State → Answer} (ho : ∀ b t, State.Frames t (own b t).state) :
    W.holds (s.request l code rest allowed need own) :=
  W.request h l code rest allowed need fun b t ht => W.frame ht (ho b t)

theorem doneThenBreak (h : W.within s) : W.holds s.done.thenBreak.state := W.takeBreak h

theorem seqAppend (h : W.holds s) (body : List Byte) : W.holds (ownSeqAppend body s).state := by
  unfold ownSeqAppend
  split
  · exact h
  · split
    · exact h
    · rename_i he; exact W.doneThenBreak (W.append h he)

theorem seqInsert (h : W.holds s) (body : List Byte) : W.holds (ownSeqInsert body s).state := by
  unfold ownSeqInsert
  split
  · split
    · exact h
    · split
      · exact h
      · rename_i he
        split
        · exact W.doneThenBreak (W.insert h he _)
        · exact h
  · exact h

theorem seqRemove (h : W.holds s) (body : List Byte) : W.holds (ownSeqRemove body s).state := by
  unfold ownSeqRemove
  split
  · split
    · rename_i there
      split
      · exact h
      · rename_i behind; exact W.doneThenBreak (W.remove h there behind)
    · exact h
  · exact h

theorem seqReady (h : W.holds s) (body : List Byte) : W.holds (ownSeqReady body s).state := by
  unfold ownSeqReady
  split
  · split
    · exact h
    · split
      · split
        · rename_i cueing; exact W.doneThenBreak (W.ready h cueing)
        · exact h
        · exact h
      · exact h
  · exact h

theorem seqStart (h : W.holds s) (body : List Byte) : W.holds (ownSeqStart body s).state := by
  unfold ownSeqStart
  split
  · exact h
  · split
    · exact h
    · rename_i free
      exact W.doneThenBreak (W.start h (not_not.mp (not_or.mp free).1))

theorem seqStop (h : W.holds s) (body : List Byte) : W.holds (ownSeqStop body s).state := by
  unfold ownSeqStop
  split
  · exact h
  · split
    · exact h
    · exact W.doneThenBreak (W.stop h)

theorem seqSkip (h : W.holds s) (body : List Byte) : W.holds (ownSeqSkip body s).state := by
  unfold ownSeqSkip
  split
  · exact h
  · rename_i running
    have running := not_not.mp running
    split
    · exact h
    · rename_i list playing; exact W.doneThenBreak (W.skipPlaying h running list playing)
    · rename_i list idle; exact W.doneThenBreak (W.skipWaiting h running list idle)

theorem seqContinue (h : W.holds s) (body : List Byte) : W.holds (ownSeqContinue body s).state := by
  unfold ownSeqContinue
  split
  · rename_i halted; exact W.doneThenBreak (W.proceed h halted)
  · exact h

theorem doneRead (h : W.holds s) (body : List Byte) : W.holds (ownDoneRead body s).state := by
  unfold ownDoneRead
  split
  · exact h
  · rename_i list; exact W.readDone h list

theorem breakIn (h : W.holds s) (body : List Byte) : W.holds (ownBreakIn body s).state := by
  unfold ownBreakIn
  split
  · exact h
  · exact W.doneThenBreak (W.push (W.relax h) .breakIn)

theorem resume (h : W.holds s) (l : LaneId) (body : List Byte) : W.holds (ownResume l body s).state := by
  unfold ownResume
  split
  · split
    · exact h
    · exact h
    · split
      · exact W.doneThenBreak (W.pop h _ _)
      · exact h
  · exact h

theorem alertNotice (h : W.holds s) (body : List Byte) : W.holds (ownAlertNotice body s).state := by
  unfold ownAlertNotice
  split
  · exact h
  · exact W.notice h _

theorem alertCancel (h : W.holds s) (body : List Byte) : W.holds (ownAlertCancel body s).state := by
  unfold ownAlertCancel
  split
  · unfold State.cancel
    split
    · refine W.checkAlerts (W.frame h (s.frames_setAl fun fits => ?_))
      exact AlertUnit.fits.writePending (fits.table (List.length_eraseP_le)) _ _
    · split
      · unfold State.cancelOnAir
        split
        · exact h
        · exact W.frame h {}
      · exact h
    · exact h
  · exact h

theorem alertRearm (h : W.holds s) (body : List Byte) : W.holds (ownAlertRearm body s).state := by
  unfold ownAlertRearm
  split
  · exact h
  · exact W.checkAlerts (W.frame h {})

theorem wakeEnable (h : W.holds s) (body : List Byte) : W.holds (ownWakeEnable body s).state := by
  unfold ownWakeEnable
  split
  · exact W.wakeChanged (W.frame h {})
  · exact h

end

end StepLaw

/-! ### Owners that reach neither sequencer nor stack -/

section
variable (s : State)

theorem frames_ownSourceGain (l : LaneId) (body : List Byte) : s.Frames (ownSourceGain l body s).state := by
  unfold ownSourceGain
  split
  · split
    · exact .refl s
    · split
      · exact .refl s
      · exact {}
  · exact .refl s

theorem frames_ownTurn (still : EntryState) (f : Nat → Entry → Entry) (l : LaneId) (body : List Byte) :
    s.Frames (ownTurn still f l body s).state := by
  unfold ownTurn
  split
  · split
    · exact .refl s
    · split
      · exact .refl s
      · split
        · exact .refl s
        · exact {}
  · exact .refl s

theorem frames_ownSourceTake (body : List Byte) : s.Frames (ownSourceTake body s).state := by
  unfold ownSourceTake
  split
  · split
    · exact .refl s
    · exact {}
  · exact .refl s

theorem frames_ownSourceRelease (body : List Byte) : s.Frames (ownSourceRelease body s).state := by
  unfold ownSourceRelease
  split
  · split
    · exact .refl s
    · exact {}
  · exact .refl s

theorem frames_onLine {own : LineId → State → Answer} (h : ∀ n, s.Frames (own n s).state) (body : List Byte) :
    s.Frames (onLine own body s).state := by
  unfold onLine
  split
  · split
    · exact .refl s
    · exact h _
  · exact .refl s

theorem frames_ownLineAnswer (n : LineId) : s.Frames (ownLineAnswer n s).state := by
  unfold ownLineAnswer
  split
  · exact {}
  · exact .refl s

theorem frames_ownLineScreen (n : LineId) : s.Frames (ownLineScreen n s).state := by
  unfold ownLineScreen
  split
  · exact ((s.frames_leaveQueue n).trans (State.frames_leaveOffers _ n)).trans {}
  · exact .refl s

theorem frames_ownLineHold (n : LineId) : s.Frames (ownLineHold n s).state := by
  unfold ownLineHold
  split
  · exact {}
  · split
    · exact {}
    · exact .refl s

theorem frames_ownLineReady (front : Bool) (n : LineId) : s.Frames (ownLineReady front n s).state := by
  unfold ownLineReady
  split
  · exact (s.frames_leaveOffers n).trans {}
  · exact .refl s

theorem frames_ownLineAir (body : List Byte) : s.Frames (ownLineAir body s).state := by
  unfold ownLineAir
  split
  · split
    · exact .refl s
    · split
      · exact .refl s
      · split
        · exact .refl s
        · exact (s.frames_leaveQueue _).trans {}
  · exact .refl s

theorem frames_ownLineDrop (n : LineId) : s.Frames (ownLineDrop n s).state := by
  unfold ownLineDrop
  split
  · exact s.frames_dropLine n
  · exact .refl s

theorem frames_ownDelayTarget (body : List Byte) : s.Frames (ownDelayTarget body s).state := by
  unfold ownDelayTarget
  split
  · exact {}
  · exact .refl s

theorem frames_ownDelayDump (body : List Byte) : s.Frames (ownDelayDump body s).state := by
  unfold ownDelayDump
  split
  · exact .refl s
  · exact {}

theorem frames_ownAlertAudioEnd (body : List Byte) : s.Frames (ownAlertAudioEnd body s).state := by
  unfold ownAlertAudioEnd
  split
  · unfold State.audioEnd
    split
    · exact .refl s
    · split
      · exact .refl s
      · split
        · exact {}
        · exact .refl s
  · exact .refl s

theorem frames_ownLogRead (body : List Byte) : s.Frames (ownLogRead body s).state := by
  unfold ownLogRead
  split
  · split
    · exact .refl s
    · split
      · exact .refl s
      · exact .refl s
  · exact .refl s

theorem frames_ownTxSelect (body : List Byte) : s.Frames (ownTxSelect body s).state := by
  unfold ownTxSelect
  split
  · split
    · exact .refl s
    · rename_i t _
      unfold State.txSelect
      split
      · exact .refl s
      · split
        · exact .refl s
        · exact { tl := fun fits =>
            ((Link.fits.moveCarrier (l := { s.tl with active := t }) fits _ _ _).commandRole _ _ : Link.fits _) }
  · exact .refl s

theorem frames_ownStatusRead (body : List Byte) : s.Frames (ownStatusRead body s).state := by
  unfold ownStatusRead
  split
  · split
    · exact .refl s
    · exact .refl s
  · exact .refl s

theorem frames_ownEventEnable (l : LaneId) (body : List Byte) : s.Frames (ownEventEnable l body s).state := by
  unfold ownEventEnable
  split
  · exact {}
  · exact .refl s

theorem frames_ownEventClear (l : LaneId) (body : List Byte) : s.Frames (ownEventClear l body s).state := by
  unfold ownEventClear
  split
  · exact {}
  · exact .refl s

theorem frames_ownProfileRead (body : List Byte) : s.Frames (ownProfileRead body s).state := by
  unfold ownProfileRead
  split
  · rw [State.profileRead_state]; exact .refl s
  · exact .refl s

end

/-! ### The step -/

/-- Every command keeps the law. -/
theorem StepLaw.exec (W : StepLaw) {s t : State} (h : W.holds s) (c : Instr) (e : exec c s = .next t) : W.holds t := by
  cases c with
  | powerOn rst supply => exact holds_of_next (W.powerOn h rst supply) e
  | profileLoadComplete => exact holds_of_next (W.frame h s.frames_profileLoadComplete) e
  | startDelayExpiry => exact holds_of_next (W.startDelayExpiry h) e
  | globalReset l rest => exact holds_of_next (W.request h _ _ _ _ _ fun _ _ ht => W.globalReset ht) e
  | mix f => exact holds_of_next (W.mix h f) e
  | releaseRampEnd src => exact holds_of_next (W.frame h (t := s.releaseRampEnd src) {}) e
  | buildStep f => exact holds_of_next (W.ite (W.mix h f) h) e
  | catchUpStep f => exact holds_of_next (W.ite (W.mix h f) h) e
  | fadeOutPoint d => exact holds_of_next (W.fadeOutPoint h d) e
  | seguePoint => exact holds_of_next (W.takeBreak (W.seguePoint h)) e
  | itemEnd d => exact holds_of_next (W.takeBreak (W.itemEnd h d)) e
  | seqAppend l rest => exact holds_of_next (W.request h _ _ _ _ _ fun b _ ht => W.seqAppend ht b) e
  | seqInsert l rest => exact holds_of_next (W.request h _ _ _ _ _ fun b _ ht => W.seqInsert ht b) e
  | seqRemove l rest => exact holds_of_next (W.request h _ _ _ _ _ fun b _ ht => W.seqRemove ht b) e
  | seqReady l rest => exact holds_of_next (W.request h _ _ _ _ _ fun b _ ht => W.seqReady ht b) e
  | seqStart l rest => exact holds_of_next (W.request h _ _ _ _ _ fun b _ ht => W.seqStart ht b) e
  | seqStop l rest => exact holds_of_next (W.request h _ _ _ _ _ fun b _ ht => W.seqStop ht b) e
  | seqSkip l rest => exact holds_of_next (W.request h _ _ _ _ _ fun b _ ht => W.seqSkip ht b) e
  | seqContinue l rest => exact holds_of_next (W.request h _ _ _ _ _ fun b _ ht => W.seqContinue ht b) e
  | doneRead l rest => exact holds_of_next (W.request h _ _ _ _ _ fun b _ ht => W.doneRead ht b) e
  | sourceGain l rest => exact holds_of_next (W.framedRequest h _ _ _ _ _ fun b t => frames_ownSourceGain t l b) e
  | sourceOn l rest =>
    exact holds_of_next (W.framedRequest h l _ rest _ _ fun b t => ownSourceOn_eq l ▸ frames_ownTurn t _ _ l b) e
  | sourceOff l rest =>
    exact holds_of_next (W.framedRequest h l _ rest _ _ fun b t => ownSourceOff_eq l ▸ frames_ownTurn t _ _ l b) e
  | sourceTake l rest => exact holds_of_next (W.framedRequest h _ _ _ _ _ fun b t => frames_ownSourceTake t b) e
  | sourceRelease l rest => exact holds_of_next (W.framedRequest h _ _ _ _ _ fun b t => frames_ownSourceRelease t b) e
  | breakIn l rest => exact holds_of_next (W.request h _ _ _ _ _ fun b _ ht => W.breakIn ht b) e
  | resume l rest => exact holds_of_next (W.request h _ _ _ _ _ fun b _ ht => W.resume ht l b) e
  | lineAnswer l rest =>
    exact holds_of_next (W.framedRequest h _ _ _ _ _ fun b t => frames_onLine t (frames_ownLineAnswer t) b) e
  | lineScreen l rest =>
    exact holds_of_next (W.framedRequest h _ _ _ _ _ fun b t => frames_onLine t (frames_ownLineScreen t) b) e
  | lineHold l rest =>
    exact holds_of_next (W.framedRequest h _ _ _ _ _ fun b t => frames_onLine t (frames_ownLineHold t) b) e
  | lineReady l rest =>
    exact holds_of_next (W.framedRequest h _ _ _ _ _ fun b t => frames_onLine t (frames_ownLineReady t _) b) e
  | lineAir l rest => exact holds_of_next (W.framedRequest h _ _ _ _ _ fun b t => frames_ownLineAir t b) e
  | lineDrop l rest =>
    exact holds_of_next (W.framedRequest h _ _ _ _ _ fun b t => frames_onLine t (frames_ownLineDrop t) b) e
  | ringFilterArmed n => exact holds_of_next (W.frame h (s.frames_ringArmed n)) e
  | ringBurst n => exact holds_of_next (W.frame h (s.frames_ringBurst n)) e
  | ringExpiry n => exact holds_of_next (W.frame h (s.frames_ringExpiry n)) e
  | loopLoss n => exact holds_of_next (W.frame h (s.frames_loopLoss n)) e
  | holdLong n => exact holds_of_next (W.frame h (s.frames_holdLong n)) e
  | delayTarget l rest => exact holds_of_next (W.framedRequest h _ _ _ _ _ fun b t => frames_ownDelayTarget t b) e
  | delayDump l rest => exact holds_of_next (W.framedRequest h _ _ _ _ _ fun b t => frames_ownDelayDump t b) e
  | alertNotice l rest => exact holds_of_next (W.request h _ _ _ _ _ fun b _ ht => W.alertNotice ht b) e
  | windowExpiry id => exact holds_of_next (W.windowExpiry h id) e
  | attentionEnd => exact holds_of_next (W.frame h s.frames_attentionEnd) e
  | messageTruncated => exact holds_of_next (W.frame h s.frames_messageTruncated) e
  | alertAudioEnd l rest => exact holds_of_next (W.framedRequest h _ _ _ _ _ fun b t => frames_ownAlertAudioEnd t b) e
  | alertCancel l rest => exact holds_of_next (W.request h _ _ _ _ _ fun b _ ht => W.alertCancel ht b) e
  | alertRearm l rest => exact holds_of_next (W.request h _ _ _ _ _ fun b _ ht => W.alertRearm ht b) e
  | alertEnd => exact holds_of_next (W.alertEnd h) e
  | logRead l rest => exact holds_of_next (W.framedRequest h _ _ _ _ _ fun b t => frames_ownLogRead t b) e
  | signOn l rest => exact holds_of_next (W.request h _ _ _ _ _ fun _ _ ht => W.signOn ht _) e
  | signOff l rest => exact holds_of_next (W.request h _ _ _ _ _ fun _ _ ht => W.signOff ht) e
  | wakeEnable l rest => exact holds_of_next (W.request h _ _ _ _ _ fun b _ ht => W.wakeEnable ht b) e
  | blockJudged => exact holds_of_next (W.blockJudged h) e
  | frameBoundary => exact holds_of_next (W.frame h s.frames_frameBoundary) e
  | pollTimerExpiry => exact holds_of_next (W.frame h s.frames_pollTimerExpiry) e
  | replyWindowClose => exact holds_of_next (W.frame h s.frames_replyWindowClose) e
  | returnCharacter w => exact holds_of_next (W.frame h (s.frames_returnCharacter w)) e
  | assemblerTake => exact holds_of_next (W.assemblerTake h) e
  | txSelect l rest => exact holds_of_next (W.framedRequest h _ _ _ _ _ fun b t => frames_ownTxSelect t b) e
  | ceilingRestore l rest => exact holds_of_next (W.framedRequest h _ _ _ _ _ fun _ _ => {}) e
  | transactionStart l => exact holds_of_next (W.frame h (s.frames_transactionStart l)) e
  | readOnlyTransaction l bytes => exact holds_of_next (W.frame h (s.frames_heard l bytes)) e
  | laneTimeout l => exact holds_of_next (W.frame h (s.frames_laneTimeout l)) e
  | nop l rest => exact holds_of_next (W.request h _ _ _ _ _ fun _ _ ht => ht) e
  | statusRead l rest => exact holds_of_next (W.framedRequest h _ _ _ _ _ fun b t => frames_ownStatusRead t b) e
  | eventEnable l rest => exact holds_of_next (W.framedRequest h _ _ _ _ _ fun b t => frames_ownEventEnable t l b) e
  | eventClear l rest => exact holds_of_next (W.framedRequest h _ _ _ _ _ fun b t => frames_ownEventClear t l b) e
  | clockWrap f => exact holds_of_next (W.ite (W.mix h f) h) e
  | profileRead l rest => exact holds_of_next (W.framedRequest h _ _ _ _ _ fun b t => frames_ownProfileRead t b) e
  | profileWrite l eng rest =>
    exact holds_of_next (State.transact_preserves (fun _ _ _ ht => W.frame ht {}) h _ _ _ _ _ _ fun b _ ht => W.profileWrite ht l b) e
  | profileWriteComplete => exact holds_of_next (W.frame h s.frames_profileWriteComplete) e
  | unknownRequestCode l code rest =>
    have e : execUnknownRequestCode l code rest s = .next t := e
    unfold execUnknownRequestCode at e
    split at e
    · exact holds_of_next (W.frame h (s.frames_heard l _)) e
    · exact holds_of_next (State.transact_preserves (fun _ _ _ ht => W.frame ht {}) h _ _ _ _ _ _ fun _ _ ht => ht) e

/-- Every step keeps the law. -/
theorem StepLaw.kept (W : StepLaw) : Kept W.holds := by
  intro s t h stepped
  unfold step at stepped
  split at stepped
  · exact holds_of_next h stepped
  · exact W.exec (W.frame h {}) _ stepped

end Sys2Proof.Machine
end

section
/-! SUPPORT. The items of the sequence and the records of its done list: no operation but SEQ_APPEND and SEQ_INSERT brings an item, and
every collection stays within its place (O56, and of O57 the first and the last part). -/

namespace Sys2Proof.Machine

set_option Elab.async false

/-! ### No break opportunity stands between steps (R47) -/

theorem State.noSignalStands.frame {s t : State} (h : s.noSignalStands) (f : s.Frames t) : t.noSignalStands := by
  unfold State.noSignalStands at *
  rw [f.sq]; exact h

/-- An ALERT push leaves no break opportunity standing (R118). -/
theorem State.push_alert_noSignalStands (s : State) : (s.push .alert).noSignalStands := by
  show (Sequencer.preempt _ .alert).breakSignal = false
  rw [Sequencer.preempt_eq]
  simp

theorem State.fadeOutPoint_breakSignal (s : State) (d : DeckId) : (s.fadeOutPoint d).sq.breakSignal = s.sq.breakSignal := by
  unfold State.fadeOutPoint
  split
  · split
    · exact Sequencer.setDeck_breakSignal ..
    · rfl
  · rfl

/-- Between steps no break opportunity stands; within a step any may. -/
def signalLaw : StepLaw where
  holds := State.noSignalStands
  within _ := True
  relax _ := trivial
  frame := State.noSignalStands.frame
  frameWithin _ _ := trivial
  settleBreak _ := rfl
  initial _ hq _ _ _ := by unfold State.noSignalStands; rw [hq]; rfl
  tick h := h
  pushAlert _ := State.push_alert_noSignalStands _
  push _ _ := trivial
  pop _ _ _ := trivial
  stop _ := trivial
  fadeOutPoint h d := (State.fadeOutPoint_breakSignal _ d).trans h
  seguePoint _ := trivial
  itemEnd _ _ := trivial
  append _ _ _ _ := trivial
  insert _ _ _ _ _ := trivial
  remove _ _ _ _ := trivial
  ready _ _ _ := trivial
  start _ _ := trivial
  skipPlaying _ _ _ _ _ _ _ := trivial
  skipWaiting _ _ _ _ _ _ := trivial
  proceed _ _ := trivial
  readDone h _ _ _ := h

/-! ### What brings no item -/

/-- The ids of the list and of the tail slot (R27). -/
def Sequencer.ids (q : Sequencer) : List Nat := (q.list ++ q.tail.toList).map (·.id)

/-- A change that brings no item: the ids are among the old ones, each as often at most, and no collection leaves its place. -/
structure State.Narrows (s t : State) : Prop where
  ids : t.sq.ids.Subperm s.sq.ids := by exact .refl _
  list : t.sq.list.length ≤ s.sq.list.length := by exact Nat.le_refl _
  done : s.sq.done.length ≤ 8 → t.sq.done.length ≤ 8 := by exact fun h => h
  records : s.ps.records.length ≤ 8 → t.ps.records.length ≤ 8 := by exact fun h => h
  al : s.al.fits → t.al.fits := by exact fun h => h
  tl : s.tl.fits → t.tl.fits := by exact fun h => h

theorem State.Narrows.refl (s : State) : s.Narrows s := {}

theorem State.Narrows.trans {s t u : State} (h : s.Narrows t) (k : t.Narrows u) : s.Narrows u :=
  ⟨k.ids.trans h.ids, k.list.trans h.list, k.done ∘ h.done, k.records ∘ h.records, k.al ∘ h.al, k.tl ∘ h.tl⟩

theorem State.Frames.narrows {s t : State} (h : s.Frames t) : s.Narrows t where
  ids := by rw [h.sq]
  list := by rw [h.sq]
  done := by rw [h.sq]; exact fun h => h
  records := by
    have same := congrArg List.length h.ps
    rw [List.length_map, List.length_map] at same
    rw [same]; exact fun h => h
  al := h.al
  tl := h.tl

theorem State.Narrows.ite {s t u : State} {c : Prop} [Decidable c] (ht : s.Narrows t) (hu : s.Narrows u) :
    s.Narrows (if c then t else u) := by
  split
  · exact ht
  · exact hu

/-- A sequencer with the same list, tail slot and done list. -/
theorem State.narrows_setSq_same (s : State) {q : Sequencer} (hl : q.list = s.sq.list := by rfl) (ht : q.tail = s.sq.tail := by rfl)
    (hd : q.done = s.sq.done := by rfl) : s.Narrows (s.setSq q) where
  ids := by unfold Sequencer.ids; rw [State.setSq_sq, hl, ht]
  list := by rw [State.setSq_sq, hl]
  done := by rw [State.setSq_sq, hd]; exact fun h => h

section
variable (s : State)

theorem State.narrows_setDeck (d : DeckId) (k : Deck) : s.Narrows (s.setDeck d k) :=
  s.narrows_setSq_same (Sequencer.setDeck_list ..) (Sequencer.setDeck_tail ..) (Sequencer.setDeck_done ..)

theorem State.narrows_freeDeck (d : DeckId) : s.Narrows (s.freeDeck d) := (s.narrows_setDeck d _).trans {}

theorem State.narrows_bindDeck (d : DeckId) (id : Nat) : s.Narrows (s.bindDeck d id) := (s.narrows_setDeck d _).trans {}

theorem State.narrows_addDone (r : DoneRecord) : s.Narrows (s.addDone r) := by
  rw [State.addDone_eq]
  refine { done := fun h => ?_ }
  show ((if _ then _ else _) ++ [r]).length ≤ 8
  split <;> simp <;> omega

theorem State.narrows_dropHead : s.Narrows s.dropHead where
  ids := (((List.drop_sublist ..).append_right _).map _).subperm
  list := (List.length_drop ..).trans_le (Nat.sub_le ..)

theorem State.narrows_clearTail : s.Narrows (s.setSq { s.sq with tail := none }) where
  ids := (((List.Sublist.refl _).append (List.nil_sublist _)).map _).subperm

theorem State.narrows_cueOnce : s.Narrows s.cueOnce := by
  unfold State.cueOnce
  split
  · exact s.narrows_bindDeck _ _
  · exact .refl s

theorem State.narrows_cue : s.Narrows s.cue := s.narrows_cueOnce.trans (State.narrows_cueOnce _)

theorem State.narrows_endItem (d : DeckId) : s.Narrows (s.endItem d) := by
  unfold State.endItem
  split
  · exact .refl s
  · rename_i i _
    have ended := ((s.narrows_addDone { item := i.id, start := (s.deck d).startedAt, aired := (s.deck d).position,
                                        outcome := if i.skipped then .skipped else .complete }).trans
      (State.narrows_freeDeck _ d)).trans (State.frames_updEntry _ d.source Entry.setOff).narrows
    exact .ite (ended.trans (State.narrows_clearTail _)) (ended.trans (State.narrows_dropHead _))

theorem State.narrows_headToTail : s.Narrows s.headToTail := by
  unfold State.headToTail
  split
  · exact .refl s
  · rename_i d _
    have list : (s.setDeck d { s.deck d with state := .tailing }).sq.list = s.sq.list := Sequencer.setDeck_list ..
    refine (s.narrows_setDeck d { s.deck d with state := .tailing }).trans
      { ids := ?_, list := (List.length_drop ..).trans_le (Nat.sub_le ..) }
    generalize s.setDeck d { s.deck d with state := .tailing } = u
    have moved : (u.sq.list.drop 1 ++ u.sq.list.head?.toList).Perm u.sq.list := by
      cases u.sq.list with
      | nil => exact .refl _
      | cons x xs => exact List.perm_append_singleton x xs
    exact ((moved.map _).subperm).trans ((List.sublist_append_left ..).map _).subperm

theorem State.narrows_halt : s.Narrows s.halt := (s.narrows_setSq_same (q := { s.sq with
  state := .halted, liveStart := some (s.sq.liveStart.getD s.ev.clock), breakSignal := true })).trans {}

theorem State.narrows_startItem (d : DeckId) (i : Item) (late : Bool) : s.Narrows (s.startItem d i late) := by
  unfold State.startItem
  refine .trans ?_ (State.frames_raiseIf _ late .lateStart).narrows
  refine .trans ?_ (State.frames_raise _ .seqAdvance).narrows
  exact ((s.narrows_headToTail.trans (State.narrows_setDeck _ d _)).trans (State.frames_updEntry _ d.source _).narrows).trans
    (State.narrows_setSq_same _)

theorem State.narrows_takeStart (late : Bool) : s.Narrows (s.takeStart late) := by
  unfold State.takeStart
  split
  · split
    · exact .refl s
    · split
      · split
        · exact s.narrows_halt
        · exact .ite (.refl s) (s.narrows_headToTail.trans (State.narrows_halt _))
      · split
        · exact .refl s
        · exact .ite (s.narrows_startItem _ _ late) (.refl s)
  · exact .refl s

theorem State.narrows_markSegue : s.Narrows s.markSegue :=
  s.narrows_setSq_same s.sq.markSegue_list s.sq.markSegue_tail (by unfold Sequencer.markSegue; split <;> rfl)

theorem State.narrows_review (late : Bool) : s.Narrows (s.review late) :=
  (((s.narrows_markSegue.trans (State.narrows_takeStart _ late)).trans (State.narrows_takeStart _ false)).trans
    (State.narrows_takeStart _ false)).trans (State.narrows_cue _)

theorem State.narrows_takeHeadPoint (d : DeckId) : s.Narrows (s.takeHeadPoint d) := by
  rw [State.takeHeadPoint_eq]
  have started : s.Narrows (s.pointTaken.takeStart false) := (s.narrows_setSq_same).trans (State.narrows_takeStart _ false)
  exact .trans (.ite (started.trans (State.narrows_endItem _ d)) started) (State.narrows_review _ false)

theorem State.narrows_seguePoint : s.Narrows s.seguePoint := by
  unfold State.seguePoint
  split
  · exact .ite (s.narrows_takeHeadPoint _) (.refl s)
  · exact .refl s

theorem State.narrows_itemEnd (d : DeckId) : s.Narrows (s.itemEnd d) :=
  .ite (.ite (s.narrows_takeHeadPoint d) ((s.narrows_endItem d).trans (State.narrows_review _ false))) (.refl s)

theorem State.narrows_fadeOutPoint (d : DeckId) : s.Narrows (s.fadeOutPoint d) := by
  unfold State.fadeOutPoint
  split
  · split
    · exact (s.narrows_setDeck d _).trans {}
    · exact .refl s
  · exact .refl s

theorem State.narrows_stop : s.Narrows (s.setSq s.sq.stop) := by
  rw [Sequencer.stop_eq]; exact s.narrows_setSq_same

/-- At most eight records stand on the stack after a push (R52). -/
theorem Stack.add_length_le (p : Stack) (r : Context) : (p.add r).records.length ≤ max 8 p.records.length := by
  unfold Stack.add
  split
  · rename_i room
    simp only [Config.stackMax] at room
    simp only [List.length_cons]; omega
  · simp only [List.length_cons, List.length_take, Config.stackMax]; omega

theorem State.narrows_push (c : Cause) : s.Narrows (s.push c) := by
  have stacked : s.Narrows (s.setPs (s.ps.add (s.context c))) :=
    { records := fun h => (Stack.add_length_le s.ps (s.context c)).trans (by omega) }
  have changes : ∀ u : State, u.Frames (u.causeChanges c) := fun u => by cases c <;> exact {}
  have paused : ∀ u : State, u.Narrows (u.setSq (u.sq.preempt c)) := fun u => by
    rw [Sequencer.preempt_eq]; exact u.narrows_setSq_same
  exact (((stacked.trans (State.frames_raiseIf _ _ .stackOverflow).narrows).trans (paused _)).trans (changes _).narrows).trans {}

theorem State.narrows_abandon (d : DeckId) : s.Narrows (s.abandon d) := by
  unfold State.abandon
  split
  · exact .refl s
  · exact (((s.narrows_addDone _).trans (State.narrows_freeDeck _ d)).trans (State.frames_updEntry _ d.source Entry.setOff).narrows).trans
      (State.narrows_dropHead _)

theorem State.narrows_reposition (d : DeckId) (position : Nat) : s.Narrows (s.reposition d position) := by
  unfold State.reposition
  split
  · exact .refl s
  · exact (s.narrows_setDeck d _).trans (State.narrows_setSq_same _)

theorem State.narrows_applyKind (k : ResumeKind) : s.Narrows (s.applyKind k) := by
  unfold State.applyKind
  split
  · exact s.narrows_abandon _
  · exact s.narrows_reposition _ _
  · exact .refl s

theorem State.frames_restoreEntry (r : Context) (reprised : Option DeckId) (src : Source) :
    s.Frames (s.restoreEntry r reprised src) := .ite (.refl s) {}

/-- Steps 4 to 6 of a pop reach neither the sequencer nor the stack (R64 to R67). -/
theorem State.frames_restores (r : Context) (reprised : Option DeckId) :
    s.Frames (((s.restoreRoster r reprised).restoreLines r).restoreDelay r) := by
  have deckEntry : ∀ (u : State) d saved, u.Frames (u.restoreDeckEntry r reprised d saved) := fun u _ _ =>
    .ite (u.frames_restoreEntry ..) (.refl u)
  have roster : ∀ u : State, u.Frames (u.restoreRoster r reprised) := fun u => by
    have decks := ((deckEntry u .a r.deckA).trans (deckEntry _ .b r.deckB)).trans (State.frames_restoreEntry _ r none .mic)
    exact .ite decks (decks.trans (State.frames_restoreEntry ..))
  have lines : ∀ u : State, u.Frames (u.restoreLines r) := fun u =>
    .ite (.refl u) (.trans {} (State.frames_foldl
      { u with lc := u.lc.returnToAir (u.lc.returned r.onAirLines r.gone) u.alertActive u.ev.clock }
      (fun t n => t.frames_restoreEntry r none n.source) (u.lc.returned r.onAirLines r.gone)))
  have delay : ∀ u : State, u.Frames (u.restoreDelay r) := fun u =>
    .ite (.trans {} (State.frames_endWake (u.setDu u.du.unfreeze))) (.refl u)
  exact ((roster s).trans (lines _)).trans (delay _)

theorem State.narrows_pop (taker : ResumeBy) (k : ResumeKind) : s.Narrows (s.pop taker k) := by
  unfold State.pop
  split
  · exact .refl s
  · rename_i r rest stack
    have popped : s.Narrows (s.setPs { s.ps with records := rest, lastResume := some (s.lastResume r taker k) }) :=
      { records := fun h => by
          rw [stack, List.length_cons] at h
          exact Nat.le_of_succ_le h }
    have reconciled : ∀ u : State, u.Narrows (u.setSq (u.sq.reconcileDecks r)) := fun u => u.narrows_setSq_same
    have entered : ∀ u : State, u.Narrows (u.restoreSequencer r) := fun u =>
      u.narrows_setSq_same.trans (State.narrows_review _ false)
    exact ((((popped.trans (State.narrows_applyKind _ _)).trans (reconciled _)).trans
      (State.frames_restores _ r _).narrows).trans (entered _)).trans (State.frames_raise _ .resumed).narrows

theorem State.narrows_removeItem (id : Nat) : s.Narrows (s.removeItem id) := by
  have filtered : s.Narrows (s.setSq { s.sq with list := s.sq.list.filter (·.id ≠ id) }) :=
    { ids := ((List.filter_sublist.append_right _).map _).subperm, list := List.length_filter_le .. }
  unfold State.removeItem
  dsimp only
  split
  · exact (filtered.trans (State.narrows_addDone _ _)).trans (State.narrows_freeDeck _ _)
  · exact filtered

theorem State.narrows_recue (d : Option DeckId) (i : Item) : s.Narrows (s.recue d i) := by
  unfold State.recue
  split
  · exact .ite (s.narrows_freeDeck _) (s.narrows_bindDeck _ _)
  · exact .refl s

theorem State.narrows_resumeDeck (d : DeckId) : s.Narrows (s.resumeDeck d) := by
  unfold State.resumeDeck
  refine .ite ?_ (.refl s)
  have resumed := s.narrows_setDeck d (s.sq.resumed (s.deck d))
  dsimp only
  split
  · exact .ite (resumed.trans {}) resumed
  · exact resumed

theorem State.narrows_startSequence : s.Narrows s.startSequence :=
  (((s.narrows_resumeDeck .a).trans (State.narrows_resumeDeck _ .b)).trans (State.narrows_setSq_same _)).trans
    (State.narrows_review _ false)

theorem State.narrows_skipPlaying {d : DeckId} {x : Item} {rest : List Item} (list : s.sq.list = x :: rest) :
    s.Narrows (s.skipPlaying d x rest) := by
  have shortened : ∀ n, s.Narrows (s.setSq { s.sq with
      list := { x with length := some n, segue := min x.segue n, skipped := true } :: rest }) := fun n =>
    { ids := by simp [Sequencer.ids, list, List.Subperm.refl], list := by simp [list] }
  have fades := ((shortened ((s.deck d).position + x.fadeOut)).trans
    (State.narrows_setDeck _ d { s.deck d with fadeTaken := true })).trans (State.frames_updEntry _ d.source (·.fadeOut x.fadeOut)).narrows
  exact .ite (.refl s) (.ite (fades.trans (State.narrows_takeHeadPoint _ d)) fades)

theorem State.narrows_skipWaiting (x : Item) : s.Narrows (s.skipWaiting x) := by
  unfold State.skipWaiting
  dsimp only
  split
  · exact (((s.narrows_addDone _).trans (State.narrows_freeDeck _ _)).trans (State.narrows_dropHead _)).trans
      (State.narrows_review _ false)
  · exact ((s.narrows_addDone _).trans (State.narrows_dropHead _)).trans (State.narrows_review _ false)

theorem State.narrows_continueSequence : s.Narrows s.continueSequence := by
  unfold State.continueSequence
  dsimp only
  split
  · exact (((s.narrows_addDone _).trans (State.narrows_dropHead _)).trans (State.narrows_setSq_same _)).trans
      (State.narrows_review _ false)
  · exact s.narrows_setSq_same.trans (State.narrows_review _ false)

end

/-! ### Items that come -/

theorem storeItem_id (id : Nat) (kind : ItemKind) (len segue : Option Nat) (fadeIn fadeOut gain : Nat) :
    (storeItem id kind len segue fadeIn fadeOut gain).id = id := by
  cases kind <;> rfl

/-- What the checks of SEQ-APPEND and SEQ-INSERT let pass (R28, R29): room in the list, and an id of no item. -/
theorem State.itemChecks_ok {s : State} {b : ItemBytes} {i : Item} (h : s.itemChecks b = .ok i) :
    s.sq.list.length < 32 ∧ i.id ∉ s.sq.ids := by
  unfold State.itemChecks at h
  split at h
  · cases h
  split at h
  · cases h
  split at h
  · cases h
  rename_i room
  split at h
  · cases h
  rename_i fresh
  cases h
  rw [storeItem_id]
  refine ⟨by simpa [Config.sequenceMax] using room, fun there => fresh ?_⟩
  obtain ⟨x, mem, same⟩ := List.mem_map.mp there
  exact List.find?_isSome.mpr ⟨x, mem, by simpa using same⟩

/-- An insertion brings its item where the item it names stands, and nothing otherwise. -/
theorem insertAfter_perm {id : Nat} {l : List Item} (there : l.any (·.id = id) = true) (i : Item) :
    (insertAfter id i l).Perm (i :: l) := by
  induction l with
  | nil => exact nomatch there
  | cons x xs ih =>
    unfold insertAfter
    split
    · exact .swap i x xs
    · rename_i other
      have there : xs.any (·.id = id) = true := by simpa [other] using there
      exact ((ih there).cons x).trans (.swap i x xs)

theorem insertAfter_of_not_there {id : Nat} {l : List Item} (there : l.any (·.id = id) = false) (i : Item) :
    insertAfter id i l = l := by
  induction l with
  | nil => rfl
  | cons x xs ih =>
    simp only [List.any_cons, Bool.or_eq_false_iff, decide_eq_false_iff_not] at there
    unfold insertAfter
    rw [if_neg there.1, ih there.2]

/-- A law that every change keeps that brings no item, with what the two requests that bring one keep of it. -/
structure NarrowLaw where
  holds : State → Prop
  narrow : ∀ {s t}, holds s → s.Narrows t → holds t
  push : ∀ {s}, holds s → ∀ {i : Item}, s.sq.list.length < 32 → i.id ∉ s.sq.ids →
    ∀ {l : List Item}, l.Perm (i :: s.sq.list) → holds (s.setSq { s.sq with list := l })

theorem NarrowLaw.append (W : NarrowLaw) {s : State} (h : W.holds s) {b : ItemBytes} {i : Item} (ok : s.itemChecks b = .ok i) :
    W.holds (s.setSq { s.sq with list := s.sq.list ++ [i] }) := by
  obtain ⟨room, fresh⟩ := State.itemChecks_ok ok
  exact W.push h room fresh (List.perm_append_singleton i s.sq.list)

theorem NarrowLaw.insert (W : NarrowLaw) {s : State} (h : W.holds s) {b : ItemBytes} {i : Item} (ok : s.itemChecks b = .ok i)
    (id : Nat) : W.holds (s.setSq { s.sq with list := insertAfter id i s.sq.list }) := by
  obtain ⟨room, fresh⟩ := State.itemChecks_ok ok
  cases there : s.sq.list.any (·.id = id) with
  | true => exact W.push h room fresh (insertAfter_perm there i)
  | false =>
    rw [insertAfter_of_not_there there]
    exact W.narrow h s.narrows_setSq_same

/-- Such a law is one of every step. -/
def NarrowLaw.law (W : NarrowLaw) : StepLaw where
  holds := W.holds
  within := W.holds
  relax h := h
  frame h f := W.narrow h f.narrows
  frameWithin h f := W.narrow h f.narrows
  settleBreak h := W.narrow h (State.narrows_setSq_same _)
  initial h hq hp al tl := W.narrow h
    { ids := by rw [hq]; exact List.nil_subperm
      list := by rw [hq]; exact Nat.zero_le _
      done := fun _ => by rw [hq]; exact Nat.zero_le _
      records := fun _ => by rw [hp]; exact Nat.zero_le _
      al := al
      tl := tl }
  tick h := W.narrow h (State.narrows_setSq_same _)
  pushAlert h := W.narrow h (State.narrows_push _ .alert)
  push h c := W.narrow h (State.narrows_push _ c)
  pop h taker k := W.narrow h (State.narrows_pop _ taker k)
  stop h := W.narrow h (State.narrows_stop _)
  fadeOutPoint h d := W.narrow h (State.narrows_fadeOutPoint _ d)
  seguePoint h := W.narrow h (State.narrows_seguePoint _)
  itemEnd h d := W.narrow h (State.narrows_itemEnd _ d)
  append h _ _ ok := W.narrow (W.append h ok) (State.narrows_review _ false)
  insert h _ _ ok id := W.narrow (W.insert h ok id) ((State.narrows_recue _ _ _).trans (State.narrows_review _ false))
  remove h _ _ _ := W.narrow h ((State.narrows_removeItem _ _).trans (State.narrows_review _ false))
  ready h _ _ := W.narrow h ((State.narrows_setDeck _ _ _).trans (State.narrows_review _ true))
  start h _ := W.narrow h (State.narrows_startSequence _)
  skipPlaying h _ _ _ _ list _ := W.narrow h (State.narrows_skipPlaying _ list)
  skipWaiting h _ _ _ _ _ := W.narrow h (State.narrows_skipWaiting _ _)
  proceed h _ := W.narrow h (State.narrows_continueSequence _)
  readDone h _ _ list := W.narrow h
    { done := fun le => by rw [list, List.length_cons] at le; exact Nat.le_of_succ_le le }

/-! ### The collections within their places (R48, R50, R112, R128, R150, R154) -/

theorem State.collectionsFit_iff (s : State) : s.collectionsFit ↔
    s.ps.records.length ≤ 8 ∧ s.sq.done.length ≤ 8 ∧ s.al.fits ∧ s.tl.fits := by
  unfold State.collectionsFit AlertUnit.fits Link.fits
  tauto

def collectionLaw : NarrowLaw where
  holds := State.collectionsFit
  narrow h n := by
    rw [State.collectionsFit_iff] at *
    obtain ⟨records, done, al, tl⟩ := h
    exact ⟨n.records records, n.done done, n.al al, n.tl tl⟩
  push h _ _ _ _ _ := h

/-- Settles O56: no operation brings a collection out of its place. -/
theorem everyStepKeepsTheCollections : Obligations.EveryStepKeepsTheCollections := collectionLaw.law.kept

/-! ### The sequence within 32 items of distinct ids (R27) -/

def sequenceLaw : NarrowLaw where
  holds := State.sequenceSound
  narrow h n := by
    obtain ⟨length, distinct⟩ := h
    obtain ⟨ids, perm, sub⟩ := n.ids
    exact ⟨n.list.trans length, perm.nodup_iff.mp (distinct.sublist sub)⟩
  push := by
    rintro s ⟨-, distinct⟩ i room fresh l perm
    refine ⟨perm.length_eq.trans_le room, ?_⟩
    have ids : ((l ++ s.sq.tail.toList).map (·.id)).Perm (i.id :: s.sq.ids) := (perm.append_right s.sq.tail.toList).map (·.id)
    exact ids.nodup_iff.mpr (List.nodup_cons.mpr ⟨fresh, distinct⟩)

end Sys2Proof.Machine
end

section
/-! SUPPORT. The decks and the items (R27, R31): what each operation on the sequencer needs in order to keep every deck what its state says,
and that every step keeps it (O57). -/

namespace Sys2Proof.Machine

set_option Elab.async false

/-! ### A deck beside a list and a tail slot -/

/-- A deck record is what its state says, beside a list and a tail slot (R31). -/
def Deck.fits (k : Deck) (list : List Item) (tail : Option Item) : Prop :=
  (k.item = none ↔ k.state = .free) ∧
    (k.state = .free ∨ k.state = .cueing ∨ k.state = .ready → k.position = 0) ∧
    ∀ id, k.item = some id →
      (k.state = .playing → list.head?.map (·.id) = some id) ∧
      (k.state = .tailing → tail.map (·.id) = some id) ∧
      (k.state = .paused → list.head?.map (·.id) = some id ∨ tail.map (·.id) = some id) ∧
      (k.state = .cueing ∨ k.state = .ready → id ∈ list.map (·.id)) ∧
      ∀ i ∈ list ++ tail.toList, i.id = id → i.kind ≠ .live

theorem State.deckBound_iff (s : State) (d : DeckId) : s.deckBound d ↔ (s.sq.deck d).fits s.sq.list s.sq.tail := Iff.rfl

section
variable {k : Deck} {list l : List Item} {tail t : Option Item} {id : Nat}

theorem Deck.fits_initial (list : List Item) (tail : Option Item) : Deck.initial.fits list tail :=
  ⟨⟨fun _ => rfl, fun _ => rfl⟩, fun _ => rfl, nofun⟩

/-- A deck of the same state, item and position. -/
theorem Deck.fits.same (h : k.fits list tail) {j : Deck} (state : j.state = k.state) (item : j.item = k.item)
    (position : j.position = k.position) : j.fits list tail := by
  unfold Deck.fits at *
  rw [state, item, position]; exact h

theorem Deck.fits.free_of_none (h : k.fits list tail) (none : k.item = none) : k.state = .free := h.1.mp none

theorem Deck.fits.item_of_ne_free (h : k.fits list tail) (bound : k.state ≠ .free) : ∃ id, k.item = some id :=
  Option.ne_none_iff_exists'.mp fun none => bound (h.1.mp none)

theorem Deck.fits.head_of_playing (h : k.fits list tail) (item : k.item = some id) (playing : k.state = .playing) :
    ∃ x rest, list = x :: rest ∧ x.id = id := by
  obtain ⟨head, -⟩ := h.2.2 id item
  have head := head playing
  cases list with
  | nil => exact nomatch head
  | cons x rest => exact ⟨x, rest, rfl, by simpa using head⟩

theorem Deck.fits.tail_of_tailing (h : k.fits list tail) (item : k.item = some id) (tailing : k.state = .tailing) :
    tail.map (·.id) = some id := (h.2.2 id item).2.1 tailing

theorem Deck.fits.not_live (h : k.fits list tail) (item : k.item = some id) {i : Item} (there : i ∈ list ++ tail.toList)
    (same : i.id = id) : i.kind ≠ .live := (h.2.2 id item).2.2.2.2 i there same

/-- The item of a deck stands in the list or in the tail slot. -/
theorem Deck.fits.mem_ids (h : k.fits list tail) (item : k.item = some id) : id ∈ (list ++ tail.toList).map (·.id) := by
  obtain ⟨playing, tailing, paused, waiting, -⟩ := h.2.2 id item
  have head : list.head?.map (·.id) = some id → id ∈ (list ++ tail.toList).map (·.id) := fun eq => by
    obtain ⟨x, hx, rfl⟩ := Option.map_eq_some_iff.mp eq
    exact List.mem_map_of_mem (List.mem_append_left _ (List.mem_of_mem_head? hx))
  have slot : tail.map (·.id) = some id → id ∈ (list ++ tail.toList).map (·.id) := fun eq => by
    obtain ⟨x, rfl, rfl⟩ := Option.map_eq_some_iff.mp eq
    simp
  have listed : id ∈ list.map (·.id) → id ∈ (list ++ tail.toList).map (·.id) := fun mem => by
    rw [List.map_append]; exact List.mem_append_left _ mem
  cases st : k.state with
  | free => exact nomatch (h.1.mpr st).symm.trans item
  | cueing => exact listed (waiting (.inl st))
  | ready => exact listed (waiting (.inr st))
  | playing => exact head (playing st)
  | tailing => exact slot (tailing st)
  | paused => exact (paused st).elim head slot

/-- A deck stays what its state says where its item keeps its place, and where no LIVE item takes the id. -/
theorem Deck.fits.mono (h : k.fits list tail)
    (head : ∀ id, k.item = some id → list.head?.map (·.id) = some id → l.head?.map (·.id) = some id)
    (slot : ∀ id, k.item = some id → tail.map (·.id) = some id → t.map (·.id) = some id)
    (listed : ∀ id, k.item = some id → id ∈ list.map (·.id) → id ∈ l.map (·.id))
    (kept : ∀ id, k.item = some id → ∀ i ∈ l ++ t.toList, i.id = id →
      ∃ j ∈ list ++ tail.toList, j.id = id ∧ j.kind = i.kind) : k.fits l t := by
  refine ⟨h.1, h.2.1, fun id item => ?_⟩
  obtain ⟨playing, tailing, paused, waiting, kind⟩ := h.2.2 id item
  refine ⟨fun st => head id item (playing st), fun st => slot id item (tailing st),
    fun st => (paused st).imp (head id item) (slot id item), fun st => listed id item (waiting st), fun i there same => ?_⟩
  obtain ⟨j, mem, eq, jk⟩ := kept id item i there same
  exact jk ▸ kind j mem eq

/-- A deck that leaves a waiting state keeps what its item is. -/
theorem Deck.fits.restate (h : k.fits list tail) (item : k.item = some id) {j : Deck} (same : j.item = some id)
    (bound : j.state ≠ .free) (position : j.state = .cueing ∨ j.state = .ready → j.position = 0)
    (playing : j.state = .playing → list.head?.map (·.id) = some id) (tailing : j.state = .tailing → tail.map (·.id) = some id)
    (paused : j.state = .paused → list.head?.map (·.id) = some id ∨ tail.map (·.id) = some id)
    (waiting : j.state = .cueing ∨ j.state = .ready → id ∈ list.map (·.id)) : j.fits list tail := by
  refine ⟨⟨fun none => (nomatch none.symm.trans same), fun free => absurd free bound⟩, fun st => position (st.resolve_left bound),
    fun id' item' => ?_⟩
  cases Option.some.inj (same.symm.trans item')
  exact ⟨playing, tailing, paused, waiting, fun i there eq => h.not_live item there eq⟩

theorem Deck.fits.pause (h : k.fits list tail) : k.pause.fits list tail := by
  unfold Deck.pause
  split
  · rename_i run
    have run := Deck.run_iff.mp run
    obtain ⟨id, item⟩ := h.item_of_ne_free (by rcases run with st | st <;> rw [st] <;> nofun)
    obtain ⟨playing, tailing, -⟩ := h.2.2 id item
    exact h.restate item item nofun (by simp) nofun nofun (fun _ => run.imp playing tailing) (by simp)
  · exact h

theorem Deck.fits.tick (h : k.fits list tail) : k.tick.fits list tail := by
  unfold Deck.tick
  split
  · rename_i run
    refine ⟨h.1, fun st => ?_, h.2.2⟩
    rcases Deck.run_iff.mp run with run | run <;> (dsimp only at st; rw [run] at st; simp at st)
  · exact h

end

/-! ### The decks of a sequencer, with what the stack has saved of it -/

/-- The items and the decks of a sequencer, with the sequencer states that the records on the stack saved, newest first: what
`State.decksSound` says (R27, R31, R40, R46). -/
structure Sequencer.Sound (q : Sequencer) (saved : List SeqState) : Prop where
  length : q.list.length ≤ 32
  distinct : q.ids.Nodup
  fits : ∀ d, (q.deck d).fits q.list q.tail
  apart : ∀ d id, (q.deck d).item = some id → (q.deck d.other).item ≠ some id
  tail : ∀ i, q.tail = some i → ∃ d, (q.deck d).item = some i.id
  empty : q.state = .running ∨ q.state = .halted → saved = []
  live : q.state = .halted ∨ saved.getLast? = some .halted → ∃ h, q.list.head? = some h ∧ h.kind = .live
  above : ∀ st ∈ saved.dropLast, st = .stopped ∨ st = .preempted

/-- The sequencer states that the records on the stack saved. -/
def State.saved (s : State) : List SeqState := s.ps.records.map (·.seqState)

theorem DeckId.eq_or_other (d e : DeckId) : e = d ∨ e = d.other := by cases d <;> cases e <;> simp [DeckId.other]

theorem DeckId.other_other (d : DeckId) : d.other.other = d := by cases d <;> rfl

theorem Sequencer.deck_setDeck_other (q : Sequencer) (d : DeckId) (k : Deck) : (q.setDeck d k).deck d.other = q.deck d.other := by
  cases d <;> rfl

theorem State.decksSound_iff (s : State) : s.decksSound ↔ s.sq.Sound s.saved := by
  have bottom : s.saved.getLast? = s.ps.records.getLast?.map (·.seqState) := by simp [State.saved]
  have rest : s.saved.dropLast = s.ps.records.dropLast.map (·.seqState) := by simp [State.saved, List.map_dropLast]
  have none : s.saved = [] ↔ s.ps.records = [] := by simp [State.saved]
  constructor
  · rintro ⟨⟨length, distinct⟩, fits, apart, tail, empty, live, above⟩
    refine ⟨length, distinct, fits, fun d id here there => ?_, fun i there => ?_, fun st => none.mpr (empty st), ?_, ?_⟩
    · cases d with
      | a => exact apart id ⟨here, there⟩
      | b => exact apart id ⟨there, here⟩
    · exact (tail i there).elim (fun h => ⟨.a, h⟩) fun h => ⟨.b, h⟩
    · rw [bottom]; exact live
    · rw [rest]
      intro st mem
      obtain ⟨r, hr, rfl⟩ := List.mem_map.mp mem
      exact above r hr
  · intro h
    refine ⟨⟨h.length, h.distinct⟩, h.fits, fun id both => h.apart .a id both.1 both.2, fun i there => ?_,
      fun st => none.mp (h.empty st), ?_, fun r hr => h.above _ ?_⟩
    · obtain ⟨d, item⟩ := h.tail i there
      cases d with
      | a => exact .inl item
      | b => exact .inr item
    · rw [← bottom]; exact h.live
    · rw [rest]; exact List.mem_map_of_mem hr

section
variable {q : Sequencer} {saved : List SeqState} {d : DeckId} {id : Nat}

/-- A sequencer with the same list, tail slot and state, and with decks of the same state, item and position. -/
structure Sequencer.Same (q r : Sequencer) : Prop where
  list : r.list = q.list := by rfl
  tail : r.tail = q.tail := by rfl
  state : r.state = q.state := by rfl
  deck : ∀ d, (r.deck d).state = (q.deck d).state ∧ (r.deck d).item = (q.deck d).item ∧ (r.deck d).position = (q.deck d).position :=
    by exact fun d => by cases d <;> exact ⟨rfl, rfl, rfl⟩

namespace Sequencer.Sound

theorem same (h : q.Sound saved) {r : Sequencer} (eq : q.Same r) : r.Sound saved where
  length := by rw [eq.list]; exact h.length
  distinct := by unfold Sequencer.ids; rw [eq.list, eq.tail]; exact h.distinct
  fits d := by
    obtain ⟨state, item, position⟩ := eq.deck d
    rw [eq.list, eq.tail]; exact (h.fits d).same state item position
  apart d id := by rw [(eq.deck d).2.1, (eq.deck d.other).2.1]; exact h.apart d id
  tail i there := by
    rw [eq.tail] at there
    obtain ⟨d, item⟩ := h.tail i there
    exact ⟨d, (eq.deck d).2.1.trans item⟩
  empty := by rw [eq.state]; exact h.empty
  live := by rw [eq.state, eq.list]; exact h.live
  above := h.above

/-- The item of a deck is on no other. -/
theorem only (h : q.Sound saved) (item : (q.deck d).item = some id) {e : DeckId} (there : (q.deck e).item = some id) : e = d := by
  rcases DeckId.eq_or_other d e with rfl | rfl
  · rfl
  · exact absurd there (h.apart d id item)

/-- The id of the tail slot is none of the list. -/
theorem tail_not_listed (h : q.Sound saved) {i x : Item} (tail : q.tail = some i) (mem : x ∈ q.list) : x.id ≠ i.id := by
  have distinct := h.distinct
  unfold Sequencer.ids at distinct
  rw [tail, List.map_append] at distinct
  exact fun eq => (List.disjoint_of_nodup_append distinct) (List.mem_map_of_mem mem) (by simp [eq])

/-- A deck replaced by one with the same item. -/
theorem setDeck (h : q.Sound saved) {k : Deck} (item : k.item = (q.deck d).item) (fits : k.fits q.list q.tail) :
    (q.setDeck d k).Sound saved := by
  have items : ∀ e, ((q.setDeck d k).deck e).item = (q.deck e).item := fun e => by
    rcases DeckId.eq_or_other d e with rfl | rfl
    · rw [Sequencer.deck_setDeck_self, item]
    · rw [Sequencer.deck_setDeck_other]
  refine ⟨by simpa using h.length, by simpa [Sequencer.ids] using h.distinct, fun e => ?_, fun e id => ?_, fun i there => ?_,
    by simpa using h.empty, by simpa using h.live, h.above⟩
  · rw [Sequencer.setDeck_list, Sequencer.setDeck_tail]
    rcases DeckId.eq_or_other d e with rfl | rfl
    · rw [Sequencer.deck_setDeck_self]; exact fits
    · rw [Sequencer.deck_setDeck_other]; exact h.fits _
  · rw [items, items]; exact h.apart e id
  · rw [Sequencer.setDeck_tail] at there
    obtain ⟨e, eq⟩ := h.tail i there
    exact ⟨e, (items e).trans eq⟩

/-- A deck that does not hold the item of the tail slot is freed. -/
theorem setFree (h : q.Sound saved) (waiting : ∀ i, q.tail = some i → (q.deck d).item ≠ some i.id) :
    (q.setDeck d .initial).Sound saved := by
  refine ⟨by simpa using h.length, by simpa [Sequencer.ids] using h.distinct, fun e => ?_, fun e id item other => ?_, fun i there => ?_,
    by simpa using h.empty, by simpa using h.live, h.above⟩
  · rw [Sequencer.setDeck_list, Sequencer.setDeck_tail]
    rcases DeckId.eq_or_other d e with rfl | rfl
    · rw [Sequencer.deck_setDeck_self]; exact Deck.fits_initial _ _
    · rw [Sequencer.deck_setDeck_other]; exact h.fits _
  · rcases DeckId.eq_or_other d e with rfl | rfl
    · rw [Sequencer.deck_setDeck_self] at item; exact nomatch item
    · rw [DeckId.other_other, Sequencer.deck_setDeck_self] at other; exact nomatch other
  · rw [Sequencer.setDeck_tail] at there
    obtain ⟨e, item⟩ := h.tail i there
    rcases DeckId.eq_or_other d e with rfl | rfl
    · exact absurd item (waiting i there)
    · exact ⟨d.other, by rw [Sequencer.deck_setDeck_other]; exact item⟩

/-- A deck that does not hold the item of the tail slot is bound to an item of the list that is not LIVE and on no deck. -/
theorem bind (h : q.Sound saved) (waiting : ∀ i, q.tail = some i → (q.deck d).item ≠ some i.id) {i : Item} (there : i ∈ q.list)
    (kind : i.kind ≠ .live) (unbound : ∀ e, (q.deck e).item ≠ some i.id) :
    (q.setDeck d { Deck.initial with state := .cueing, item := some i.id }).Sound saved := by
  have unique : ∀ x ∈ q.list ++ q.tail.toList, x.id = i.id → x = i := fun x mem eq =>
    List.inj_on_of_nodup_map h.distinct mem (List.mem_append_left _ there) eq
  refine ⟨by simpa using h.length, by simpa [Sequencer.ids] using h.distinct, fun e => ?_, fun e id item other => ?_, fun x slot => ?_,
    by simpa using h.empty, by simpa using h.live, h.above⟩
  · rw [Sequencer.setDeck_list, Sequencer.setDeck_tail]
    rcases DeckId.eq_or_other d e with rfl | rfl
    · rw [Sequencer.deck_setDeck_self]
      refine ⟨⟨nofun, nofun⟩, fun _ => rfl, fun id item => ?_⟩
      cases item
      exact ⟨nofun, nofun, nofun, fun _ => List.mem_map_of_mem there, fun x mem eq => unique x mem eq ▸ kind⟩
    · rw [Sequencer.deck_setDeck_other]; exact h.fits _
  · rcases DeckId.eq_or_other d e with rfl | rfl
    · rw [Sequencer.deck_setDeck_self] at item
      rw [Sequencer.deck_setDeck_other] at other
      cases item
      exact unbound _ other
    · rw [Sequencer.deck_setDeck_other] at item
      rw [DeckId.other_other, Sequencer.deck_setDeck_self] at other
      cases other
      exact unbound _ item
  · rw [Sequencer.setDeck_tail] at slot
    obtain ⟨e, item⟩ := h.tail x slot
    rcases DeckId.eq_or_other d e with rfl | rfl
    · exact absurd item (waiting x slot)
    · exact ⟨d.other, by rw [Sequencer.deck_setDeck_other]; exact item⟩

/-- The sequencer enters a state: RUNNING or HALTED with an empty stack alone, HALTED with a LIVE head alone (R40, R46). -/
theorem setState (h : q.Sound saved) {st : SeqState} (empty : st = .running ∨ st = .halted → saved = [])
    (live : st = .halted → ∃ x, q.list.head? = some x ∧ x.kind = .live) : ({ q with state := st } : Sequencer).Sound saved where
  length := h.length
  distinct := h.distinct
  fits d := by cases d with
    | a => exact h.fits .a
    | b => exact h.fits .b
  apart d := by cases d with
    | a => exact h.apart .a
    | b => exact h.apart .b
  tail := h.tail
  empty := empty
  live halted := halted.elim live fun bottom => h.live (.inr bottom)
  above := h.above

/-- Nothing in the record of a halt, nor a halt itself, with the head on a deck: a deck holds no LIVE item. -/
theorem not_halted (h : q.Sound saved) {x : Item} {rest : List Item} (list : q.list = x :: rest)
    (item : (q.deck d).item = some x.id) : ¬ (q.state = .halted ∨ saved.getLast? = some .halted) := fun halted => by
  obtain ⟨y, head, live⟩ := h.live halted
  rw [list] at head
  cases head
  exact (h.fits d).not_live item (by simp [list]) rfl live

/-- Another list under the same decks: the items of the decks keep their places, and no LIVE item takes their ids. -/
theorem relist (h : q.Sound saved) {l : List Item} (length : l.length ≤ 32) (distinct : ((l ++ q.tail.toList).map (·.id)).Nodup)
    (head : ∀ d id, (q.deck d).item = some id → q.list.head?.map (·.id) = some id → l.head?.map (·.id) = some id)
    (listed : ∀ d id, (q.deck d).item = some id → id ∈ q.list.map (·.id) → id ∈ l.map (·.id))
    (kept : ∀ d id, (q.deck d).item = some id → ∀ i ∈ l, i.id = id → ∃ j ∈ q.list, j.id = id ∧ j.kind = i.kind)
    (live : q.state = .halted ∨ saved.getLast? = some .halted → ∃ x, l.head? = some x ∧ x.kind = .live) :
    ({ q with list := l } : Sequencer).Sound saved := by
  have fits : ∀ d, (q.deck d).fits l q.tail := fun d => by
    refine (h.fits d).mono (head d) (fun _ _ slot => slot) (listed d) fun id item i mem eq => ?_
    rcases List.mem_append.mp mem with mem | mem
    · obtain ⟨j, there, same, kind⟩ := kept d id item i mem eq
      exact ⟨j, List.mem_append_left _ there, same, kind⟩
    · exact ⟨i, List.mem_append_right _ mem, eq, rfl⟩
  refine ⟨length, distinct, fun d => ?_, fun d => ?_, h.tail, h.empty, live, h.above⟩
  · cases d with
    | a => exact fits .a
    | b => exact fits .b
  · cases d with
    | a => exact h.apart .a
    | b => exact h.apart .b

/-- The head leaves the list, on no deck, with no halt that needs it. -/
theorem dropHead (h : q.Sound saved) {x : Item} {rest : List Item} (list : q.list = x :: rest)
    (unbound : ∀ d, (q.deck d).item ≠ some x.id) (going : ¬ (q.state = .halted ∨ saved.getLast? = some .halted)) :
    ({ q with list := rest } : Sequencer).Sound saved := by
  have length := h.length
  have distinct := h.distinct
  unfold Sequencer.ids at distinct
  rw [list, List.cons_append, List.map_cons] at distinct
  rw [list, List.length_cons] at length
  refine h.relist (Nat.le_of_succ_le length) (List.nodup_cons.mp distinct).2 (fun d id item head => ?_) (fun d id item mem => ?_)
    (fun d id item i mem eq => ⟨i, by rw [list]; exact List.mem_cons_of_mem _ mem, eq, rfl⟩) fun halted => absurd halted going
  · rw [list] at head
    cases head
    exact absurd item (unbound d)
  · rw [list, List.map_cons] at mem
    exact (List.mem_cons.mp mem).resolve_left fun eq => unbound d (eq ▸ item)

/-- An item that is not the head leaves the list, on no deck. -/
theorem filter (h : q.Sound saved) (unbound : ∀ d, (q.deck d).item ≠ some id) (behind : q.list.head?.map (·.id) ≠ some id) :
    ({ q with list := q.list.filter (·.id ≠ id) } : Sequencer).Sound saved := by
  have head : ∀ x, q.list.head? = some x → (q.list.filter (·.id ≠ id)).head? = some x := fun x hx => by
    cases list : q.list with
    | nil => rw [list] at hx; exact nomatch hx
    | cons y ys =>
      rw [list] at hx behind
      cases hx
      have ne : x.id ≠ id := fun eq => behind (by simp [eq])
      simp [ne]
  refine h.relist ((List.length_filter_le ..).trans h.length) (h.distinct.sublist ((List.filter_sublist.append_right _).map _))
    (fun d id' _ eq => ?_) (fun d id' item mem => ?_) (fun d id' _ i mem eq => ⟨i, (List.mem_filter.mp mem).1, eq, rfl⟩) fun halted => ?_
  · obtain ⟨x, hx, rfl⟩ := Option.map_eq_some_iff.mp eq
    rw [head x hx]; rfl
  · obtain ⟨x, hx, rfl⟩ := List.mem_map.mp mem
    exact List.mem_map_of_mem (List.mem_filter.mpr ⟨hx, decide_eq_true fun eq => unbound d (eq ▸ item)⟩)
  · obtain ⟨x, hx, live⟩ := h.live halted
    exact ⟨x, head x hx, live⟩

/-- An item of a new id comes into the list, behind the head where there is one (R28, R29). -/
theorem bring (h : q.Sound saved) {i : Item} (room : q.list.length < 32) (fresh : i.id ∉ q.ids) {l : List Item}
    (perm : l.Perm (i :: q.list)) (head : ∀ x, q.list.head? = some x → l.head? = some x) :
    ({ q with list := l } : Sequencer).Sound saved := by
  have ids : ((l ++ q.tail.toList).map (·.id)).Perm (i.id :: q.ids) := (perm.append_right q.tail.toList).map (·.id)
  refine h.relist (perm.length_eq.trans_le room) (ids.nodup_iff.mpr (List.nodup_cons.mpr ⟨fresh, h.distinct⟩)) (fun d id _ eq => ?_)
    (fun d id _ mem => ?_) (fun d id item x mem eq => ?_) fun halted => ?_
  · obtain ⟨x, hx, rfl⟩ := Option.map_eq_some_iff.mp eq
    rw [head x hx]; rfl
  · exact (perm.map (·.id)).mem_iff.mpr (List.mem_cons_of_mem _ mem)
  · rcases List.mem_cons.mp (perm.mem_iff.mp mem) with rfl | mem
    · exact absurd (eq ▸ (h.fits d).mem_ids item) fresh
    · exact ⟨x, mem, eq, rfl⟩
  · obtain ⟨x, hx, live⟩ := h.live halted
    exact ⟨x, head x hx, live⟩

/-- The head replaced by an item of the same id and kind. -/
theorem replaceHead (h : q.Sound saved) {x y : Item} {rest : List Item} (list : q.list = x :: rest) (same : y.id = x.id)
    (kind : y.kind = x.kind) : ({ q with list := y :: rest } : Sequencer).Sound saved := by
  have ids : (y :: rest).map (·.id) = q.list.map (·.id) := by rw [list, List.map_cons, List.map_cons, same]
  refine h.relist ?_ ?_ (fun d id _ eq => ?_) (fun d id _ mem => ids ▸ mem) (fun d id _ i mem eq => ?_) fun halted => ?_
  · have := h.length
    rwa [list] at this
  · rw [List.map_append, ids, ← List.map_append]; exact h.distinct
  · rw [list] at eq
    simpa [same] using eq
  · rw [list]
    rcases List.mem_cons.mp mem with rfl | mem
    · exact ⟨x, List.mem_cons_self, same.symm.trans eq, kind.symm⟩
    · exact ⟨i, List.mem_cons_of_mem _ mem, eq, rfl⟩
  · obtain ⟨z, hz, live⟩ := h.live halted
    rw [list] at hz
    cases hz
    exact ⟨y, rfl, kind.trans live⟩

/-- The item of the tail slot leaves it with its deck. -/
theorem endTail (h : q.Sound saved) {i : Item} (tail : q.tail = some i) (item : (q.deck d).item = some i.id) :
    ({ q.setDeck d .initial with tail := none } : Sequencer).Sound saved := by
  have other : ((q.deck d.other)).fits q.list none := by
    refine (h.fits _).mono (fun _ _ head => head) (fun id there slot => ?_) (fun _ _ mem => mem) fun id _ x mem eq =>
      ⟨x, List.mem_append_left _ (by simpa using mem), eq, rfl⟩
    rw [tail] at slot
    cases slot
    exact absurd there (h.apart d _ item)
  have decks : ∀ e, ({ q.setDeck d .initial with tail := none } : Sequencer).deck e = (q.setDeck d .initial).deck e :=
    fun e => by cases e <;> rfl
  refine ⟨by simpa using h.length, ?_, fun e => ?_, fun e id here there => ?_, nofun, by simpa using h.empty, by simpa using h.live, h.above⟩
  · have := h.distinct
    unfold Sequencer.ids at *
    rw [List.map_append] at this
    simpa using (List.nodup_append.mp this).1
  · rw [decks]
    show Deck.fits _ (q.setDeck d .initial).list none
    rw [Sequencer.setDeck_list]
    rcases DeckId.eq_or_other d e with rfl | rfl
    · rw [Sequencer.deck_setDeck_self]; exact Deck.fits_initial _ _
    · rw [Sequencer.deck_setDeck_other]; exact other
  · rw [decks] at here there
    rcases DeckId.eq_or_other d e with rfl | rfl
    · rw [Sequencer.deck_setDeck_self] at here; exact nomatch here
    · rw [DeckId.other_other, Sequencer.deck_setDeck_self] at there; exact nomatch there

end Sequencer.Sound

end

end Sys2Proof.Machine
end

section
/-! SUPPORT. Every operation on the sequencer and the stack keeps the decks sound (O57). -/

namespace Sys2Proof.Machine

set_option Elab.async false

/-! ### What the sequencer finds -/

section
variable {q : Sequencer} {d : DeckId} {id : Nat}

theorem Sequencer.item_of_boundDeck (h : q.boundDeck id = some d) : (q.deck d).item = some id := by
  unfold Sequencer.boundDeck at h
  split at h
  · cases h; assumption
  · split at h
    · cases h; assumption
    · cases h

theorem Sequencer.unbound_of_boundDeck (h : q.boundDeck id = none) (e : DeckId) : (q.deck e).item ≠ some id := by
  unfold Sequencer.boundDeck at h
  split at h
  · cases h
  · split at h
    · cases h
    · cases e <;> assumption

theorem Sequencer.state_of_playing (h : q.playing = some d) : (q.deck d).state = .playing := by
  unfold Sequencer.playing at h
  split at h
  · cases h; assumption
  · split at h
    · cases h; assumption
    · cases h

theorem Sequencer.state_of_freeDeck (h : q.freeDeck = some d) : (q.deck d).state = .free := by
  unfold Sequencer.freeDeck at h
  split at h
  · cases h; assumption
  · split at h
    · cases h; assumption
    · cases h

theorem Sequencer.id_of_itemOn {i : Item} (h : q.itemOn d = some i) : (q.deck d).item = some i.id := by
  obtain ⟨id, bound, found⟩ := Option.bind_eq_some_iff.mp h
  have same : i.id = id := by simpa using List.find?_some found
  rw [bound, same]

theorem Sequencer.cueable_iff (i : Item) : q.cueable i = true ↔ i.kind ≠ .live ∧ q.boundDeck i.id = none := by
  simp [Sequencer.cueable]

/-- A cue candidate is an item of the list, not LIVE, and on no deck (R33). -/
theorem Sequencer.cueCandidate_spec (h : q.cueCandidate = some id) :
    ∃ i ∈ q.list, i.id = id ∧ i.kind ≠ .live ∧ ∀ e, (q.deck e).item ≠ some i.id := by
  have found : ∀ i, q.cueable i = true → i.kind ≠ .live ∧ ∀ e, (q.deck e).item ≠ some i.id := fun i cueable =>
    ⟨((Sequencer.cueable_iff i).mp cueable).1, Sequencer.unbound_of_boundDeck ((Sequencer.cueable_iff i).mp cueable).2⟩
  unfold Sequencer.cueCandidate at h
  split at h
  · cases h
  · rename_i x rest list
    split at h
    · rename_i cueable
      cases h
      exact ⟨x, by simp [list], rfl, found x cueable⟩
    · split at h
      · cases h
      · rename_i y rest'
        split at h
        · rename_i cueable
          cases h
          exact ⟨y, by simp [list], rfl, found y cueable⟩
        · cases h

theorem Deck.pause_item (k : Deck) : k.pause.item = k.item := by
  unfold Deck.pause; split <;> rfl

theorem Deck.tick_item (k : Deck) : k.tick.item = k.item := by
  unfold Deck.tick; split <;> rfl

theorem Sequencer.resumed_item (q : Sequencer) (k : Deck) : (q.resumed k).item = k.item := by
  unfold Sequencer.resumed
  (repeat' split) <;> rfl

theorem Deck.fits.resumed {k : Deck} (h : k.fits q.list q.tail) : (q.resumed k).fits q.list q.tail := by
  unfold Sequencer.resumed
  split
  · rename_i paused
    obtain ⟨id, item⟩ := h.item_of_ne_free (by rw [paused]; nofun)
    split
    · rename_i head
      have head := ((Bool.and_eq_true _ _).mp head).2
      have head : q.list.head?.map (·.id) = some id := by simpa [item] using (of_decide_eq_true head).symm
      exact h.restate item item nofun (by simp) (fun _ => head) nofun nofun (by simp)
    · split
      · rename_i slot
        have slot := ((Bool.and_eq_true _ _).mp slot).2
        have slot : q.tail.map (·.id) = some id := by simpa [item] using (of_decide_eq_true slot).symm
        exact h.restate item item nofun (by simp) nofun (fun _ => slot) nofun (by simp)
      · exact h
  · exact h

end

/-! ### Pauses, starts, pushes and pops of a sequencer -/

namespace Sequencer.Sound

section
variable {q : Sequencer} {saved : List SeqState} {d : DeckId} {id : Nat}

/-- Both decks replaced by decks with the same items. -/
theorem setDecks (h : q.Sound saved) {a b : Deck} (itemA : a.item = q.deckA.item) (itemB : b.item = q.deckB.item)
    (fitsA : a.fits q.list q.tail) (fitsB : b.fits q.list q.tail) : ({ q with deckA := a, deckB := b } : Sequencer).Sound saved :=
  (h.setDeck (d := .a) itemA fitsA).setDeck (d := .b) itemB fitsB

theorem pause (h : q.Sound saved) : ({ q with deckA := q.deckA.pause, deckB := q.deckB.pause } : Sequencer).Sound saved :=
  h.setDecks (Deck.pause_item _) (Deck.pause_item _) (h.fits .a).pause (h.fits .b).pause

theorem tick (h : q.Sound saved) : q.tick.Sound saved :=
  h.setDecks (Deck.tick_item _) (Deck.tick_item _) (h.fits .a).tick (h.fits .b).tick

/-- An item of the list is not that of the tail slot. -/
theorem waiting_of_listed (h : q.Sound saved) {x : Item} (mem : x ∈ q.list) (item : (q.deck d).item = some x.id) :
    ∀ i, q.tail = some i → (q.deck d).item ≠ some i.id := fun _ slot same =>
  h.tail_not_listed slot mem (Option.some.inj (item.symm.trans same))

/-- A deck that waits for its item's start holds no item of the tail slot. -/
theorem waiting (h : q.Sound saved) (st : (q.deck d).state = .cueing ∨ (q.deck d).state = .ready) :
    ∀ i, q.tail = some i → (q.deck d).item ≠ some i.id := fun i slot same => by
  obtain ⟨-, -, -, listed, -⟩ := (h.fits d).2.2 _ same
  obtain ⟨x, mem, eq⟩ := List.mem_map.mp (listed st)
  exact h.tail_not_listed slot mem eq

theorem not_halted_of_running (h : q.Sound saved) (running : q.state = .running) :
    ¬ (q.state = .halted ∨ saved.getLast? = some .halted) := by
  rintro (halted | bottom)
  · exact nomatch running.symm.trans halted
  · rw [h.empty (.inl running)] at bottom
    exact nomatch bottom

/-- The deck of the head is freed with the head leaving the list. -/
theorem endHead (h : q.Sound saved) {x : Item} {rest : List Item} (list : q.list = x :: rest) (item : (q.deck d).item = some x.id)
    : ({ q.setDeck d .initial with list := rest } : Sequencer).Sound saved := by
  have going := h.not_halted list item
  have freed := h.setFree (h.waiting_of_listed (by simp [list]) item)
  refine freed.dropHead ((Sequencer.setDeck_list ..).trans list) (fun e => ?_) (by simpa using going)
  rcases DeckId.eq_or_other d e with rfl | rfl
  · rw [Sequencer.deck_setDeck_self]; nofun
  · rw [Sequencer.deck_setDeck_other]; exact h.apart d _ item

/-- A PLAYING head moves to an empty tail slot with its deck TAILING (R35). -/
theorem headToTail (h : q.Sound saved) (item : (q.deck d).item = some id) {x : Item} {rest : List Item} (list : q.list = x :: rest)
    (head : x.id = id) (tail : q.tail = none) :
    ({ q.setDeck d { q.deck d with state := .tailing } with list := rest, tail := some x } : Sequencer).Sound saved := by
  subst head
  have going := h.not_halted list item
  have moved : (rest ++ [x]).Perm q.list := list ▸ List.perm_append_singleton x rest
  have decks : ∀ e, ({ q.setDeck d { q.deck d with state := .tailing } with list := rest, tail := some x } : Sequencer).deck e =
      (q.setDeck d { q.deck d with state := .tailing }).deck e := fun e => by cases e <;> rfl
  have items : ∀ e, ((q.setDeck d { q.deck d with state := .tailing }).deck e).item = (q.deck e).item := fun e => by
    rcases DeckId.eq_or_other d e with rfl | rfl
    · rw [Sequencer.deck_setDeck_self]
    · rw [Sequencer.deck_setDeck_other]
  have there : ∀ i ∈ rest ++ [x], i ∈ q.list ++ q.tail.toList := fun i mem => List.mem_append_left _ (moved.mem_iff.mp mem)
  refine ⟨?_, ?_, fun e => ?_, fun e id => ?_, fun i slot => ⟨d, ?_⟩, by simpa using h.empty,
    fun halted => absurd (by simpa using halted) going, h.above⟩
  · have := h.length
    rw [list, List.length_cons] at this
    exact Nat.le_of_succ_le this
  · have distinct := h.distinct
    unfold Sequencer.ids at distinct ⊢
    rw [tail, Option.toList_none, List.append_nil] at distinct
    exact (moved.map (·.id)).nodup_iff.mpr distinct
  · rw [decks]
    rcases DeckId.eq_or_other d e with rfl | rfl
    · rw [Sequencer.deck_setDeck_self]
      refine ⟨⟨fun none => (nomatch none.symm.trans item), nofun⟩, by simp, fun id' item' => ?_⟩
      cases Option.some.inj (item.symm.trans item')
      exact ⟨nofun, fun _ => rfl, nofun, by simp, fun i mem eq => (h.fits _).not_live item (there i mem) eq⟩
    · rw [Sequencer.deck_setDeck_other]
      have other : ∀ id', (q.deck d.other).item = some id' → x.id ≠ id' := fun id' there eq => h.apart d _ item (eq ▸ there)
      refine (h.fits _).mono (fun id' bound first => ?_) (fun _ _ slot => ?_) (fun id' bound mem => ?_) fun id' bound i mem eq =>
        ⟨i, there i mem, eq, rfl⟩
      · rw [list] at first
        exact absurd (Option.some.inj first) (other id' bound)
      · rw [tail] at slot; exact nomatch slot
      · rw [list, List.map_cons] at mem
        exact (List.mem_cons.mp mem).resolve_left (other id' bound).symm
  · rw [decks, decks, items, items]; exact h.apart e id
  · cases slot
    rw [decks, items]; exact item


/-- A deck that waits, or stands paused, with the head of a RUNNING sequencer becomes PLAYING (R35). -/
theorem play (h : q.Sound saved) {x : Item} {rest : List Item} (list : q.list = x :: rest) (item : (q.deck d).item = some x.id) {k : Deck}
    (same : k.item = some x.id) (playing : k.state = .playing) : (q.setDeck d k).Sound saved := by
  have fits : k.fits q.list q.tail := (h.fits d).restate item same (by simp [playing]) (by simp [playing]) (fun _ => by simp [list])
    (by simp [playing]) (by simp [playing]) (by simp [playing])
  exact h.setDeck (same.trans item.symm) fits

end

/-! A push -/

/-- The saved sequencer states after a push: at eight records the bottom one is lost (R52). -/
def savedWith (st : SeqState) (saved : List SeqState) : List SeqState :=
  if saved.length < 8 then st :: saved else st :: saved.take 7

section
variable {q : Sequencer} {saved : List SeqState}

/-- Above the bottom of the stack only a stopped or preempted sequencer is saved: a push on a record finds no other (R46). -/
theorem above_savedWith (h : q.Sound saved) : ∀ st ∈ (savedWith q.state saved).dropLast, st = .stopped ∨ st = .preempted := by
  have top : saved ≠ [] → q.state = .stopped ∨ q.state = .preempted := fun stands => by
    cases st : q.state with
    | stopped => exact .inl rfl
    | running => exact absurd (h.empty (.inl st)) stands
    | halted => exact absurd (h.empty (.inr st)) stands
    | preempted => exact .inr rfl
  intro st mem
  unfold savedWith at mem
  split at mem
  · cases saved with
    | nil => exact nomatch mem
    | cons y ys =>
      rw [List.dropLast_cons_of_ne_nil (by simp)] at mem
      rcases List.mem_cons.mp mem with rfl | mem
      · exact top (by simp)
      · exact h.above st mem
  · rename_i full
    rcases List.mem_cons.mp (List.mem_of_mem_dropLast mem) with rfl | mem
    · exact top fun none => full (by simp [none])
    · refine h.above st ?_
      rw [List.dropLast_eq_take]
      exact (List.take_subset_take_left saved (by omega)) mem

/-- A halt that the bottom record of the stack saves after a push was saved there before, or stands. -/
theorem halted_of_savedWith (h : q.Sound saved) (bottom : (savedWith q.state saved).getLast? = some .halted) :
    q.state = .halted ∨ saved.getLast? = some .halted := by
  unfold savedWith at bottom
  split at bottom
  · cases saved with
    | nil => exact .inl (Option.some.inj bottom)
    | cons y ys => exact .inr (by simpa [List.getLast?_cons_cons] using bottom)
  · rename_i full
    have mem : SeqState.halted ∈ saved.take 7 := by
      have some : saved.take 7 ≠ [] := by
        intro none
        have := congrArg List.length none
        rw [List.length_take, List.length_nil] at this
        omega
      obtain ⟨y, ys, eq⟩ := List.exists_cons_of_ne_nil some
      rw [eq, List.getLast?_cons_cons, ← eq] at bottom
      exact List.mem_of_getLast? bottom
    have kept : SeqState.halted ∈ saved.dropLast := by
      rw [List.dropLast_eq_take]
      exact (List.take_subset_take_left saved (by omega)) mem
    rcases h.above _ kept with eq | eq <;> exact nomatch eq

/-- A push saves the sequencer's state and stops or preempts it (R46, R52). -/
theorem push (h : q.Sound saved) {st : SeqState} (quiet : st = .stopped ∨ st = .preempted) :
    ({ q with state := st } : Sequencer).Sound (savedWith q.state saved) where
  length := h.length
  distinct := h.distinct
  fits d := by cases d with
    | a => exact h.fits .a
    | b => exact h.fits .b
  apart d := by cases d with
    | a => exact h.apart .a
    | b => exact h.apart .b
  tail := h.tail
  empty going := by rcases quiet with rfl | rfl <;> simp at going
  live halted := h.live (halted.elim (fun st => by rcases quiet with rfl | rfl <;> exact nomatch st) h.halted_of_savedWith)
  above := h.above_savedWith

end

/-! A pop -/

section
variable {q : Sequencer} {st : SeqState} {saved : List SeqState}

theorem popped (h : q.Sound (st :: saved)) : q.Sound saved where
  length := h.length
  distinct := h.distinct
  fits := h.fits
  apart := h.apart
  tail := h.tail
  empty going := nomatch h.empty going
  live halted := h.live (halted.imp_right fun bottom => by rw [List.getLast?_cons, bottom]; rfl)
  above x mem := by
    cases saved with
    | nil => exact nomatch mem
    | cons y ys => exact h.above x (by rw [List.dropLast_cons_of_ne_nil (by simp)]; exact List.mem_cons_of_mem _ mem)

/-- A record that saved a RUNNING or HALTED sequencer stands alone. -/
theorem alone (h : q.Sound (st :: saved)) (going : st = .running ∨ st = .halted) : saved = [] := by
  cases saved with
  | nil => rfl
  | cons y ys =>
    rcases h.above st (by rw [List.dropLast_cons_of_ne_nil (by simp)]; exact List.mem_cons_self) with rfl | rfl <;> simp at going

theorem live_of_saved (h : q.Sound (st :: saved)) (halted : st = .halted) : ∃ x, q.list.head? = some x ∧ x.kind = .live := by
  have alone := h.alone (.inr halted)
  subst alone halted
  exact h.live (.inr rfl)

theorem not_halted_of_saved (h : q.Sound (st :: saved)) : q.state ≠ .halted := fun halted => nomatch h.empty (.inr halted)

end

end Sequencer.Sound

/-! ### The operations on a state -/

/-- The PLAYING head moved to the tail slot (R35). -/
theorem State.headToTail_eq {s : State} {d : DeckId} (playing : s.sq.playing = some d) {x : Item} {rest : List Item}
    (list : s.sq.list = x :: rest) : s.headToTail = s.setSq { s.sq.setDeck d { s.sq.deck d with state := .tailing } with
      list := rest, tail := some x, segueTaken := false, liveStart := none } := by
  have listed : (s.setDeck d { s.deck d with state := .tailing }).sq.list = x :: rest := (Sequencer.setDeck_list ..).trans list
  unfold State.headToTail
  rw [playing]
  dsimp only [State.dropHead, State.setSq]
  rw [listed]
  rfl

/-- The decks are sound with the sequencer and what the stack has saved of it. -/
def State.soundDecks (s : State) : Prop := s.sq.Sound s.saved

theorem State.saved_add (s : State) (c : Cause) :
    (s.ps.add (s.context c)).records.map (·.seqState) = Sequencer.Sound.savedWith s.sq.state s.saved := by
  unfold Stack.add Sequencer.Sound.savedWith State.saved
  by_cases room : s.ps.records.length < 8
  · simp [Config.stackMax, room, State.context]
  · simp [Config.stackMax, room, State.context, List.map_take]

/-- The deck of a paused head holds the head (R61, R62). -/
theorem State.pausedHead_spec {s : State} {d : DeckId} (h : s.pausedHead = some d) :
    ∃ x rest, s.sq.list = x :: rest ∧ (s.sq.deck d).item = some x.id ∧ (s.sq.deck d).state = .paused := by
  unfold State.pausedHead at h
  split at h
  · exact nomatch h
  · rename_i x rest list
    split at h
    · exact nomatch h
    · rename_i e bound
      split at h
      · rename_i paused
        cases h
        exact ⟨x, rest, list, Sequencer.item_of_boundDeck bound, paused⟩
      · exact nomatch h

/-- A resume kind reaches no record of the stack. -/
theorem State.applyKind_saved (s : State) (k : ResumeKind) : (s.applyKind k).saved = s.saved := by
  have abandoned : ∀ d, (s.abandon d).saved = s.saved := fun d => by
    unfold State.abandon
    split
    · rfl
    · dsimp only; rw [State.addDone_eq]; rfl
  have moved : ∀ d n, (s.reposition d n).saved = s.saved := fun d n => by
    unfold State.reposition
    split
    · rfl
    · rfl
  unfold State.applyKind
  split
  · exact abandoned _
  · exact moved _ _
  · rfl

/-- Only a NEXT takes the head out of the list (R61). -/
theorem State.applyKind_list (s : State) {k : ResumeKind} (stays : k ≠ .next) : (s.applyKind k).sq.list = s.sq.list := by
  have moved : ∀ d n, (s.reposition d n).sq.list = s.sq.list := fun d n => by
    unfold State.reposition
    split
    · rfl
    · exact Sequencer.setDeck_list ..
  unfold State.applyKind
  split
  · exact absurd rfl stays
  · exact moved _ _
  · rfl

/-- A pop takes NEXT as CONTINUE unless it returns to RUNNING (R61). -/
theorem State.applied_ne_next (s : State) {r : Context} (k : ResumeKind) (st : r.seqState ≠ .running) : s.applied r k ≠ .next := by
  unfold State.applied
  split
  · nofun
  · rw [if_neg fun h => st h.1]; nofun
  · split <;> nofun

/-- A released deck waited for the item behind the head it names (R29). -/
theorem State.releasedDeck_spec {s : State} {id : Nat} {d : DeckId} (h : s.releasedDeck id = some d) :
    (∃ x rest, s.sq.list = x :: rest ∧ x.id = id) ∧ ((s.deck d).state = .cueing ∨ (s.deck d).state = .ready) := by
  unfold State.releasedDeck at h
  split at h
  · rename_i x y rest list
    split at h
    · rename_i named
      split at h
      · split at h
        · rename_i e _ waits
          cases h
          exact ⟨⟨x, y :: rest, list, named⟩, waits⟩
        · exact nomatch h
      · exact nomatch h
    · exact nomatch h
  · exact nomatch h

namespace State.soundDecks

variable {s t : State}

theorem frame (h : s.soundDecks) (f : s.Frames t) : t.soundDecks := by
  unfold State.soundDecks State.saved at *
  rw [f.sq, f.ps]; exact h

/-- A sequencer with the same list, tail slot and state, and decks of the same state, item and position. -/
theorem same (h : s.soundDecks) {q : Sequencer} (eq : s.sq.Same q) : (s.setSq q).soundDecks := Sequencer.Sound.same h eq

theorem ite {c : Prop} [Decidable c] (ht : s.soundDecks) (hu : t.soundDecks) : (if c then s else t).soundDecks := by
  split
  · exact ht
  · exact hu

theorem addDone (h : s.soundDecks) (r : DoneRecord) : (s.addDone r).soundDecks := by
  rw [State.addDone_eq]
  exact h.same (q := { s.sq with
    done := (if s.sq.done.length < 8 then s.sq.done else s.sq.done.drop 1) ++ [r]
    doneOverflow := if s.sq.done.length < 8 then s.sq.doneOverflow else countUp s.sq.doneOverflow }) {}

theorem freeDeck (h : s.soundDecks) {d : DeckId} (waiting : ∀ i, s.sq.tail = some i → (s.sq.deck d).item ≠ some i.id) :
    (s.freeDeck d).soundDecks :=
  frame (s := s.setDeck d .initial) (h.setFree waiting) {}

theorem bindDeck (h : s.soundDecks) {d : DeckId} (waiting : ∀ i, s.sq.tail = some i → (s.sq.deck d).item ≠ some i.id) {i : Item}
    (there : i ∈ s.sq.list) (kind : i.kind ≠ .live) (unbound : ∀ e, (s.sq.deck e).item ≠ some i.id) : (s.bindDeck d i.id).soundDecks :=
  frame (s := s.setDeck d { Deck.initial with state := .cueing, item := some i.id }) (h.bind waiting there kind unbound) {}

/-! Cues and the end of an item -/

theorem cueOnce (h : s.soundDecks) : s.cueOnce.soundDecks := by
  unfold State.cueOnce
  split
  · rename_i d id free candidate
    obtain ⟨i, there, rfl, kind, unbound⟩ := Sequencer.cueCandidate_spec candidate
    have none : (s.sq.deck d).item = none := (h.fits d).1.mpr (Sequencer.state_of_freeDeck free)
    exact h.bindDeck (fun _ _ => by rw [none]; nofun) there kind unbound
  · exact h

theorem cue (h : s.soundDecks) : s.cue.soundDecks := h.cueOnce.cueOnce

theorem endItem (h : s.soundDecks) {d : DeckId} (run : (s.deck d).run = true) : (s.endItem d).soundDecks := by
  cases on : s.sq.itemOn d with
  | none =>
    unfold State.endItem
    rw [on]; exact h
  | some i =>
    have item := Sequencer.id_of_itemOn on
    rw [State.endItem_eq on]
    rcases Deck.run_iff.mp run with playing | tailing
    · obtain ⟨x, rest, list, head⟩ := (h.fits d).head_of_playing item playing
      have behind : s.sq.tail.map (·.id) ≠ some i.id := fun slot => by
        obtain ⟨y, tail, same⟩ := Option.map_eq_some_iff.mp slot
        exact h.tail_not_listed tail (x := x) (by simp [list]) (head.trans same.symm)
      rw [if_neg behind]
      have ended := h.endHead list (head ▸ item)
      refine Sequencer.Sound.same ended { list := ?_, tail := ?_, state := ?_, deck := ?_ }
      · show (s.setDeck d Deck.initial).sq.list.drop 1 = rest
        simp [State.setDeck, list]
      · cases d <;> rfl
      · cases d <;> rfl
      · cases d <;> exact fun e => by cases e <;> exact ⟨rfl, rfl, rfl⟩
    · have slot := (h.fits d).tail_of_tailing item tailing
      rw [if_pos slot]
      obtain ⟨y, tail, same⟩ := Option.map_eq_some_iff.mp slot
      have ended := h.endTail tail (same ▸ item)
      refine Sequencer.Sound.same ended { list := ?_, tail := ?_, state := ?_, deck := ?_ }
      · cases d <;> rfl
      · cases d <;> rfl
      · cases d <;> rfl
      · cases d <;> exact fun e => by cases e <;> exact ⟨rfl, rfl, rfl⟩

/-- Two decks hold the head that plays and an item that waits, so that none is left for a tail (R31). -/
theorem tail_of_ready (h : s.soundDecks) {p d : DeckId} (playing : s.sq.playing = some p) (ready : (s.deck d).state = .ready) :
    s.sq.tail = none := by
  have st := Sequencer.state_of_playing playing
  have other : d = p.other := (DeckId.eq_or_other p d).resolve_left fun same => by
    subst same
    exact nomatch st.symm.trans ready
  cases tail : s.sq.tail with
  | none => rfl
  | some i =>
    obtain ⟨e, item⟩ := h.tail i tail
    obtain ⟨x, rest, list, head⟩ : ∃ x rest, s.sq.list = x :: rest ∧ (s.sq.deck p).item = some x.id := by
      obtain ⟨id, item⟩ := (h.fits p).item_of_ne_free (by rw [st]; nofun)
      obtain ⟨x, rest, list, rfl⟩ := (h.fits p).head_of_playing item st
      exact ⟨x, rest, list, item⟩
    rcases DeckId.eq_or_other p e with rfl | rfl
    · exact absurd item (h.waiting_of_listed (by simp [list]) head i tail)
    · exact absurd item (h.waiting (.inr (other ▸ ready)) i tail)

/-! Starts -/

theorem headToTail (h : s.soundDecks) {d : DeckId} (playing : s.sq.playing = some d) {x : Item} {rest : List Item}
    (list : s.sq.list = x :: rest) (tail : s.sq.tail = none) : s.headToTail.soundDecks := by
  have st := Sequencer.state_of_playing playing
  obtain ⟨id, item⟩ := (h.fits d).item_of_ne_free (by rw [st]; nofun)
  obtain ⟨y, rest', list', head⟩ := (h.fits d).head_of_playing item st
  obtain ⟨rfl, rfl⟩ := List.cons.inj (list.symm.trans list')
  rw [State.headToTail_eq playing list]
  exact same (s := s.setSq { s.sq.setDeck d { s.sq.deck d with state := .tailing } with list := rest, tail := some x })
    (Sequencer.Sound.headToTail h item list head tail) { deck := fun e => by cases e <;> exact ⟨rfl, rfl, rfl⟩ }

/-- A LIVE head halts a sequencer that is RUNNING, over an empty stack (R40, R46). -/
theorem halt (h : s.soundDecks) (running : s.sq.state = .running) {x : Item} (head : s.sq.list.head? = some x) (live : x.kind = .live) :
    s.halt.soundDecks := by
  have halted := h.setState (st := .halted) (fun _ => h.empty (.inl running)) fun _ => ⟨x, head, live⟩
  have noted : (s.setSq { s.sq with
      state := .halted, liveStart := some (s.sq.liveStart.getD s.ev.clock), breakSignal := true }).soundDecks :=
    same (s := s.setSq { s.sq with state := .halted }) halted {}
  exact noted.frame {}

/-- A deck bound to the head becomes PLAYING, behind what the start does with the old head (R35). -/
theorem startItem {d : DeckId} {i : Item} {rest : List Item} (h : s.headToTail.soundDecks) (list : s.headToTail.sq.list = i :: rest)
    (item : (s.headToTail.sq.deck d).item = some i.id) (late : Bool) : (s.startItem d i late).soundDecks := by
  have started : (s.headToTail.setDeck d { state := .playing, item := some i.id, position := 0, startedAt := some s.ev.clock
                                           fadeTaken := i.fadeReached 0 }).soundDecks := h.play list item rfl rfl
  unfold State.startItem
  refine frame ?_ (State.frames_raiseIf _ late .lateStart)
  refine frame ?_ (State.frames_raise _ .seqAdvance)
  exact same (started.frame (State.frames_updEntry _ d.source _)) {}

theorem takeStart (h : s.soundDecks) (late : Bool) : (s.takeStart late).soundDecks := by
  unfold State.takeStart
  split
  · rename_i due
    have running : s.sq.state = .running := of_decide_eq_true ((Bool.and_eq_true _ _).mp due).1
    split
    · exact h
    · rename_i i next
      cases playing : s.sq.playing with
      | none =>
        obtain ⟨rest, list⟩ : ∃ rest, s.sq.list = i :: rest := by
          cases list : s.sq.list with
          | nil => simp [State.itemToStart, playing, list] at next
          | cons x rest => exact ⟨rest, by simpa [State.itemToStart, playing, list] using next⟩
        have stays : s.headToTail = s := by unfold State.headToTail; rw [playing]
        split
        · rename_i live
          exact h.halt running (by rw [list]; rfl) live
        · split
          · exact h
          · rename_i d bound
            refine .ite ?_ h
            exact startItem (by rw [stays]; exact h) (by rw [stays]; exact list)
              (by rw [stays]; exact Sequencer.item_of_boundDeck bound) late
      | some p =>
        obtain ⟨x, rest, list⟩ : ∃ x rest, s.sq.list = x :: i :: rest := by
          cases list : s.sq.list with
          | nil => simp [State.itemToStart, playing, list] at next
          | cons x rest =>
            cases rest with
            | nil => simp [State.itemToStart, playing, list] at next
            | cons y rest => exact ⟨x, rest, by simpa [State.itemToStart, playing, list] using next⟩
        split
        · rename_i live
          dsimp only
          split
          · exact h
          · rename_i room
            have tail : s.sq.tail = none := Option.not_isSome_iff_eq_none.mp fun some => room (by rw [some]; rfl)
            have moved := h.headToTail playing list tail
            rw [State.headToTail_eq playing list] at *
            exact moved.halt (by simpa using running) rfl live
        · split
          · exact h
          · rename_i d bound
            split
            · rename_i ready
              have bound := Sequencer.item_of_boundDeck bound
              have tail := h.tail_of_ready playing ready
              have moved := h.headToTail playing list tail
              refine startItem moved (rest := rest) (by rw [State.headToTail_eq playing list]; rfl) ?_ late
              rw [State.headToTail_eq playing list]
              refine Eq.trans ?_ bound
              cases p <;> cases d <;> rfl
            · exact h
  · exact h

theorem markSegue (h : s.soundDecks) : s.markSegue.soundDecks := by
  refine h.same { list := s.sq.markSegue_list, tail := s.sq.markSegue_tail, state := ?_, deck := fun d => ?_ }
  · unfold Sequencer.markSegue; split <;> rfl
  · unfold Sequencer.markSegue; split <;> cases d <;> exact ⟨rfl, rfl, rfl⟩

theorem review (h : s.soundDecks) (late : Bool) : (s.review late).soundDecks :=
  (((h.markSegue.takeStart late).takeStart false).takeStart false).cue

theorem takeHeadPoint (h : s.soundDecks) (d : DeckId) : (s.takeHeadPoint d).soundDecks := by
  rw [State.takeHeadPoint_eq]
  have started : (s.pointTaken.takeStart false).soundDecks := (h.same {}).takeStart false
  refine review ?_ false
  split
  · rename_i atEnd
    exact started.endItem ((Bool.and_eq_true _ _).mp atEnd).1
  · exact started

theorem seguePoint (h : s.soundDecks) : s.seguePoint.soundDecks := by
  unfold State.seguePoint
  split
  · exact .ite (h.takeHeadPoint _) h
  · exact h

theorem itemEnd (h : s.soundDecks) (d : DeckId) : (s.itemEnd d).soundDecks := by
  unfold State.itemEnd
  split
  · rename_i atEnd
    exact .ite (h.takeHeadPoint d) ((h.endItem ((Bool.and_eq_true _ _).mp atEnd).1).review false)
  · exact h

/-- A deck whose state, item and position stay. -/
theorem sameDeck (h : s.soundDecks) {d : DeckId} {k : Deck} (state : k.state = (s.deck d).state) (item : k.item = (s.deck d).item)
    (position : k.position = (s.deck d).position) : (s.setDeck d k).soundDecks :=
  h.setDeck item ((h.fits d).same state item position)

theorem fadeOutPoint (h : s.soundDecks) (d : DeckId) : (s.fadeOutPoint d).soundDecks := by
  unfold State.fadeOutPoint
  split
  · split
    · exact (h.sameDeck (k := { s.deck d with fadeTaken := true }) rfl rfl rfl).frame {}
    · exact h
  · exact h

/-! Stops, pushes and pops -/

theorem stop (h : s.soundDecks) : (s.setSq s.sq.stop).soundDecks := by
  have stopped := Sequencer.Sound.setState (Sequencer.Sound.pause h) (st := .stopped) (by simp) nofun
  rw [Sequencer.stop_eq]
  exact same (s := s.setSq _) stopped {}

theorem push (h : s.soundDecks) (c : Cause) : (s.push c).soundDecks := by
  have quiet : (if c = .breakIn then SeqState.stopped else .preempted) = .stopped ∨
      (if c = .breakIn then SeqState.stopped else .preempted) = .preempted := by split <;> simp
  have paused := Sequencer.Sound.pause (Sequencer.Sound.push h quiet)
  have stacked : ((s.setPs (s.ps.add (s.context c))).setSq (s.sq.preempt c)).soundDecks := by
    unfold State.soundDecks
    rw [show ((s.setPs (s.ps.add (s.context c))).setSq (s.sq.preempt c)).saved = _ from s.saved_add c, Sequencer.preempt_eq]
    exact paused.same {}
  have changes : ∀ u : State, u.Frames (u.causeChanges c) := fun u => by cases c <;> exact {}
  have raised : ∀ b : Bool, ((s.setPs (s.ps.add (s.context c))).setSq (s.sq.preempt c)).Frames
      (((s.setPs (s.ps.add (s.context c))).raiseIf b .stackOverflow).setSq (s.sq.preempt c)) := fun b => by
    cases b <;> exact {}
  unfold State.push
  dsimp only
  rw [State.raiseIf_sq]
  exact (stacked.frame (raised _)).frame (.trans (changes _) {})

/-- The head leaves with its deck, which is freed (R43, R46). -/
theorem freeHead (h : s.soundDecks) {d : DeckId} {x : Item} {rest : List Item} (list : s.sq.list = x :: rest)
    (item : (s.sq.deck d).item = some x.id) : (s.freeDeck d).dropHead.soundDecks := by
  have left : ((s.setDeck d .initial).setSq { s.sq.setDeck d .initial with list := rest }).soundDecks := h.endHead list item
  refine same (left.frame (t := (s.freeDeck d).setSq { s.sq.setDeck d .initial with list := rest }) {}) (q := (s.freeDeck d).dropHead.sq)
    { list := ?_, tail := ?_, state := ?_, deck := ?_ }
  · show (s.setDeck d .initial).sq.list.drop 1 = rest
    simp [State.setDeck, list]
  · rfl
  · rfl
  · cases d <;> exact fun e => by cases e <;> exact ⟨rfl, rfl, rfl⟩

/-- The head leaves, on no deck and with no halt that needs it. -/
theorem dropHead (h : s.soundDecks) {x : Item} {rest : List Item} (list : s.sq.list = x :: rest)
    (unbound : ∀ d, (s.sq.deck d).item ≠ some x.id) (going : ¬ (s.sq.state = .halted ∨ s.saved.getLast? = some .halted)) :
    s.dropHead.soundDecks := by
  refine same (s := s.setSq { s.sq with list := rest }) (Sequencer.Sound.dropHead h list unbound going) (q := s.dropHead.sq) { list := ?_ }
  show s.sq.list.drop 1 = rest
  rw [list]; rfl

theorem abandon (h : s.soundDecks) {d : DeckId} (head : s.pausedHead = some d) : (s.abandon d).soundDecks := by
  obtain ⟨x, rest, list, item, -⟩ := State.pausedHead_spec head
  unfold State.abandon
  rw [list]
  dsimp only
  have recorded := h.addDone { item := x.id, start := (s.deck d).startedAt, aired := (s.deck d).position, outcome := .abandoned }
  rw [State.addDone_eq] at recorded ⊢
  exact frame (recorded.freeHead list item) {}

theorem reposition (h : s.soundDecks) {d : DeckId} (head : s.pausedHead = some d) (position : Nat) :
    (s.reposition d position).soundDecks := by
  obtain ⟨x, rest, list, item, paused⟩ := State.pausedHead_spec head
  have moved : ∀ k : Deck, k.item = some x.id → k.state = .paused → (s.setDeck d k).soundDecks := fun k same st =>
    h.setDeck (same.trans item.symm) ((h.fits d).restate item same (by simp [st]) (by simp [st]) (by simp [st]) (by simp [st])
      (fun _ => .inl (by rw [list]; rfl)) (by simp [st]))
  unfold State.reposition
  rw [list]
  exact (moved { s.deck d with
    position := position, fadeTaken := (s.deck d).fadeTaken && x.fadeReached position } item paused).same {}

theorem applyKind (h : s.soundDecks) (k : ResumeKind) : (s.applyKind k).soundDecks := by
  unfold State.applyKind
  split
  · rename_i head
    exact h.abandon head
  · rename_i head
    exact h.reposition head _
  · exact h

theorem enter (h : s.soundDecks) {st : SeqState} (empty : st = .running ∨ st = .halted → s.saved = [])
    (live : st = .halted → ∃ x, s.sq.list.head? = some x ∧ x.kind = .live) : (s.setSq (s.sq.enter st)).soundDecks :=
  same (s := s.setSq { s.sq with state := st }) (h.setState empty live) {}

theorem reconcile (h : s.soundDecks) (r : Context) : (s.setSq (s.sq.reconcileDecks r)).soundDecks := by
  have item : ∀ saved k, (s.sq.reconcile saved r.seqState k).item = k.item := fun saved k => by
    unfold Sequencer.reconcile
    split
    · split
      · exact Sequencer.resumed_item _ _
      · rfl
    · rfl
  have fits : ∀ saved {k : Deck}, k.fits s.sq.list s.sq.tail → (s.sq.reconcile saved r.seqState k).fits s.sq.list s.sq.tail :=
      fun saved k fits => by
    unfold Sequencer.reconcile
    split
    · split
      · exact fits.resumed
      · exact fits
    · exact fits
  exact h.setDecks (item _ _) (item _ _) (fits _ (h.fits .a)) (fits _ (h.fits .b))

theorem pop (h : s.soundDecks) (taker : ResumeBy) (k : ResumeKind) : (s.pop taker k).soundDecks := by
  unfold State.pop
  split
  · exact h
  · rename_i r rest stack
    have saved : s.saved = r.seqState :: rest.map (·.seqState) := by unfold State.saved; rw [stack]; rfl
    have stood : s.sq.Sound (r.seqState :: rest.map (·.seqState)) := saved ▸ h
    have popped : (s.setPs { s.ps with records := rest, lastResume := some (s.lastResume r taker k) }).soundDecks := stood.popped
    unfold State.popRecord
    dsimp only
    have reconciled := (popped.applyKind (s.applied r k)).reconcile r
    have restored := reconciled.frame (State.frames_restores _ r (if s.applied r k = .reprise then s.pausedHead else none))
    refine frame (review ?_ false) (State.frames_raise _ .resumed)
    have left : ∀ u : State, u.saved = rest.map (·.seqState) → u.soundDecks →
        (r.seqState = .halted → ∃ x, u.sq.list.head? = some x ∧ x.kind = .live) → (u.setSq (u.sq.enter r.seqState)).soundDecks :=
      fun u eq sound live => sound.enter (fun going => eq.trans (stood.alone going)) live
    refine left _ ?_ restored fun halted => ?_
    · exact (State.frames_restores _ r _).ps.trans (State.applyKind_saved _ _)
    · obtain ⟨x, head, live⟩ := stood.live_of_saved halted
      refine ⟨x, ?_, live⟩
      rw [(State.frames_restores _ r _).sq]
      show (State.applyKind _ _).sq.list.head? = some x
      rw [State.applyKind_list]
      · exact head
      · exact s.applied_ne_next k (by rw [halted]; nofun)

/-! Requests on the list -/

/-- A new item comes behind the head (R28, R29). -/
theorem bring (h : s.soundDecks) {b : ItemBytes} {i : Item} (ok : s.itemChecks b = .ok i) {l : List Item} (perm : l.Perm (i :: s.sq.list))
    (head : ∀ x, s.sq.list.head? = some x → l.head? = some x) : (s.setSq { s.sq with list := l }).soundDecks :=
  Sequencer.Sound.bring h (State.itemChecks_ok ok).1 (State.itemChecks_ok ok).2 perm head

theorem append (h : s.soundDecks) {b : ItemBytes} {i : Item} (ok : s.itemChecks b = .ok i) :
    (s.setSq { s.sq with list := s.sq.list ++ [i] }).soundDecks :=
  h.bring ok (List.perm_append_singleton i _) fun x head => by rw [List.head?_append, head]; rfl

theorem insert (h : s.soundDecks) {b : ItemBytes} {i : Item} (ok : s.itemChecks b = .ok i) (id : Nat) :
    ((s.setSq { s.sq with list := insertAfter id i s.sq.list }).recue (s.releasedDeck id) i).soundDecks := by
  have head : ∀ x, s.sq.list.head? = some x → (insertAfter id i s.sq.list).head? = some x := fun x hx => by
    cases list : s.sq.list with
    | nil => rw [list] at hx; exact nomatch hx
    | cons y ys =>
      rw [list] at hx
      cases hx
      unfold insertAfter
      split <;> rfl
  have inserted : (s.setSq { s.sq with list := insertAfter id i s.sq.list }).soundDecks := by
    cases there : s.sq.list.any (·.id = id) with
    | true => exact h.bring ok (insertAfter_perm there i) head
    | false => rw [insertAfter_of_not_there there]; exact h
  unfold State.recue
  cases released : s.releasedDeck id with
  | none => exact inserted
  | some d =>
    obtain ⟨⟨x, rest, list, rfl⟩, waits⟩ := State.releasedDeck_spec released
    have waiting := h.waiting waits
    have fresh : ∀ e, (s.sq.deck e).item ≠ some i.id := fun e item => (State.itemChecks_ok ok).2 ((h.fits e).mem_ids item)
    dsimp only
    split
    · exact inserted.freeDeck (d := d) (by cases d <;> exact waiting)
    · rename_i kind
      exact inserted.bindDeck (d := d) (by cases d <;> exact waiting) (by simp [list, insertAfter]) kind
        (fun e => by cases e with
          | a => exact fresh .a
          | b => exact fresh .b)

theorem removeItem (h : s.soundDecks) {id : Nat} (there : s.sq.list.any (·.id = id) = true) (behind : s.sq.list.head?.map (·.id) ≠ some id) :
    (s.removeItem id).soundDecks := by
  obtain ⟨x, mem, same⟩ := List.any_eq_true.mp there
  have same : x.id = id := of_decide_eq_true same
  subst same
  unfold State.removeItem
  dsimp only
  split
  · rename_i d bound
    have item := Sequencer.item_of_boundDeck bound
    have freed := Sequencer.Sound.setFree h (h.waiting_of_listed mem item)
    have unbound : ∀ e, ((s.sq.setDeck d .initial).deck e).item ≠ some x.id := fun e => by
      rcases DeckId.eq_or_other d e with rfl | rfl
      · rw [Sequencer.deck_setDeck_self]; nofun
      · rw [Sequencer.deck_setDeck_other]; exact h.apart d _ item
    have left := freed.filter unbound (by rw [Sequencer.setDeck_list]; exact behind)
    rw [State.addDone_eq]
    cases d with
    | a => exact Sequencer.Sound.same left { deck := fun e => by cases e <;> exact ⟨rfl, rfl, rfl⟩ }
    | b => exact Sequencer.Sound.same left { deck := fun e => by cases e <;> exact ⟨rfl, rfl, rfl⟩ }
  · rename_i unbound
    exact Sequencer.Sound.filter h (Sequencer.unbound_of_boundDeck unbound) behind

/-- A CUEING deck becomes READY (R34). -/
theorem ready (h : s.soundDecks) {d : DeckId} (cueing : (s.deck d).state = .cueing) :
    (s.setDeck d { s.deck d with state := .ready }).soundDecks := by
  obtain ⟨id, item⟩ := (h.fits d).item_of_ne_free (by rw [show (s.sq.deck d).state = _ from cueing]; nofun)
  obtain ⟨-, -, -, listed, -⟩ := (h.fits d).2.2 id item
  exact h.setDeck rfl ((h.fits d).restate item item nofun (fun _ => (h.fits d).2.1 (.inr (.inl cueing))) nofun nofun nofun
    fun _ => listed (.inl cueing))

theorem resumeDeck (h : s.soundDecks) (d : DeckId) : (s.resumeDeck d).soundDecks := by
  have resumed : (s.setDeck d (s.sq.resumed (s.deck d))).soundDecks := h.setDeck (Sequencer.resumed_item _ _) (h.fits d).resumed
  unfold State.resumeDeck
  refine .ite ?_ h
  dsimp only
  split
  · exact .ite (resumed.frame {}) resumed
  · exact resumed

theorem startSequence (h : s.soundDecks) (empty : s.ps.records = []) : s.startSequence.soundDecks := by
  have resumed := (h.resumeDeck .a).resumeDeck .b
  have saved : ∀ (u : State) d, (u.resumeDeck d).saved = u.saved := fun u d => by
    unfold State.resumeDeck
    dsimp only
    split
    · split
      · split <;> rfl
      · rfl
    · rfl
  have none : ((s.resumeDeck .a).resumeDeck .b).saved = [] := by
    rw [saved, saved, State.saved, empty]; rfl
  exact (resumed.enter (st := .running) (fun _ => none) nofun).review false

theorem skipPlaying (h : s.soundDecks) {d : DeckId} {x : Item} {rest : List Item} (list : s.sq.list = x :: rest) :
    (s.skipPlaying d x rest).soundDecks := by
  have shortened : ∀ n, (s.setSq { s.sq with
      list := { x with length := some n, segue := min x.segue n, skipped := true } :: rest }).soundDecks := fun n =>
    h.replaceHead list rfl rfl
  have fades := fun n => frame ((shortened n).sameDeck (d := d) (k := { State.deck (s.setSq _) d with fadeTaken := true }) rfl rfl rfl)
    (State.frames_updEntry _ d.source (·.fadeOut x.fadeOut))
  unfold State.skipPlaying
  exact .ite h (.ite ((fades _).takeHeadPoint d) (fades _))

/-- A head that waits to start leaves, with its deck where it has one (R43). -/
theorem skipWaiting (h : s.soundDecks) (running : s.sq.state = .running) {x : Item} {rest : List Item} (list : s.sq.list = x :: rest) :
    (s.skipWaiting x).soundDecks := by
  have recorded := h.addDone { item := x.id, start := none, aired := 0, outcome := .skipped }
  unfold State.skipWaiting
  dsimp only
  refine review ?_ false
  rw [State.addDone_eq] at recorded ⊢
  split
  · rename_i d bound
    exact recorded.freeHead list (Sequencer.item_of_boundDeck bound)
  · rename_i unbound
    exact recorded.dropHead list (fun d => Sequencer.unbound_of_boundDeck unbound d) (Sequencer.Sound.not_halted_of_running recorded running)

/-- A LIVE head, on no deck, leaves with its halt (R41). -/
theorem proceed (h : s.soundDecks) (halted : s.sq.state = .halted) : s.continueSequence.soundDecks := by
  have empty := h.empty (.inr halted)
  obtain ⟨x, head, live⟩ := h.live (.inl halted)
  obtain ⟨rest, list⟩ := List.head?_eq_some_iff.mp head
  have unbound : ∀ d, (s.sq.deck d).item ≠ some x.id := fun d item => (h.fits d).not_live item (by simp [list]) rfl live
  have running : (s.setSq { s.sq with state := .running }).soundDecks := h.setState (fun _ => empty) nofun
  have left : (s.setSq { s.sq with state := .running }).dropHead.soundDecks := running.dropHead list
    (fun d => by cases d with
      | a => exact unbound .a
      | b => exact unbound .b)
    (Sequencer.Sound.not_halted_of_running running rfl)
  have entered : ∀ r, ((s.addDone r).dropHead.setSq ((s.addDone r).dropHead.sq.enter .running)).soundDecks := fun r => by
    rw [State.addDone_eq]
    exact Sequencer.Sound.same left {}
  unfold State.continueSequence
  rw [list]
  exact (entered _).review false

end State.soundDecks

/-! ### The decks at every step -/

theorem Sequencer.sound_initial : Sequencer.initial.Sound [] where
  length := Nat.zero_le _
  distinct := List.nodup_nil
  fits d := by cases d <;> exact Deck.fits_initial _ _
  apart d := by cases d <;> exact nofun
  tail := nofun
  empty := by simp [Sequencer.initial]
  live := by simp [Sequencer.initial]
  above := nofun

/-- The decks are sound at every moment of a step, too. -/
def decksLaw : StepLaw where
  holds := State.soundDecks
  within := State.soundDecks
  relax h := h
  frame := State.soundDecks.frame
  frameWithin := State.soundDecks.frame
  settleBreak h := h.same {}
  initial _ hq hp _ _ := by
    unfold State.soundDecks State.saved
    rw [hq, hp]
    exact Sequencer.sound_initial
  tick h := Sequencer.Sound.tick h
  pushAlert h := h.push .alert
  push h c := h.push c
  pop h taker k := h.pop taker k
  stop h := h.stop
  fadeOutPoint h d := h.fadeOutPoint d
  seguePoint h := h.seguePoint
  itemEnd h d := h.itemEnd d
  append h _ _ ok := (h.append ok).review false
  insert h _ _ ok id := (h.insert ok id).review false
  remove h _ there behind := (h.removeItem there behind).review false
  ready h _ cueing := (h.ready cueing).review true
  start h empty := h.startSequence empty
  skipPlaying h _ _ _ _ list _ := h.skipPlaying list
  skipWaiting h running _ _ list _ := h.skipWaiting running list
  proceed h halted := h.proceed halted
  readDone h _ _ _ := h.same {}

/-- Settles O57: no operation brings an id twice or a deck out of its item's place, and the end of a step gives or loses every break
opportunity. -/
theorem everyStepKeepsTheSequence : Obligations.EveryStepKeepsTheSequence := by
  have decks : Kept State.decksSound := by
    rw [show State.decksSound = State.soundDecks from funext fun s => propext s.decksSound_iff]
    exact decksLaw.kept
  exact ⟨sequenceLaw.law.kept, decks, signalLaw.kept⟩

end Sys2Proof.Machine
end

section
/-! SUPPORT. The invariants at reset (O5). -/

namespace Sys2Proof.Machine

set_option Elab.async false

theorem reset_delaySound : State.reset.delaySound := by
  have copies : factory.targetInRange := by unfold Profile.targetInRange; decide
  have written : State.reset.pf.write = none := rfl
  have pending : State.reset.du.pendingTarget = none := rfl
  have idle : State.reset.du.mode = .idle := rfl
  unfold State.delaySound ProfileStore.targetsInRange
  refine ⟨⟨copies, copies, ?_⟩, by decide, ?_, by decide, ?_⟩
  · simp [written]
  · simp [pending]
  · simp [idle]

theorem reset_linesSound : State.reset.linesSound := by
  have inactive : State.reset.alertActive = false := rfl
  refine ⟨.nil, fun n => ?_, fun n => ?_, by decide, by simp [inactive]⟩
  · cases n <;> decide
  · cases n <;> (unfold LineRec.sound; decide)

theorem reset_levelsInRange : State.reset.levelsInRange := by
  have items : State.reset.sq.list ++ State.reset.sq.tail.toList = [] := rfl
  have records : State.reset.ps.records = [] := rfl
  refine ⟨fun src => ?_, by simp [items], by simp [records]⟩
  unfold Entry.inRange
  cases src <;> decide

theorem reset_decksSound : State.reset.decksSound := (State.decksSound_iff _).mpr Sequencer.sound_initial

/-- Settles O5. -/
theorem invariantsHoldAtReset : Obligations.InvariantsHoldAtReset :=
  ⟨rfl, by unfold State.collectionsFit; decide, ⟨Nat.zero_le _, .nil⟩, reset_delaySound, reset_linesSound, reset_levelsInRange, rfl,
    reset_decksSound⟩

end Sys2Proof.Machine
end

section
/-! SUPPORT. What a push does, and an alert that takes the air (R52 to R57, R117, R120), with the statements about them: BREAK_IN (O17), the
silence monitor's failover (O41) and the pending alerts (O36). -/

namespace Sys2Proof.Machine

set_option Elab.async false

/-! ### What a push leaves -/

theorem Stack.add_eq (p : Stack) (r : Context) : p.add r = { p with
    records := r :: p.records.take 7
    overflow := if p.records.length < 8 then p.overflow else countUp p.overflow } := by
  unfold Stack.add
  rw [show Config.stackMax = 8 from rfl]
  split
  · rename_i room
    rw [List.take_of_length_le (by omega)]
  · rfl

/-- A state whose stack, sequencer and events a push has changed, before the changes of its cause (R53). -/
def State.pushed (s : State) (c : Cause) : State :=
  { s with
    ps := s.ps.add (s.context c)
    sq := s.sq.preempt c
    ev := if s.ps.records.length < 8 then s.ev else s.ev.raise .stackOverflow }

section
variable (s : State) (c : Cause)

theorem State.push_eq : s.push c = ((s.pushed c).causeChanges c).raise .preempt := by
  unfold State.push State.pushed
  rw [show Config.stackMax = 8 from rfl]
  by_cases room : s.ps.records.length < 8
  · simp only [room]; rfl
  · simp only [room]; rfl

theorem State.pushed_clock : (s.pushed c).ev.clock = s.ev.clock := by
  unfold State.pushed
  dsimp only
  split <;> rfl

theorem State.push_sq : (s.push c).sq = s.sq.preempt c := by
  rw [State.push_eq]; cases c <;> rfl

theorem State.push_al : (s.push c).al = s.al := by
  rw [State.push_eq]; cases c <;> rfl

theorem State.push_air : (s.push c).air = s.air := by
  rw [State.push_eq]; cases c <;> rfl

theorem State.push_tl : (s.push c).tl = s.tl := by
  rw [State.push_eq]; cases c <;> rfl

theorem State.push_cl : (s.push c).cl = s.cl := by
  rw [State.push_eq]; cases c <;> rfl

end

/-- A deck paused where it stands. -/
theorem Deck.pause_ite (k : Deck) : k.pause = if k.state = .playing ∨ k.state = .tailing then { k with state := .paused } else k := by
  unfold Deck.pause
  exact if_congr Deck.run_iff rfl rfl

theorem Deck.pause_eq (k : Deck) : k.pause = { k with
    state := if k.state = .playing ∨ k.state = .tailing then .paused else k.state } := by
  rw [Deck.pause_ite]
  split <;> rfl

theorem Deck.pause_pause (k : Deck) : k.pause.pause = k.pause := by
  rw [Deck.pause_eq, Deck.pause_eq]
  split <;> rfl

theorem Sequencer.preempt_deck (q : Sequencer) (c : Cause) (d : DeckId) : (q.preempt c).deck d = (q.deck d).pause := by
  rw [Sequencer.preempt_eq]; cases d <;> rfl

/-- Every push does what `State.pushesTo` says (R46, R52, R53). -/
theorem State.push_pushesTo (s : State) (c : Cause) : s.pushesTo (s.push c) (s.context c) := by
  have decks : ∀ d, (s.push c).deck d = (s.deck d).pause := fun d => by
    unfold State.deck
    rw [State.push_sq, Sequencer.preempt_deck]
  unfold State.pushesTo
  rw [State.push_sq, Sequencer.preempt_eq]
  refine ⟨?_, rfl, rfl, fun n => by cases n <;> rfl, fun d => (decks d).trans (Deck.pause_eq _), rfl, rfl, rfl, rfl, rfl, rfl, ?_⟩
  · rw [State.push_eq, ← Stack.add_eq]; cases c <;> rfl
  · rw [State.push_eq]
    have enable : ((if s.ps.records.length < 8 then s.ev else s.ev.raise .stackOverflow).raise .preempt).enable = s.ev.enable := by
      split <;> rfl
    have clock : ((if s.ps.records.length < 8 then s.ev else s.ev.raise .stackOverflow).raise .preempt).clock = s.ev.clock := by
      split <;> rfl
    cases c <;> exact ⟨rfl, rfl, rfl, rfl, rfl, enable, clock⟩

/-- What a push leaves of a state that a change to its break signal, its events' status and the blocks a push does not touch leaves. -/
theorem State.pushesTo.mono {s t u : State} {r : Context} (h : s.pushesTo t r) (sq : u.sq = { t.sq with breakSignal := u.sq.breakSignal })
    (ps : u.ps = t.ps := by rfl) (queue : u.lc.queue = t.lc.queue := by rfl) (missed : u.lc.missed = t.lc.missed := by rfl)
    (pb : u.pb = t.pb := by rfl) (pf : u.pf = t.pf := by rfl) (ap : u.ap = t.ap := by rfl)
    (enable : u.ev.enable = t.ev.enable := by rfl) (clock : u.ev.clock = t.ev.clock := by rfl) : s.pushesTo u r := by
  have decks : ∀ d, u.deck d = t.deck d := fun d => by
    unfold State.deck
    rw [sq]; cases d <;> rfl
  obtain ⟨stack, time, mode, gone, deck, list, tail, done, lost, live, taken, q, m, bus, profile, slots, ena, clk⟩ := h
  refine ⟨ps.trans stack, time, mode, gone, fun d => (decks d).trans (deck d), ?_, ?_, ?_, ?_, ?_, ?_, queue.trans q, missed.trans m,
    by rw [pb]; exact bus, pf.trans profile, ap.trans slots, enable.trans ena, clock.trans clk⟩
  · rw [sq]; exact list
  · rw [sq]; exact tail
  · rw [sq]; exact done
  · rw [sq]; exact lost
  · rw [sq]; exact live
  · rw [sq]; exact taken

/-! ### BREAK_IN -/

theorem PerSource.ext_get {α : Type} {t u : PerSource α} (h : ∀ i, t.get i = u.get i) : t = u := by
  obtain ⟨pla, plb, mic, fbk, ln1, ln2, ln3, ln4⟩ := t
  cases show pla = u.pla from h .pla
  cases show plb = u.plb from h .plb
  cases show mic = u.mic from h .mic
  cases show fbk = u.fbk from h .fbk
  cases show ln1 = u.ln1 from h .ln1
  cases show ln2 = u.ln2 from h .ln2
  cases show ln3 = u.ln3 from h .ln3
  cases show ln4 = u.ln4 from h .ln4
  rfl

theorem PerLine.ext_get {α : Type} {t u : PerLine α} (h : ∀ i, t.get i = u.get i) : t = u := by
  obtain ⟨l1, l2, l3, l4⟩ := t
  cases show l1 = u.l1 from h .l1
  cases show l2 = u.l2 from h .l2
  cases show l3 = u.l3 from h .l3
  cases show l4 = u.l4 from h .l4
  rfl

/-- What a record saves of a deck (R51). -/
theorem Deck.snapshot_eq (k : Deck) : k.snapshot = if k.state = .free then none else
    k.item.map fun i => { item := i, state := k.state, position := k.position } := by
  unfold Deck.snapshot
  split
  · rename_i item; rw [item]; rfl
  · rename_i item; rw [item]; simp

/-- A BREAK_IN's push, whole (R52 to R54). -/
theorem State.push_breakIn (s : State) : s.push .breakIn = { s with
    ps := { s.ps with
      records := s.context .breakIn :: s.ps.records.take 7
      overflow := if s.ps.records.length < 8 then s.ps.overflow else countUp s.ps.overflow }
    sq := s.sq.preempt .breakIn
    pb := { s.pb with roster := ((s.pb.roster.set .pla ((s.entry .pla).setReleasing s.preemptFade)).set .plb
      ((s.entry .plb).setReleasing s.preemptFade)).set .mic ((s.entry .mic).setLive s.preemptFade) }
    ev := (if s.ps.records.length < 8 then s.ev else s.ev.raise .stackOverflow).raise .preempt } := by
  rw [State.push_eq, State.pushed, Stack.add_eq]
  rfl

/-- A request whose owner leaves a state with no pending alert completes in it: its break opportunity is lost (R47, R118). -/
theorem completes_of_done_break {i : Instr} {s : State} {l : LaneId} {code : Byte} {rest body : List Byte} {allowed : Bool} {need : Nat}
    {own : List Byte → State → Answer} (h : s.asks l rest body) (hi : exec i s = .next (s.request l code rest allowed need own))
    (ha : allowed = true) (hn : need ≤ body.length) {u : State}
    (ho : own body (s.hearing l (code :: rest)) = u.done.thenBreak) (table : u.al.table = []) {b : Bool} (hb : b = false)
    (hu : u.cl = s.lanesHeard l (code :: rest)) :
    completes i s { u with sq := { u.sq with breakSignal := b }, cl := s.replied l (code :: rest) .done [] } := by
  refine completes_of_own (u := u.setSq { u.sq with breakSignal := b }) h hi ha hn (ho.trans ?_) hu
  show ({ state := u.takeBreak, code := .done, body := [] } : Answer) = _
  rw [State.takeBreak_of_none table hb]

/-- Settles O17: the checks of BREAK_IN, and its push with no alert pending. -/
theorem breakInPushes : Obligations.BreakInPushes := by
  intro s rest body asks
  refine ⟨fun refused => turnedAway_of_reply asks rfl rfl (Nat.zero_le _) (if_pos ?_), ?_⟩
  · exact refused.imp_left Option.isSome_iff_ne_none.mpr
  · rintro fade r a b m quiet onAir ⟨table, signal⟩ hfade cause time st mode deckA deckB roster lines gone rfl rfl rfl
    have record : r = s.context .breakIn := by
      obtain ⟨c, p, st', a', b', ros, l', m', g⟩ := r
      cases cause; cases time; cases st; cases mode; cases deckA; cases deckB; cases lines
      have snapshots : ros = s.pb.roster.mapWith fun _ e => e.snapshot := PerSource.ext_get fun src => by
        rw [PerSource_get_mapWith]; exact roster src
      have marks : g = { l1 := false, l2 := false, l3 := false, l4 := false } := PerLine.ext_get fun n => by
        rw [gone n]; cases n <;> rfl
      rw [snapshots, marks, State.context, Deck.snapshot_eq, Deck.snapshot_eq]
      rfl
    have own : ownBreakIn body (s.hearing .con (0x28#8 :: rest)) =
        ((s.hearing .con (0x28#8 :: rest)).push .breakIn).done.thenBreak := by
      unfold ownBreakIn
      refine if_neg ?_
      rintro (alert | off)
      · exact Option.isSome_iff_ne_none.mp alert quiet
      · exact off onAir
    have done : completes (.breakIn .con rest) s _ := completes_of_done_break asks rfl rfl (Nat.zero_le _) own (by rw [State.push_al]; exact table) signal
      (by rw [State.push_cl]; rfl)
    rw [State.push_breakIn, Sequencer.preempt_eq] at done
    subst hfade
    rw [record, ← Deck.pause_ite, ← Deck.pause_ite]
    exact done

/-! ### Raised events -/

/-- A kind stands in the status set of every lane. -/
def EventUnit.shows (e : EventUnit) (k : EventKind) : Prop := ∀ l, e.status.get l &&& k.set ≠ 0#29

theorem EventUnit.shows_raise (e : EventUnit) (k : EventKind) : (e.raise k).shows k := fun l none => by
  have set : k.set ≠ 0#29 := by cases k <;> decide
  rw [EventUnit.raise_status, BitVec.and_or_distrib_right, BitVec.or_eq_zero_iff, BitVec.and_self] at none
  exact set none.2

theorem EventUnit.shows.raise {e : EventUnit} {k : EventKind} (h : e.shows k) (j : EventKind) : (e.raise j).shows k := fun l none => by
  rw [EventUnit.raise_status, BitVec.and_or_distrib_right, BitVec.or_eq_zero_iff] at none
  exact h l none.1

theorem State.push_shows (s : State) (c : Cause) : (s.push c).ev.shows .preempt := by
  rw [State.push_eq]
  cases c <;> exact EventUnit.shows_raise _ _

/-! ### An alert takes the air -/

/-- Where lines are forced to HOLD, an ON_AIR line begins a hold period (R84, R85). -/
theorem LineController.forceHold_onAir {c : LineController} {n : LineId} (alert : Bool) (now : Clock)
    (airing : (c.lines.get n).state = .onAir) : (c.forceHold alert now).lines.get n = { c.lines.get n with
      state := .hold, seize := true, ringTimer := none, holdStart := some now, holdLong := false
      feed := LineState.hold.feedIn alert, loopLow := if (c.lines.get n).seize then (c.lines.get n).loopLow else 0 } := by
  unfold LineController.forceHold
  rw [PerLine_get_mapWith, if_pos airing, LineRec.enter, airing]
  rfl

/-- A line forced to HOLD with its feed set again while an alert is on the air: one that was not ON_AIR only takes the alert feed, where it
is seized (R84, R85, R121). -/
theorem LineController.refeed_forceHold {c : LineController} {n : LineId} (now : Clock) (away : (c.lines.get n).state ≠ .onAir) :
    ((c.forceHold true now).refeed true).lines.get n =
      { c.lines.get n with feed := if (c.lines.get n).state.seized then .alert else .hold } := by
  have feed : (c.lines.get n).state.feedIn true = if (c.lines.get n).state.seized then .alert else .hold := by
    unfold LineState.feedIn
    cases st : (c.lines.get n).state with
    | onAir => exact absurd st away
    | _ => rfl
  unfold LineController.refeed LineController.forceHold
  rw [PerLine_get_mapWith, PerLine_get_mapWith, if_neg away, feed]

/-- An alert that takes the air of a station on the air is a push, between the begin of ATTENTION and the alert feeds (R120). -/
theorem State.takeAir_of_onAir {s : State} (onAir : s.air.state = .onAir) (p : PendingAlert) (rest : List PendingAlert) {u : State}
    (hu : u = (s.setAl { s.al with table := rest }).beginAttention p) : s.takeAir p rest = { u.push .alert with
      lc := (u.push .alert).lc.refeed true, ev := (u.push .alert).ev.raise .alertStart } := by
  have awake : s.wake = s := by
    unfold State.wake
    rw [if_neg (by rw [onAir]; nofun)]
  unfold State.takeAir
  rw [awake, hu]; rfl

theorem State.takeAir_keeps_rest {s : State} (onAir : s.air.state = .onAir) (p : PendingAlert) (rest : List PendingAlert) :
    (s.takeAir p rest).air = s.air ∧ (s.takeAir p rest).tl = s.tl ∧ (s.takeAir p rest).cl = s.cl := by
  rw [State.takeAir_of_onAir onAir p rest rfl]
  exact ⟨State.push_air .., State.push_tl .., State.push_cl ..⟩

theorem State.takeAir_records {s : State} (onAir : s.air.state = .onAir) (p : PendingAlert) (rest : List PendingAlert) :
    (s.takeAir p rest).ps.records = s.context .alert :: s.ps.records.take 7 := by
  rw [State.takeAir_of_onAir onAir p rest rfl]
  show (State.push _ .alert).ps.records = _
  rw [State.push_eq]
  show (s.ps.add (s.context .alert)).records = _
  rw [Stack.add_eq]

theorem State.takeAir_noSignalStands {s : State} (onAir : s.air.state = .onAir) (p : PendingAlert) (rest : List PendingAlert) :
    (s.takeAir p rest).noSignalStands := by
  rw [State.takeAir_of_onAir onAir p rest rfl]
  exact State.push_alert_noSignalStands _

/-- An alert that takes the air of a station on the air does what `State.givesAirTo` says (R117, R120 to R122). -/
theorem State.takeAir_givesAirTo {s : State} (onAir : s.air.state = .onAir) (p : PendingAlert) (rest : List PendingAlert) :
    s.givesAirTo (s.takeAir p rest) p rest := by
  let u := (s.setAl { s.al with table := rest }).beginAttention p
  have taken := State.takeAir_of_onAir onAir p rest (u := u) rfl
  have pushed : s.pushesTo (u.push .alert) (u.context .alert) := u.push_pushesTo .alert
  have lines : (u.push .alert).lc = s.lc.forceHold true s.ev.clock := by
    rw [State.push_eq]
    exact congrArg (s.lc.forceHold true) (u.pushed_clock .alert)
  rw [taken]
  refine ⟨?_, ⟨u.context .alert, pushed.mono rfl, rfl, rfl⟩, fun src => ?_, fun n away => ?_, fun n airing => ?_, ?_, ?_, fun l => ⟨?_, ?_⟩⟩
  · show (u.push .alert).al = _
    rw [State.push_al]; rfl
  · show (u.push .alert).entry src = _
    rw [State.push_eq]
    cases src <;> rfl
  · show ((u.push .alert).lc.refeed true).lines.get n = _
    rw [lines]
    exact LineController.refeed_forceHold s.ev.clock away
  · have held := LineController.forceHold_onAir true s.ev.clock airing
    show ((((u.push .alert).lc.refeed true).lines.get n).state = _) ∧ (((u.push .alert).lc.refeed true).lines.get n).seize = _ ∧
      (((u.push .alert).lc.refeed true).lines.get n).feed = _ ∧ (((u.push .alert).lc.refeed true).lines.get n).holdStart = _ ∧
      (((u.push .alert).lc.refeed true).lines.get n).holdLong = _
    unfold LineController.refeed
    rw [lines, PerLine_get_mapWith, held]
    exact ⟨rfl, rfl, rfl, rfl, rfl⟩
  · show (u.push .alert).sq.state = _
    rw [State.push_sq, Sequencer.preempt_eq]; rfl
  · show (u.push .alert).du = _
    rw [State.push_eq]; rfl
  · exact (u.push_shows .alert).raise .alertStart l
  · exact EventUnit.shows_raise _ _ l

/-- The unit may take a pending alert while it is armed, on the air, and no alert is (R117). -/
theorem State.mayTake_of_onAir {s : State} (armed : s.al.armed = true) (quiet : s.al.onAir = none) (onAir : s.air.state = .onAir)
    (p : PendingAlert) : s.mayTake p = true := by
  simp [State.mayTake, State.admitsClass, armed, quiet, onAir]

/-- The unit takes no alert while it is disarmed, while one is on the air, or while it starts or wakes (R117). -/
theorem State.not_mayTake {s : State} (h : s.al.armed = false ∨ s.al.onAir ≠ none ∨ s.air.state = .starting ∨ s.air.state = .alertWake)
    (p : PendingAlert) : s.mayTake p = false := by
  unfold State.mayTake State.admitsClass
  rcases h with disarmed | busy | starting | wakes
  · simp [disarmed]
  · simp [busy]
  · simp [starting]
  · simp [wakes]

theorem State.checkAlerts_of_due {s : State} {p : PendingAlert} {rest : List PendingAlert} (table : s.al.table = p :: rest)
    (due : p.due = true) (armed : s.al.armed = true) (quiet : s.al.onAir = none) (onAir : s.air.state = .onAir) :
    s.checkAlerts = s.takeAir p rest := by
  unfold State.checkAlerts
  rw [table]
  exact if_pos (by rw [due, State.mayTake_of_onAir armed quiet onAir]; rfl)

/-- Nothing takes the air where the first pending alert is not due or the unit may take none (R117). -/
theorem State.checkAlerts_of_not {s : State} (h : s.al.armed = false ∨ s.al.onAir ≠ none ∨ s.air.state = .starting ∨
    s.air.state = .alertWake ∨ ∀ p, s.al.table.head? = some p → p.due = false) : s.checkAlerts = s := by
  unfold State.checkAlerts
  split
  · rfl
  · rename_i p rest table
    refine if_neg ?_
    have not : s.mayTake p = false ∨ p.due = false := by
      rcases h with disarmed | busy | starting | wakes | waits
      · exact .inl (State.not_mayTake (.inl disarmed) p)
      · exact .inl (State.not_mayTake (.inr (.inl busy)) p)
      · exact .inl (State.not_mayTake (.inr (.inr (.inl starting))) p)
      · exact .inl (State.not_mayTake (.inr (.inr (.inr wakes))) p)
      · exact .inr (waits p (by rw [table]; rfl))
    rcases not with not | not <;> simp [not]

/-- A break opportunity gives the air to a first pending alert that is not due (R118). -/
theorem State.takeBreak_of_waiting {s : State} {p : PendingAlert} {rest : List PendingAlert} (signal : s.sq.breakSignal = true)
    (table : s.al.table = p :: rest) (waits : p.due = false) (armed : s.al.armed = true) (quiet : s.al.onAir = none)
    (onAir : s.air.state = .onAir) : s.takeBreak = (s.setSq { s.sq with breakSignal := false }).takeAir p rest := by
  unfold State.takeBreak State.breakOpportunity
  rw [if_pos signal, show (s.setSq { s.sq with breakSignal := false }).al.table = p :: rest from table]
  exact if_pos (by
    rw [waits, State.mayTake_of_onAir (s := s.setSq { s.sq with breakSignal := false }) armed quiet onAir]; rfl)

/-! ### WINDOW_EXPIRY -/

theorem PendingAlert.expired_iff (p : PendingAlert) (now : Clock) : p.expired now = true ↔
    p.due = false ∧ ∃ e, p.expiry = some e ∧ (e - p.arrival).toNat ≤ (now - p.arrival).toNat := by
  unfold PendingAlert.expired
  cases p.expiry with
  | none => simp
  | some e =>
    constructor
    · intro run
      obtain ⟨undue, le⟩ := (Bool.and_eq_true _ _).mp run
      exact ⟨by simpa using undue, e, rfl, of_decide_eq_true le⟩
    · rintro ⟨undue, e, ⟨⟩, le⟩
      exact (Bool.and_eq_true _ _).mpr ⟨by rw [undue]; rfl, decide_eq_true le⟩

/-- Where no window of that id has run, WINDOW_EXPIRY changes nothing (log 5). -/
theorem State.windowExpiry_of_not {s : State} {id : Nat} (waits : ∀ p ∈ s.al.table, p.id = id → p.due = true ∨ p.expiry = none ∨
    ∀ e, p.expiry = some e → (s.ev.clock - p.arrival).toNat < (e - p.arrival).toNat) : s.windowExpiry id = s := by
  refine if_neg fun run => ?_
  obtain ⟨p, mem, both⟩ := List.any_eq_true.mp run
  obtain ⟨named, expired⟩ := (Bool.and_eq_true _ _).mp both
  obtain ⟨undue, e, window, le⟩ := (p.expired_iff _).mp expired
  rcases waits p mem (of_decide_eq_true named) with due | none | later
  · exact nomatch undue.symm.trans due
  · exact nomatch none.symm.trans window
  · exact Nat.not_le_of_lt (later e window) le

/-- Where the window of one alert has run, it becomes due, and the first alert is looked at (R114, R117). -/
theorem State.windowExpiry_of_expired {s : State} {pre post : List PendingAlert} {p : PendingAlert} (table : s.al.table = pre ++ p :: post)
    (others : ∀ q ∈ pre ++ post, q.id ≠ p.id) (expired : p.expired s.ev.clock = true) :
    s.windowExpiry p.id = (s.setAl { s.al with table := pre ++ { p with due := true } :: post }).checkAlerts := by
  have kept : ∀ l : List PendingAlert, (∀ q ∈ l, q ∈ pre ++ post) →
      l.map (fun q => if q.id = p.id && q.expired s.ev.clock then { q with due := true } else q) = l := fun l sub =>
    (List.map_congr_left fun q mem => if_neg (by simp [others q (sub q mem)])).trans l.map_id
  unfold State.windowExpiry
  rw [if_pos, table, List.map_append, List.map_cons, kept pre fun q mem => List.mem_append_left _ mem,
    kept post fun q mem => List.mem_append_right _ mem]
  · simp [expired]
  · rw [table]; simp [expired]

/-! ### A break opportunity at a stop -/

/-- What an alert does that takes the air from a sequencer just stopped, it does from the one that ran (R44, R118; log 43). -/
theorem State.givesAirTo.of_stop {s t : State} {p : PendingAlert} {rest : List PendingAlert}
    (h : (s.setSq { s.sq.stop with breakSignal := false }).givesAirTo t p rest) : s.givesAirTo t p rest := by
  obtain ⟨al, ⟨r, pushed, cause, lines⟩, changes⟩ := h
  obtain ⟨stack, time, mode, gone, decks, list, tail, done, lost, live, taken, kept⟩ := pushed
  rw [Sequencer.stop_eq] at decks list tail done lost live taken
  refine ⟨al, ⟨r, ⟨stack, time, mode, gone, fun d => ?_, list, tail, done, lost, live, ?_, kept⟩, cause, lines⟩, changes⟩
  · refine (decks d).trans ?_
    rw [← Deck.pause_eq, ← Deck.pause_eq]
    cases d <;> exact Deck.pause_pause _
  · refine taken.trans ?_
    exact Bool.or_false _

/-- Settles O36: what each event makes due, and the look at the first pending alert that follows it. -/
theorem pendingAlertsComeDue : Obligations.PendingAlertsComeDue := by
  refine ⟨fun s id => ⟨fun waits => congrArg Host.Outcome.next (State.windowExpiry_of_not waits), ?_⟩, ?_, ?_⟩
  · rintro pre post p e table rfl others waits window run
    have expired := (p.expired_iff s.ev.clock).mpr ⟨waits, e, window, run⟩
    have done : completes (.windowExpiry p.id) s _ := congrArg Host.Outcome.next (State.windowExpiry_of_expired table others expired)
    refine ⟨fun stays => ?_, ?_⟩
    · refine done.trans (congrArg Host.Outcome.next (State.checkAlerts_of_not ?_))
      rcases stays with disarmed | busy | starting | wakes | ⟨q, head, undue⟩
      · exact .inl disarmed
      · exact .inr (.inl busy)
      · exact .inr (.inr (.inl starting))
      · exact .inr (.inr (.inr (.inl wakes)))
      · refine .inr (.inr (.inr (.inr fun q' head' => ?_)))
        have same : q' = q := by
          simp [List.head?_append, head] at head'
          exact head'.symm
        exact same ▸ undue
    · rintro rfl armed quiet onAir
      let u := s.setAl { s.al with table := { p with due := true } :: post }
      obtain ⟨air, tl, cl⟩ := State.takeAir_keeps_rest (s := u) onAir { p with due := true } post
      exact ⟨_, done.trans (congrArg Host.Outcome.next (State.checkAlerts_of_due (s := u) rfl rfl armed quiet onAir)),
        State.takeAir_givesAirTo (s := u) onAir { p with due := true } post, air, tl, cl⟩
  · intro s rest body asks
    have nothing : 0 ≤ body.length := Nat.zero_le _
    refine ⟨fun armed => turnedAway_of_reply asks rfl rfl nothing (if_pos armed), fun disarmed waits => ?_, ?_⟩
    · refine completes_of_own (own := ownAlertRearm) (u := (s.hearing .alr (0x43#8 :: rest)).setAl { s.al with armed := true })
        asks rfl rfl nothing ?_ rfl
      unfold ownAlertRearm
      rw [if_neg (by exact ne_true_of_eq_false disarmed), State.checkAlerts_of_not (.inr (.inr (.inr (.inr (by exact waits)))))]
      rfl
    · intro p post disarmed quiet onAir table due
      let u := (s.hearing .alr (0x43#8 :: rest)).setAl { s.al with armed := true }
      have own : ownAlertRearm body (s.hearing .alr (0x43#8 :: rest)) = (u.takeAir p post).done :=
        (if_neg (by exact ne_true_of_eq_false disarmed)).trans
          (congrArg State.done (State.checkAlerts_of_due (s := u) table due rfl quiet onAir))
      obtain ⟨air, tl, cl⟩ := State.takeAir_keeps_rest (s := u) onAir p post
      exact ⟨_, completes_of_own asks rfl rfl nothing own cl, State.takeAir_givesAirTo (s := u) onAir p post, air, tl, rfl⟩
  · intro s l rest body p post asks lane running alone table waits armed quiet onAir
    let u := (s.hearing l (0x15#8 :: rest)).setSq s.sq.stop
    have signal : u.sq.breakSignal = true := by
      show s.sq.stop.breakSignal = true
      rw [Sequencer.stop_eq, running]
      exact Bool.or_true _
    have own : ownSeqStop body (s.hearing l (0x15#8 :: rest)) = ((u.setSq { u.sq with breakSignal := false }).takeAir p post).done := by
      unfold ownSeqStop
      rw [if_neg, if_neg]
      · show ({ state := u.takeBreak, code := .done, body := [] } : Answer) = _
        rw [State.takeBreak_of_waiting (s := u) signal table waits armed quiet onAir]
        rfl
      · show s.sq.state ≠ .stopped
        rw [running]; nofun
      · rintro (stands | preempted)
        · exact stands alone
        · exact nomatch running.symm.trans preempted
    obtain ⟨air, tl, cl⟩ := State.takeAir_keeps_rest (s := u.setSq { u.sq with breakSignal := false }) onAir p post
    have given := State.takeAir_givesAirTo (s := u.setSq { u.sq with breakSignal := false }) onAir p post
    have records := State.takeAir_records (s := u.setSq { u.sq with breakSignal := false }) onAir p post
    refine ⟨_, completes_of_own asks rfl (autOrCon_of_ne_alr lane) (Nat.zero_le _) own cl, State.givesAirTo.of_stop given,
      ⟨_, records.trans (by show _ :: s.ps.records.take 7 = _; rw [alone]; rfl), ?_⟩, ?_, air, tl, rfl⟩
    · show s.sq.stop.state = .stopped
      rw [Sequencer.stop_eq]
    · exact State.takeAir_noSignalStands (s := u.setSq { u.sq with breakSignal := false }) onAir p post

/-! ### A fallback takes the air -/

/-- A push of a FAILOVER or a REMOTE_FALLBACK does what `State.fallsBackTo` says (R56, R57). -/
theorem State.push_fallsBackTo (s : State) {c : Cause} (fallback : c = .failover ∨ c = .remoteFallback) : s.fallsBackTo (s.push c) c := by
  have lines : (s.push c).lc = s.lc.forceHold s.alertActive s.ev.clock := by
    rw [State.push_eq]
    rcases fallback with rfl | rfl <;> exact congrArg (s.lc.forceHold s.alertActive) (s.pushed_clock _)
  have entries : ∀ src, (s.push c).entry src = if src = .fbk then
      { s.entry .fbk with target := 16384 : Entry }.setLive s.preemptFade else (s.entry src).setReleasing s.preemptFade := fun src => by
    rw [State.push_eq]
    rcases fallback with rfl | rfl <;> cases src <;> rfl
  refine ⟨⟨_, s.push_pushesTo c, rfl, rfl⟩, entries .fbk, fun src other => (entries src).trans (if_neg other), fun n away => ?_,
    fun n airing => ?_, ?_, s.push_al c, ?_, s.push_shows c⟩
  · show (s.push c).lc.lines.get n = _
    rw [lines]
    unfold LineController.forceHold
    rw [PerLine_get_mapWith]
    exact if_neg away
  · show ((s.push c).lc.lines.get n).state = _ ∧ ((s.push c).lc.lines.get n).seize = _ ∧ ((s.push c).lc.lines.get n).holdStart = _ ∧
      ((s.push c).lc.lines.get n).holdLong = _
    rw [lines, LineController.forceHold_onAir _ _ airing]
    exact ⟨rfl, rfl, rfl, rfl⟩
  · rw [State.push_sq, Sequencer.preempt_eq]
    rcases fallback with rfl | rfl <;> rfl
  · rw [State.push_eq]
    rcases fallback with rfl | rfl <;> rfl

/-- The silence monitor, the events raised later and a break opportunity given or lost leave what a fallback has done. -/
theorem State.fallsBackTo.settled {s t : State} {c : Cause} (h : s.fallsBackTo t c) (k : EventKind) (b : Bool) (m : Monitor) :
    s.fallsBackTo { t with
      sq := { t.sq with breakSignal := b }, ev := t.ev.raise k, air := { t.air with monitor := m } } c := by
  obtain ⟨⟨r, pushed, cause, saved⟩, fbk, others, away, held, preempted, al, du, shows⟩ := h
  exact ⟨⟨r, pushed.mono rfl, cause, saved⟩, fbk, others, away, held, preempted, al, du, EventUnit.shows.raise shows k⟩

/-- A break opportunity stands after a fallback's push exactly where one has still to be given (R47; log 43). -/
theorem State.push_failover_breakSignal (s : State) : (s.push .failover).sq.breakSignal = true ↔ s.breakDue := by
  rw [State.push_sq, Sequencer.preempt_eq]
  simp [State.breakDue, State.headAtSegue, and_assoc]

/-- A break opportunity gives the air to none while the unit may take none, or the first pending alert is due (R118). -/
theorem State.takeBreak_of_not {s : State} (h : s.sq.breakSignal = false ∨ s.al.armed = false ∨ s.air.state = .alertWake ∨
    ∀ p, s.al.table.head? = some p → p.due = true) : s.takeBreak = s.setSq { s.sq with breakSignal := false } := by
  unfold State.takeBreak State.breakOpportunity
  split
  · rename_i signal
    split
    · rfl
    · rename_i p rest table
      refine if_neg ?_
      have not : s.mayTake p = false ∨ p.due = true := by
        rcases h with silent | disarmed | wakes | due
        · exact nomatch signal.symm.trans silent
        · exact .inl (State.not_mayTake (.inl disarmed) p)
        · exact .inl (State.not_mayTake (.inr (.inr (.inr wakes))) p)
        · exact .inr (due p (by rw [show s.al.table = p :: rest from table]; rfl))
      rcases not with not | not
      · rw [show (s.setSq { s.sq with breakSignal := false }).mayTake p = false from not, Bool.and_false]; nofun
      · simp [not]
  · rename_i silent
    rw [← Bool.eq_false_iff.mpr silent]
    rfl

/-! ### BLOCK_JUDGED -/

/-- The state of a block that is judged once the next block begins (R143). -/
theorem State.blockJudged_of_clean {s : State} (due : s.air.monitor.due = true) (clean : s.air.monitor.clean = true)
    (free : s.monitorHeld = false) : s.blockJudged =
      s.judgeBlock.setMonitor { s.judgeBlock.air.monitor with peak := 0, clean := true, due := false } := by
  unfold State.blockJudged
  rw [if_pos due, clean, free]
  rfl

/-- The failover of a silent block that brings the run to the limit (R146). -/
theorem State.judgeBlock_of_limit {s : State} (silent : s.air.monitor.peak < s.pf.working.silenceThreshold)
    (limit : s.pf.working.silenceLimit * 100 ≤ s.air.monitor.run + 1) : s.judgeBlock =
      (((s.push .failover).setMonitor { s.air.monitor with run := 0 }).raise .failover).takeBreak := by
  unfold State.judgeBlock
  dsimp only
  rw [if_pos silent, if_pos (by exact limit), State.push_air]

theorem State.givesAirTo.setMonitor {s t : State} {p : PendingAlert} {rest : List PendingAlert} (h : s.givesAirTo t p rest) (m : Monitor) :
    s.givesAirTo (t.setMonitor m) p rest := h

/-- The monitor is free on the air, with no alert there (R144). -/
theorem State.onAir_of_monitor_free {s : State} (free : s.monitorHeld = false) : s.air.state = .onAir ∧ s.al.onAir = none := by
  unfold State.monitorHeld at free
  obtain ⟨free, -⟩ := Bool.or_eq_false_iff.mp free
  obtain ⟨onAir, quiet⟩ := Bool.or_eq_false_iff.mp free
  exact ⟨by simpa using onAir, by simpa [State.alertActive] using quiet⟩

theorem State.push_keeps_shown {s : State} {k : EventKind} (h : s.ev.shows k) (c : Cause) : (s.push c).ev.shows k := by
  have kept : (s.pushed c).ev.shows k := by
    unfold State.pushed
    dsimp only
    split
    · exact h
    · exact h.raise _
  rw [State.push_eq]
  cases c <;> exact kept.raise _

theorem State.takeAir_keeps_shown {s : State} (onAir : s.air.state = .onAir) {k : EventKind} (h : s.ev.shows k) (p : PendingAlert)
    (rest : List PendingAlert) : (s.takeAir p rest).ev.shows k := by
  let u := (s.setAl { s.al with table := rest }).beginAttention p
  rw [State.takeAir_of_onAir onAir p rest (u := u) rfl]
  exact (State.push_keeps_shown (s := u) h .alert).raise .alertStart

/-- Whether a break opportunity of a station on the air gives the air to an alert or not, the air state block, the link and the lanes stay,
and so does every event in the status sets. -/
theorem State.takeBreak_keeps_rest {s : State} (onAir : s.air.state = .onAir) : s.takeBreak.air = s.air ∧ s.takeBreak.tl = s.tl ∧
    s.takeBreak.cl = s.cl ∧ ∀ k, s.ev.shows k → s.takeBreak.ev.shows k := by
  unfold State.takeBreak State.breakOpportunity
  split
  · split
    · exact ⟨rfl, rfl, rfl, fun _ h => h⟩
    · rename_i p rest _
      split
      · obtain ⟨air, tl, cl⟩ := State.takeAir_keeps_rest (s := s.setSq { s.sq with breakSignal := false }) onAir p rest
        exact ⟨air, tl, cl, fun k h => State.takeAir_keeps_shown (s := s.setSq { s.sq with breakSignal := false }) onAir h p rest⟩
      · exact ⟨rfl, rfl, rfl, fun _ h => h⟩
  · exact ⟨rfl, rfl, rfl, fun _ h => h⟩

/-- Settles O41: the judgement of a block with none, and the failover of one that brings the run to the limit. -/
theorem silenceIsJudgedAndFailsOver : Obligations.SilenceIsJudgedAndFailsOver := by
  refine ⟨fun s => ⟨fun early => ?_, fun due held => ?_, fun due clean free => ⟨fun loud => ?_, fun silent below => ?_⟩⟩, ?_⟩
  · exact congrArg Host.Outcome.next (if_neg (ne_true_of_eq_false early))
  · refine congrArg Host.Outcome.next ?_
    unfold State.blockJudged
    rw [if_pos due, held]
    rfl
  · refine congrArg Host.Outcome.next ?_
    rw [State.blockJudged_of_clean due clean free, State.judgeBlock]
    dsimp only
    rw [if_neg (Nat.not_lt.mpr loud)]
    rfl
  · refine congrArg Host.Outcome.next ?_
    have half : limitBlocks s.pf.working.silenceLimit / 2 = s.pf.working.silenceLimit * 50 := by
      unfold limitBlocks; omega
    rw [State.blockJudged_of_clean due clean free, State.judgeBlock]
    dsimp only
    rw [if_pos silent, if_neg (by exact Nat.not_le.mpr below), half, ← Bool.decide_and]
    unfold State.raiseIf
    split
    · rename_i climbs
      rw [if_pos (of_decide_eq_true climbs)]; rfl
    · rename_i climbs
      rw [if_neg (of_decide_eq_false (Bool.eq_false_iff.mpr climbs))]; rfl
  · intro s due clean free silent limit
    obtain ⟨onAir, quiet⟩ := State.onAir_of_monitor_free free
    let v := ((s.push .failover).setMonitor { s.air.monitor with run := 0 }).raise .failover
    have airing : v.air.state = .onAir := by
      show (s.push .failover).air.state = _
      rw [State.push_air]; exact onAir
    have judged : completes .blockJudged s (v.takeBreak.setMonitor { v.takeBreak.air.monitor with peak := 0, clean := true, due := false }) := by
      refine congrArg Host.Outcome.next ?_
      rw [State.blockJudged_of_clean due clean free, State.judgeBlock_of_limit silent limit]
    obtain ⟨air, tl, cl, shown⟩ := State.takeBreak_keeps_rest airing
    have alerts : v.al = s.al := s.push_al .failover
    have fallback := s.push_fallsBackTo (c := .failover) (.inl rfl)
    refine ⟨_, judged, fun none => ?_, fun p post broken table waits armed => ?_, ?_, rfl, rfl, ?_, ?_, ?_, shown _ (EventUnit.shows_raise _ _)⟩
    · have lost : v.takeBreak = v.setSq { v.sq with breakSignal := false } := State.takeBreak_of_not (by
        rw [alerts]
        rcases none with nothing | disarmed | wakes | head
        · exact .inl (Bool.eq_false_iff.mpr fun signal => nothing (s.push_failover_breakSignal.mp signal))
        · exact .inr (.inl disarmed)
        · exact nomatch onAir.symm.trans wakes
        · exact .inr (.inr (.inr head)))
      rw [lost]
      exact fallback.settled .failover false _
    · have taken : v.takeBreak = (v.setSq { v.sq with breakSignal := false }).takeAir p post :=
        State.takeBreak_of_waiting (s.push_failover_breakSignal.mpr broken) (by rw [alerts]; exact table) waits (by rw [alerts]; exact armed)
          (by rw [alerts]; exact quiet) airing
      have settled : s.fallsBackTo (v.setSq { v.sq with breakSignal := false }) .failover :=
        fallback.settled .failover false { s.air.monitor with run := 0 }
      rw [taken]
      exact ⟨_, settled, (State.takeAir_givesAirTo (s := v.setSq { v.sq with breakSignal := false }) airing p post).setMonitor _⟩
    · show v.takeBreak.air.monitor.run = 0
      rw [air]; rfl
    · show v.takeBreak.air.state = _
      rw [air]; exact airing.trans onAir.symm
    · exact tl.trans (s.push_tl .failover)
    · exact cl.trans (s.push_cl .failover)

end Sys2Proof.Machine
end

section
/-! SUPPORT. What a review finds to do (R33, R35, R47): nothing, or one start. Then the requests that edit the list: SEQ_APPEND (O22),
SEQ_INSERT and SEQ_REMOVE (O23). -/

namespace Sys2Proof.Machine

set_option Elab.async false

/-! ### What the sequencer finds of a deck -/

section
variable {q : Sequencer} {d : DeckId} {id : Nat}

theorem Sequencer.boundDeck_of_item (here : (q.deck d).item = some id) (other : (q.deck d.other).item ≠ some id) :
    q.boundDeck id = some d := by
  cases d with
  | a => exact if_pos here
  | b => exact (if_neg other).trans (if_pos here)

theorem Sequencer.boundDeck_of_unbound (a : q.deckA.item ≠ some id) (b : q.deckB.item ≠ some id) : q.boundDeck id = none :=
  (if_neg a).trans (if_neg b)

theorem Sequencer.playing_of_state (here : (q.deck d).state = .playing) (other : (q.deck d.other).state ≠ .playing) :
    q.playing = some d := by
  cases d with
  | a => exact if_pos here
  | b => exact (if_neg other).trans (if_pos here)

theorem Sequencer.playing_of_idle (d : DeckId) (here : (q.deck d).state ≠ .playing) (other : (q.deck d.other).state ≠ .playing) :
    q.playing = none := by
  cases d with
  | a => exact (if_neg here).trans (if_neg other)
  | b => exact (if_neg other).trans (if_neg here)

theorem Sequencer.freeDeck_of_held (a : q.deckA.state ≠ .free) (b : q.deckB.state ≠ .free) : q.freeDeck = none :=
  (if_neg a).trans (if_neg b)

/-- The head on a deck and nothing behind it that could be cued: there is no cue candidate (R33). -/
theorem Sequencer.cueCandidate_of_bound {h : Item} {tl : List Item} (list : q.list = h :: tl) (bound : q.boundDeck h.id = some d)
    (next : ∀ n, tl.head? = some n → n.kind = .live ∨ ∃ e, q.boundDeck n.id = some e) : q.cueCandidate = none := by
  unfold Sequencer.cueCandidate
  rw [list]
  dsimp only
  rw [if_neg (by simp [Sequencer.cueable, bound])]
  split
  · rfl
  · rename_i n _
    refine if_neg ?_
    rcases next n rfl with live | ⟨e, held⟩
    · simp [Sequencer.cueable, live]
    · simp [Sequencer.cueable, held]

theorem Sequencer.headAtSegue_of_idle (idle : q.playing = none) : q.headAtSegue = false := by
  unfold Sequencer.headAtSegue
  rw [idle]

theorem Sequencer.headAtSegue_eq {h : Item} {tl : List Item} (playing : q.playing = some d) (list : q.list = h :: tl) :
    q.headAtSegue = h.segueReached (q.deck d).position := by
  unfold Sequencer.headAtSegue
  rw [playing, list]

end

/-! ### Reviews -/

section
variable {s : State}

theorem State.markSegue_of_not_running (h : s.sq.state ≠ .running) : s.markSegue = s := by
  have same : s.sq.markSegue = s.sq := if_neg (by simp [h])
  unfold State.markSegue
  rw [same]
  rfl

theorem State.cue_of_held (a : s.sq.deckA.state ≠ .free) (b : s.sq.deckB.state ≠ .free) : s.cue = s := by
  have once : s.cueOnce = s := by
    unfold State.cueOnce
    rw [Sequencer.freeDeck_of_held a b]
  rw [State.cue, once, once]

/-- A review while not RUNNING only cues (R33). -/
theorem State.review_of_not_running (h : s.sq.state ≠ .running) (late : Bool) : s.review late = s.cue := by
  unfold State.review
  rw [State.markSegue_of_not_running h, State.takeStart_of_not_running h, State.takeStart_of_not_running h,
    State.takeStart_of_not_running h]

/-- A start is not due while the head plays before its segue point (R35). -/
theorem State.takeStart_of_early {d : DeckId} (playing : s.sq.playing = some d) (early : s.headAtSegue = false) (late : Bool) :
    s.takeStart late = s :=
  if_neg (by simp [State.startDue, playing, early])

/-- A due start waits for a deck that is not READY (R35). -/
theorem State.takeStart_of_not_ready {i : Item} (item : s.itemToStart = some i) (kind : i.kind ≠ .live)
    (waits : ∀ d, s.sq.boundDeck i.id = some d → (s.deck d).state ≠ .ready) (late : Bool) : s.takeStart late = s := by
  unfold State.takeStart
  split
  · rw [item]
    dsimp only
    rw [if_neg kind]
    split
    · rfl
    · rename_i d bound
      exact if_neg (waits d bound)
  · rfl

/-- A due start is taken on a READY deck (R35). -/
theorem State.takeStart_of_ready {i : Item} {d : DeckId} (due : s.startDue = true) (item : s.itemToStart = some i) (kind : i.kind ≠ .live)
    (bound : s.sq.boundDeck i.id = some d) (ready : (s.deck d).state = .ready) (late : Bool) : s.takeStart late = s.startItem d i late := by
  unfold State.takeStart
  rw [if_pos due, item]
  dsimp only
  rw [if_neg kind, bound]
  exact if_pos ready

/-- With both decks held and no start due a review finds nothing to do. -/
theorem State.review_of_held (h : s.sq.state ≠ .running) (a : s.sq.deckA.state ≠ .free) (b : s.sq.deckB.state ≠ .free) (late : Bool) :
    s.review late = s := by
  rw [State.review_of_not_running h, State.cue_of_held a b]

/-- The first item of an empty sequence is cued on deck A (R33). -/
theorem State.review_of_first_item {i : Item} (list : s.sq.list = [i]) (kind : i.kind ≠ .live) (a : s.sq.deckA = Deck.initial)
    (b : s.sq.deckB = Deck.initial) (late : Bool) : s.review late = s.bindDeck .a i.id := by
  have idle : s.sq.playing = none := Sequencer.playing_of_free (d := .a) a b
  have unbound : s.sq.boundDeck i.id = none := Sequencer.boundDeck_of_unbound (by rw [a]; nofun) (by rw [b]; nofun)
  have waits : ∀ late, s.takeStart late = s := fun late => State.takeStart_of_not_ready
    (i := i) (by simp [State.itemToStart, idle, list]) kind (by rw [unbound]; nofun) late
  have first : s.cueOnce = s.bindDeck .a i.id := by
    unfold State.cueOnce
    have free : s.sq.freeDeck = some .a := if_pos (by rw [a]; rfl)
    have candidate : s.sq.cueCandidate = some i.id := by
      unfold Sequencer.cueCandidate
      rw [list]
      exact if_pos ((Sequencer.cueable_iff i).mpr ⟨kind, unbound⟩)
    rw [free, candidate]
  have bound : (s.bindDeck .a i.id).sq.boundDeck i.id = some .a := if_pos rfl
  have second : (s.bindDeck .a i.id).cueOnce = s.bindDeck .a i.id := by
    have candidate := Sequencer.cueCandidate_of_bound (q := (s.bindDeck .a i.id).sq) (list : (s.bindDeck .a i.id).sq.list = [i]) bound nofun
    unfold State.cueOnce
    rw [candidate]
    split
    · contradiction
    · rfl
  unfold State.review
  rw [State.markSegue_of_not (Sequencer.headAtSegue_of_idle idle), waits, waits, waits, State.cue, first, second]

/-- A review that starts one item, and finds nothing more (R35). -/
theorem State.review_of_start {t : State} {late : Bool} (unmarked : s.headAtSegue = false) (start : s.takeStart late = t)
    (settled : t.takeStart false = t) (cued : t.cue = t) : s.review late = t := by
  unfold State.review
  rw [State.markSegue_of_not unmarked, start, settled, settled, cued]

end

/-! ### The stored form of an item (R26) -/

/-- An item's 18 bytes say one stored form. -/
theorem Item.storedFrom_unique {i j : Item} {i1 i0 k p l3 l2 l1 l0 g3 g2 g1 g0 fi1 fi0 fo1 fo0 v1 v0 : Byte} (kind : k.toNat ≤ 3)
    (hi : i.storedFrom i1 i0 k p l3 l2 l1 l0 g3 g2 g1 g0 fi1 fi0 fo1 fo0 v1 v0)
    (hj : j.storedFrom i1 i0 k p l3 l2 l1 l0 g3 g2 g1 g0 fi1 fi0 fo1 fo0 v1 v0) : i = j := by
  obtain ⟨id, skipped, kd, live, stored⟩ := hi
  obtain ⟨id', skipped', kd', live', stored'⟩ := hj
  obtain ⟨⟩ := i
  obtain ⟨⟩ := j
  dsimp only at *
  rcases Nat.lt_or_ge k.toNat 3 with less | three
  · obtain ⟨len, segue, fi, fo, gain⟩ := stored less
    obtain ⟨len', segue', fi', fo', gain'⟩ := stored' less
    subst id id' skipped skipped' kd kd' len len' segue segue' fi fi' fo fo' gain gain'
    rfl
  · obtain ⟨len, segue, fi, fo, gain⟩ := live (by omega)
    obtain ⟨len', segue', fi', fo', gain'⟩ := live' (by omega)
    subst id id' skipped skipped' kd kd' len len' segue segue' fi fi' fo fo' gain gain'
    rfl

/-- The kind a code names. -/
theorem kindOf_of_le {k : Byte} (h : k.toNat ≤ 3) : kindOf k =
    some (if k.toNat = 0 then .music else if k.toNat = 1 then .speech else if k.toNat = 2 then .spot else .live) := by
  have code : k.toNat = 0 ∨ k.toNat = 1 ∨ k.toNat = 2 ∨ k.toNat = 3 := by omega
  unfold kindOf
  rcases code with e | e | e | e <;> rw [e] <;> rfl

theorem kindOf_of_lt {k : Byte} (h : 3 < k.toNat) : kindOf k = none := by
  unfold kindOf
  split
  case h_5 => rfl
  all_goals omega

/-- What the checks see of an item's 18 bytes. -/
theorem itemBytes_eq (i1 i0 k p l3 l2 l1 l0 g3 g2 g1 g0 fi1 fi0 fo1 fo0 v1 v0 : Byte) (more : List Byte) :
    itemBytes ([i1, i0, k, p, l3, l2, l1, l0, g3, g2, g1, g0, fi1, fi0, fo1, fo0, v1, v0] ++ more) = some
      { id := word16 i1 i0
        kind := kindOf k
        lengthMs := if bitAt p 0 then some (word32 l3 l2 l1 l0) else none
        segueMs := if bitAt p 1 then some (word32 g3 g2 g1 g0) else none
        fadeInMs := word16 fi1 fi0
        fadeOutMs := word16 fo1 fo0
        gain := word16 v1 v0 } := rfl

theorem storeItem_of_timed {kind : ItemKind} (timed : kind ≠ .live) (id : Nat) (len segue : Option Nat) (fadeIn fadeOut gain : Nat) :
    storeItem id kind len segue fadeIn fadeOut gain =
      { id, kind
        length := len.map fun ms => max 1 (min ms Config.itemMaxMs) * Config.perMs
        segue := (len.map fun ms => max 1 (min ms Config.itemMaxMs) * Config.perMs).elim (segue.getD 0 * Config.perMs)
          (min (segue.getD 0 * Config.perMs))
        fadeIn := rampSamples fadeIn
        fadeOut := (len.map fun ms => max 1 (min ms Config.itemMaxMs) * Config.perMs).elim (rampSamples fadeOut)
          (min (rampSamples fadeOut))
        gain := min gain Config.unity
        skipped := false } := by
  cases kind with
  | live => exact absurd rfl timed
  | _ => cases len <;> rfl

/-- An item is stored in the form of R26. -/
theorem storeItem_storedFrom {kind : ItemKind} (i1 i0 p l3 l2 l1 l0 g3 g2 g1 g0 fi1 fi0 fo1 fo0 v1 v0 : Byte) {k : Byte}
    (code : kindOf k = some kind) : (storeItem (word16 i1 i0) kind (if bitAt p 0 then some (word32 l3 l2 l1 l0) else none)
      (if bitAt p 1 then some (word32 g3 g2 g1 g0) else none) (word16 fi1 fi0) (word16 fo1 fo0) (word16 v1 v0)).storedFrom
        i1 i0 k p l3 l2 l1 l0 g3 g2 g1 g0 fi1 fi0 fo1 fo0 v1 v0 := by
  have le : k.toNat ≤ 3 := Nat.le_of_not_lt fun lt => nomatch (kindOf_of_lt lt).symm.trans code
  have named := Option.some.inj (code.symm.trans (kindOf_of_le le))
  rcases Nat.lt_or_ge k.toNat 3 with less | three
  · have timed : kind ≠ .live := by
      rw [named]
      rcases (by omega : k.toNat = 0 ∨ k.toNat = 1 ∨ k.toNat = 2) with e | e | e <;> rw [e] <;> nofun
    rw [storeItem_of_timed timed]
    refine ⟨rfl, rfl, named, fun e => absurd e (by omega), fun _ => ⟨?_, ?_, rfl, ?_, rfl⟩⟩
    all_goals
      unfold bitAt
      generalize p.getLsbD 0 = length
      generalize p.getLsbD 1 = segue
    · cases length <;> rfl
    · cases length <;> cases segue <;> simp [Config.perMs]
    · cases length <;> simp [rampSamples, Config.maxRampMs, Config.perMs]
  · have live : kind = .live := by
      rw [named, show k.toNat = 3 by omega]; rfl
    subst live
    exact ⟨rfl, rfl, named, fun _ => ⟨rfl, rfl, rfl, rfl, rfl⟩, fun less => absurd less (by omega)⟩

/-! ### The checks of an item (R28) -/

theorem Sequencer.item_isSome_iff (q : Sequencer) (id : Nat) : (q.item id).isSome = true ↔ id ∈ q.ids := by
  unfold Sequencer.item Sequencer.ids
  rw [List.find?_isSome, List.mem_map]
  simp

section
variable {s : State} {b : ItemBytes} {k : ItemKind}

theorem State.itemChecks_of_zero (zero : b.id = 0) : s.itemChecks b = .error .badState := if_pos zero

theorem State.itemChecks_of_unknown (id : b.id ≠ 0) (kind : b.kind = none) : s.itemChecks b = .error .unknown := by
  unfold State.itemChecks
  rw [if_neg id, kind]

theorem State.itemChecks_of_full (id : b.id ≠ 0) (kind : b.kind = some k) (full : 32 ≤ s.sq.list.length) :
    s.itemChecks b = .error .full := by
  unfold State.itemChecks
  rw [if_neg id, kind]
  exact if_pos full

theorem State.itemChecks_of_duplicate (id : b.id ≠ 0) (kind : b.kind = some k) (room : s.sq.list.length < 32) (there : b.id ∈ s.sq.ids) :
    s.itemChecks b = .error .duplicate := by
  unfold State.itemChecks
  rw [if_neg id, kind]
  exact (if_neg (Nat.not_le_of_lt room)).trans (if_pos ((s.sq.item_isSome_iff b.id).mpr there))

theorem State.itemChecks_of_fresh (id : b.id ≠ 0) (kind : b.kind = some k) (room : s.sq.list.length < 32) (fresh : b.id ∉ s.sq.ids) :
    s.itemChecks b = .ok (storeItem b.id k b.lengthMs b.segueMs b.fadeInMs b.fadeOutMs b.gain) := by
  unfold State.itemChecks
  rw [if_neg id, kind]
  exact (if_neg (Nat.not_le_of_lt room)).trans (if_neg fun there => fresh ((s.sq.item_isSome_iff b.id).mp there))

end

/-- The checks let a fresh item pass in the one form its bytes say (R26, R28). -/
theorem State.itemChecks_stored {s : State} {b : ItemBytes} {i : Item} {i1 i0 k p l3 l2 l1 l0 g3 g2 g1 g0 fi1 fi0 fo1 fo0 v1 v0 : Byte}
    {more : List Byte} (bytes : itemBytes ([i1, i0, k, p, l3, l2, l1, l0, g3, g2, g1, g0, fi1, fi0, fo1, fo0, v1, v0] ++ more) = some b)
    (id : word16 i1 i0 ≠ 0) (kind : k.toNat ≤ 3) (room : s.sq.list.length < 32) (fresh : word16 i1 i0 ∉ s.sq.ids)
    (stored : i.storedFrom i1 i0 k p l3 l2 l1 l0 g3 g2 g1 g0 fi1 fi0 fo1 fo0 v1 v0) : s.itemChecks b = .ok i := by
  rw [itemBytes_eq] at bytes
  cases bytes
  have code := kindOf_of_le kind
  rw [State.itemChecks_of_fresh id code room fresh,
    Item.storedFrom_unique kind stored (storeItem_storedFrom i1 i0 p l3 l2 l1 l0 g3 g2 g1 g0 fi1 fi0 fo1 fo0 v1 v0 code)]

/-- The checks that turn an item away, in their order (R28). -/
theorem State.itemChecks_refused {s : State} {b : ItemBytes} {i1 i0 k p l3 l2 l1 l0 g3 g2 g1 g0 fi1 fi0 fo1 fo0 v1 v0 : Byte}
    {more : List Byte} (bytes : itemBytes ([i1, i0, k, p, l3, l2, l1, l0, g3, g2, g1, g0, fi1, fi0, fo1, fo0, v1, v0] ++ more) = some b) :
    (word16 i1 i0 = 0 → s.itemChecks b = .error .badState) ∧
    (word16 i1 i0 ≠ 0 → 3 < k.toNat → s.itemChecks b = .error .unknown) ∧
    (word16 i1 i0 ≠ 0 → k.toNat ≤ 3 → 32 ≤ s.sq.list.length → s.itemChecks b = .error .full) ∧
    (word16 i1 i0 ≠ 0 → k.toNat ≤ 3 → s.sq.list.length < 32 → word16 i1 i0 ∈ s.sq.ids → s.itemChecks b = .error .duplicate) := by
  rw [itemBytes_eq] at bytes
  cases bytes
  exact ⟨fun zero => State.itemChecks_of_zero zero, fun id code => State.itemChecks_of_unknown id (kindOf_of_lt code),
    fun id code => State.itemChecks_of_full id (kindOf_of_le code), 
    fun id code room there => State.itemChecks_of_duplicate id (kindOf_of_le code) room there⟩

theorem ownSeqAppend_of_error {body : List Byte} {b : ItemBytes} {u : State} {c : ReplyCode} (bytes : itemBytes body = some b)
    (refused : u.itemChecks b = .error c) : ownSeqAppend body u = u.reply c := by
  unfold ownSeqAppend
  rw [bytes]
  dsimp only
  rw [refused]

theorem ownSeqAppend_of_ok {body : List Byte} {b : ItemBytes} {u : State} {i : Item} (bytes : itemBytes body = some b)
    (taken : u.itemChecks b = .ok i) :
    ownSeqAppend body u = ((u.setSq { u.sq with list := u.sq.list ++ [i] }).review false).done.thenBreak := by
  unfold ownSeqAppend
  rw [bytes]
  dsimp only
  rw [taken]

/-- Settles O22. -/
theorem seqAppendStoresAndCues : Obligations.SeqAppendStoresAndCues := by
  refine ⟨fun s rest more i1 i0 k p l3 l2 l1 l0 g3 g2 g1 g0 fi1 fi0 fo1 fo0 v1 v0 asks quiet idle a b => ?_,
    fun s rest more i1 i0 k p l3 l2 l1 l0 g3 g2 g1 g0 fi1 fi0 fo1 fo0 v1 v0 asks quiet list tail a b id code => ?_⟩
  · have bytes := itemBytes_eq i1 i0 k p l3 l2 l1 l0 g3 g2 g1 g0 fi1 fi0 fo1 fo0 v1 v0 more
    have long : 18 ≤ ([i1, i0, k, p, l3, l2, l1, l0, g3, g2, g1, g0, fi1, fi0, fo1, fo0, v1, v0] ++ more).length :=
      Nat.le_add_left ..
    obtain ⟨zero, unknown, full, duplicate⟩ := State.itemChecks_refused (s := s.hearing .aut (0x10#8 :: rest)) bytes
    have away : ∀ c, (s.hearing .aut (0x10#8 :: rest)).itemChecks _ = .error c →
        turnedAway (.seqAppend .aut rest) s .aut (0x10#8 :: rest) c := fun c refused =>
      turnedAway_of_reply asks rfl rfl long (ownSeqAppend_of_error bytes refused)
    refine ⟨fun h => away _ (zero h), fun h1 h2 => away _ (unknown h1 h2), fun h1 h2 h3 => away _ (full h1 h2 h3),
      fun h1 h2 h3 h4 => away _ (duplicate h1 h2 h3 h4), fun i id code room fresh stored => ?_⟩
    obtain ⟨table, signal⟩ := quiet
    have own := ownSeqAppend_of_ok bytes (State.itemChecks_stored (s := s.hearing .aut (0x10#8 :: rest)) bytes id code room fresh stored)
    rw [State.review_of_held (by exact idle) (by exact a) (by exact b)] at own
    exact completes_of_done_break asks rfl rfl long own table signal rfl
  · obtain ⟨table, signal⟩ := quiet
    have bytes := itemBytes_eq i1 i0 k p l3 l2 l1 l0 g3 g2 g1 g0 fi1 fi0 fo1 fo0 v1 v0 more
    have long : 18 ≤ ([i1, i0, k, p, l3, l2, l1, l0, g3, g2, g1, g0, fi1, fi0, fo1, fo0, v1, v0] ++ more).length :=
      Nat.le_add_left ..
    have stored := storeItem_storedFrom i1 i0 p l3 l2 l1 l0 g3 g2 g1 g0 fi1 fi0 fo1 fo0 v1 v0 (kindOf_of_le (Nat.le_of_lt code))
    generalize storeItem (word16 i1 i0) _ _ _ _ _ _ = i at stored
    have own := ownSeqAppend_of_ok bytes (State.itemChecks_stored (s := s.hearing .aut (0x10#8 :: rest)) bytes id (Nat.le_of_lt code)
      (by show s.sq.list.length < 32; rw [list]; exact Nat.zero_lt_succ _)
      (by show _ ∉ s.sq.ids; unfold Sequencer.ids; rw [list, tail]; nofun) stored)
    have listed : (s.hearing .aut (0x10#8 :: rest)).sq.list ++ [i] = [i] := congrArg (· ++ [i]) list
    have timed : i.kind ≠ .live := by
      rw [stored.2.2.1]
      rcases (by omega : k.toNat = 0 ∨ k.toNat = 1 ∨ k.toNat = 2) with e | e | e <;> rw [e] <;> nofun
    rw [listed, State.review_of_first_item rfl timed (by exact a) (by exact b)] at own
    refine ⟨_, i, completes_of_done_break asks rfl rfl long own table signal rfl, rfl, stored,
      rfl, b, tail, rfl, rfl, rfl, rfl, rfl, rfl, rfl, rfl, rfl, rfl, rfl, rfl, rfl⟩

/-! ### SEQ_INSERT -/

/-- The sequence with an item inserted, and the deck it releases cued for it (R29). -/
def State.inserted (s : State) (id : Nat) (i : Item) : State :=
  (s.setSq { s.sq with list := insertAfter id i s.sq.list }).recue (s.releasedDeck id) i

section
variable {body : List Byte} {a1 a0 : Byte} {b : ItemBytes} {u : State} (bytes : itemBytes body = some b)
include bytes

theorem ownSeqInsert_of_error {c : ReplyCode} (refused : u.itemChecks b = .error c) : ownSeqInsert (a1 :: a0 :: body) u = u.reply c := by
  unfold ownSeqInsert
  dsimp only
  rw [bytes]
  dsimp only
  rw [refused]

theorem ownSeqInsert_of_ok {i : Item} (taken : u.itemChecks b = .ok i) : ownSeqInsert (a1 :: a0 :: body) u =
    if u.sq.list.any (·.id = word16 a1 a0) then ((u.inserted (word16 a1 a0) i).review false).done.thenBreak
    else u.reply .unknown := by
  unfold ownSeqInsert
  dsimp only
  rw [bytes]
  dsimp only
  rw [taken]
  rfl

end

theorem any_id_iff {l : List Item} {id : Nat} : l.any (·.id = id) = true ↔ id ∈ l.map (·.id) := by
  rw [List.any_eq_true, List.mem_map]
  simp

/-- An item inserted stands directly behind the first item of the id. -/
theorem insertAfter_append {pre post : List Item} {x : Item} (before : ∀ y ∈ pre, y.id ≠ x.id) (i : Item) :
    insertAfter x.id i (pre ++ x :: post) = pre ++ x :: i :: post := by
  induction pre with
  | nil => exact if_pos rfl
  | cons y ys ih =>
    have rest := ih fun z mem => before z (List.mem_cons_of_mem _ mem)
    exact (if_neg (before y List.mem_cons_self)).trans (congrArg (y :: ·) rest)

section
variable {s : State} {h : Item} {tl : List Item} (list : s.sq.list = h :: tl)
include list

theorem State.releasedDeck_of_not_head {id : Nat} (other : h.id ≠ id) : s.releasedDeck id = none := by
  unfold State.releasedDeck
  rw [list]
  cases tl with
  | nil => rfl
  | cons y post => exact if_neg other

theorem State.releasedDeck_of_unbound (id : Nat) (unbound : ∀ y, tl.head? = some y → s.sq.boundDeck y.id = none) :
    s.releasedDeck id = none := by
  unfold State.releasedDeck
  rw [list]
  cases tl with
  | nil => rfl
  | cons y post =>
    dsimp only
    rw [unbound y rfl, ite_self]

end

theorem State.releasedDeck_of_waiting {s : State} {h y : Item} {post : List Item} {d : DeckId} (list : s.sq.list = h :: y :: post)
    (bound : s.sq.boundDeck y.id = some d) (waits : (s.deck d).state = .cueing ∨ (s.deck d).state = .ready) :
    s.releasedDeck h.id = some d := by
  unfold State.releasedDeck
  rw [list]
  dsimp only
  rw [if_pos rfl, bound]
  exact if_pos waits

/-! What an insertion leaves of a sequence that is not RUNNING -/

theorem State.recue_none (s : State) (i : Item) : s.recue none i = s := rfl

theorem State.recue_timed (s : State) (d : DeckId) {i : Item} (timed : i.kind ≠ .live) : s.recue (some d) i = s.bindDeck d i.id :=
  if_neg timed

theorem State.recue_live (s : State) (d : DeckId) {i : Item} (live : i.kind = .live) : s.recue (some d) i = s.freeDeck d := if_pos live

section
variable {s : State} {d : DeckId} (idle : s.sq.state ≠ .running)
include idle

theorem State.review_of_bindDeck (other : (s.sq.deck d.other).state ≠ .free) (id : Nat) :
    (s.bindDeck d id).review false = s.bindDeck d id := by
  have bound : DeckState.cueing ≠ .free := nofun
  cases d with
  | a => rw [State.review_of_held (s := s.bindDeck .a id) idle bound other]
  | b => rw [State.review_of_held (s := s.bindDeck .b id) idle other bound]

/-- A deck freed finds nothing to cue while the head is on the other, with nothing or a LIVE item behind it (R33). -/
theorem State.review_of_freeDeck {h : Item} {tl : List Item} (list : s.sq.list = h :: tl) (head : (s.sq.deck d.other).item = some h.id)
    (next : ∀ n, tl.head? = some n → n.kind = .live) : (s.freeDeck d).review false = s.freeDeck d := by
  have candidate : (s.freeDeck d).sq.cueCandidate = none := by
    have still : (s.freeDeck d).sq.list = h :: tl := (Sequencer.setDeck_list ..).trans list
    refine Sequencer.cueCandidate_of_bound still (d := d.other) (Sequencer.boundDeck_of_item ?_ ?_) fun n hn => .inl (next n hn)
    · show ((s.sq.setDeck d .initial).deck d.other).item = _
      rw [Sequencer.deck_setDeck_other]; exact head
    · show ((s.sq.setDeck d .initial).deck d.other.other).item ≠ _
      rw [DeckId.other_other, Sequencer.deck_setDeck_self]; nofun
  have state : (s.freeDeck d).sq.state ≠ .running := by
    show (s.sq.setDeck d .initial).state ≠ _
    rw [Sequencer.setDeck_state]; exact idle
  rw [State.review_of_not_running state, State.cue_of_no_candidate candidate]

variable {id : Nat} {i : Item} {l : List Item} (placed : insertAfter id i s.sq.list = l)
include placed

theorem State.review_inserted (a : s.sq.deckA.state ≠ .free) (b : s.sq.deckB.state ≠ .free) (none : s.releasedDeck id = none) :
    (s.inserted id i).review false = s.setSq { s.sq with list := l } := by
  rw [State.inserted, none, State.recue_none, placed, State.review_of_held (by exact idle) (by exact a) (by exact b)]

/-- The released deck is cued for an item that is not LIVE. -/
theorem State.review_inserted_timed (other : (s.sq.deck d.other).state ≠ .free) (released : s.releasedDeck id = some d)
    (timed : i.kind ≠ .live) : (s.inserted id i).review false = (s.setSq { s.sq with list := l }).bindDeck d i.id := by
  rw [State.inserted, released, State.recue_timed _ d timed, placed, State.review_of_bindDeck (by exact idle)]
  cases d <;> exact other

/-- The released deck becomes FREE for a LIVE item, which no deck holds (log 18). -/
theorem State.review_inserted_live {h : Item} {tl : List Item} (list : l = h :: i :: tl)
    (head : (s.sq.deck d.other).item = some h.id) (released : s.releasedDeck id = some d) (live : i.kind = .live) :
    (s.inserted id i).review false = (s.setSq { s.sq with list := l }).freeDeck d := by
  rw [State.inserted, released, State.recue_live _ d live, placed, State.review_of_freeDeck (by exact idle) (by exact list)]
  · cases d <;> exact head
  · rintro n ⟨⟩
    exact live

end

/-- The items of a sequence have distinct ids. -/
theorem State.sequenceSound.before {s : State} (sound : s.sequenceSound) {pre post : List Item} {x : Item}
    (list : s.sq.list = pre ++ x :: post) : ∀ y ∈ pre, y.id ≠ x.id := fun y mem same => by
  obtain ⟨-, distinct⟩ := sound
  rw [list, List.append_assoc, List.map_append] at distinct
  exact List.disjoint_of_nodup_append distinct (List.mem_map_of_mem mem) (by simp [same])

theorem seqInsert_refuses (s : State) (rest more : List Byte)
    (a1 a0 i1 i0 k p l3 l2 l1 l0 g3 g2 g1 g0 fi1 fi0 fo1 fo0 v1 v0 : Byte)
    (asks : s.asks .aut rest ([a1, a0, i1, i0, k, p, l3, l2, l1, l0, g3, g2, g1, g0, fi1, fi0, fo1, fo0, v1, v0] ++ more)) :
    (word16 i1 i0 = 0 → turnedAway (.seqInsert .aut rest) s .aut (0x11#8 :: rest) .badState) ∧
    (word16 i1 i0 ≠ 0 → 3 < k.toNat → turnedAway (.seqInsert .aut rest) s .aut (0x11#8 :: rest) .unknown) ∧
    (word16 i1 i0 ≠ 0 → k.toNat ≤ 3 → 32 ≤ s.sq.list.length →
      turnedAway (.seqInsert .aut rest) s .aut (0x11#8 :: rest) .full) ∧
    (word16 i1 i0 ≠ 0 → k.toNat ≤ 3 → s.sq.list.length < 32 →
      word16 i1 i0 ∈ (s.sq.list ++ s.sq.tail.toList).map (·.id) →
      turnedAway (.seqInsert .aut rest) s .aut (0x11#8 :: rest) .duplicate) ∧
    (word16 i1 i0 ≠ 0 → k.toNat ≤ 3 → s.sq.list.length < 32 →
      word16 i1 i0 ∉ (s.sq.list ++ s.sq.tail.toList).map (·.id) → word16 a1 a0 ∉ s.sq.list.map (·.id) →
      turnedAway (.seqInsert .aut rest) s .aut (0x11#8 :: rest) .unknown) := by
  have bytes := itemBytes_eq i1 i0 k p l3 l2 l1 l0 g3 g2 g1 g0 fi1 fi0 fo1 fo0 v1 v0 more
  have long : 20 ≤ ([a1, a0, i1, i0, k, p, l3, l2, l1, l0, g3, g2, g1, g0, fi1, fi0, fo1, fo0, v1, v0] ++ more).length :=
    Nat.le_add_left ..
  obtain ⟨zero, unknown, full, duplicate⟩ := State.itemChecks_refused (s := s.hearing .aut (0x11#8 :: rest)) bytes
  have away : ∀ c, (s.hearing .aut (0x11#8 :: rest)).itemChecks _ = .error c →
      turnedAway (.seqInsert .aut rest) s .aut (0x11#8 :: rest) c := fun c refused =>
    turnedAway_of_reply asks rfl rfl long (ownSeqInsert_of_error bytes refused)
  refine ⟨fun h => away _ (zero h), fun h1 h2 => away _ (unknown h1 h2), fun h1 h2 h3 => away _ (full h1 h2 h3),
    fun h1 h2 h3 h4 => away _ (duplicate h1 h2 h3 h4), fun id code room fresh absent => ?_⟩
  have own := ownSeqInsert_of_ok (u := s.hearing .aut (0x11#8 :: rest)) (a1 := a1) (a0 := a0) bytes
    (State.itemChecks_stored bytes id code room fresh (storeItem_storedFrom i1 i0 p l3 l2 l1 l0 g3 g2 g1 g0 fi1 fi0 fo1 fo0 v1 v0
      (kindOf_of_le code)))
  exact turnedAway_of_reply asks rfl rfl long (own.trans (if_neg fun there => absent (any_id_iff.mp there)))

/-- SEQ_INSERT of an item that passes the checks, into a sequence that is not RUNNING and names the item before it (R29). -/
theorem seqInsert_completes {s : State} {rest more : List Byte}
    {a1 a0 i1 i0 k p l3 l2 l1 l0 g3 g2 g1 g0 fi1 fi0 fo1 fo0 v1 v0 : Byte} {i : Item}
    (asks : s.asks .aut rest ([a1, a0, i1, i0, k, p, l3, l2, l1, l0, g3, g2, g1, g0, fi1, fi0, fo1, fo0, v1, v0] ++ more))
    (quiet : s.noBreakTaken) (id : word16 i1 i0 ≠ 0) (code : k.toNat ≤ 3) (room : s.sq.list.length < 32)
    (fresh : word16 i1 i0 ∉ s.sq.ids) (stored : i.storedFrom i1 i0 k p l3 l2 l1 l0 g3 g2 g1 g0 fi1 fi0 fo1 fo0 v1 v0)
    (there : word16 a1 a0 ∈ s.sq.list.map (·.id)) {u : State}
    (left : ((s.hearing .aut (0x11#8 :: rest)).inserted (word16 a1 a0) i).review false = u) (al : u.al = s.al) (cl : u.cl = s.lanesHeard .aut (0x11#8 :: rest)) :
    completes (.seqInsert .aut rest) s
      { u with sq := { u.sq with breakSignal := s.sq.breakSignal }, cl := s.replied .aut (0x11#8 :: rest) .done [] } := by
  have bytes := itemBytes_eq i1 i0 k p l3 l2 l1 l0 g3 g2 g1 g0 fi1 fi0 fo1 fo0 v1 v0 more
  have long : 20 ≤ ([a1, a0, i1, i0, k, p, l3, l2, l1, l0, g3, g2, g1, g0, fi1, fi0, fo1, fo0, v1, v0] ++ more).length :=
    Nat.le_add_left ..
  have own := (ownSeqInsert_of_ok (u := s.hearing .aut (0x11#8 :: rest)) (a1 := a1) (a0 := a0) bytes
    (State.itemChecks_stored bytes id code room fresh stored)).trans (if_pos (any_id_iff.mpr there))
  rw [left] at own
  exact completes_of_done_break asks rfl rfl long own (by rw [al]; exact quiet.1) quiet.2 cl

/-! ### SEQ_REMOVE -/

section
variable {s : State} {id : Nat} {h : Item} {tl : List Item} {body : List Byte} {i1 i0 : Byte}

theorem ownSeqRemove_of_behind (there : word16 i1 i0 ∈ s.sq.list.map (·.id)) (list : s.sq.list = h :: tl) (behind : h.id ≠ word16 i1 i0)
    {u : State} (left : (s.removeItem (word16 i1 i0)).review false = u) : ownSeqRemove (i1 :: i0 :: body) s = u.done.thenBreak := by
  rw [← left]
  exact (if_pos (any_id_iff.mpr there)).trans (if_neg (by rw [list]; simpa using behind))

theorem State.removeItem_of_unbound (list : s.sq.list = h :: tl) (behind : h.id ≠ id) (unbound : s.sq.boundDeck id = none) :
    s.removeItem id = s.setSq { s.sq with list := h :: tl.filter (·.id ≠ id) } := by
  unfold State.removeItem
  rw [unbound, list]
  simp [behind]

theorem State.removeItem_of_bound {d : DeckId} (list : s.sq.list = h :: tl) (behind : h.id ≠ id) (bound : s.sq.boundDeck id = some d) :
    s.removeItem id = ((s.setSq { s.sq with list := h :: tl.filter (·.id ≠ id) }).addDone
      { item := id, start := none, aired := 0, outcome := .removedCued }).freeDeck d := by
  unfold State.removeItem
  rw [bound, list]
  simp [behind]

end

/-- Settles O23: the checks, the insertion behind the head and behind any other item, and the removal. -/
theorem seqInsertAndRemoveEditTheList : Obligations.SeqInsertAndRemoveEditTheList := by
  refine ⟨seqInsert_refuses, fun s rest more a1 a0 i1 i0 k p l3 l2 l1 l0 g3 g2 g1 g0 fi1 fi0 fo1 fo0 v1 v0 i asks quiet sound idle a b id
    code room fresh stored => ⟨fun pre x post list named free => ?_, fun h y post d list named here other waits => ⟨fun timed => ?_,
      fun live head => ?_⟩⟩, ?_⟩
  · have there : word16 a1 a0 ∈ s.sq.list.map (·.id) := by rw [list]; simp [named]
    have none : s.releasedDeck (word16 a1 a0) = none := by
      cases pre with
      | nil =>
        refine State.releasedDeck_of_unbound list _ fun y head => ?_
        obtain ⟨ya, yb⟩ := free.resolve_left (fun ne => ne rfl) y head
        exact Sequencer.boundDeck_of_unbound ya yb
      | cons z zs => exact State.releasedDeck_of_not_head list (named ▸ sound.before list z List.mem_cons_self)
    have placed : insertAfter (word16 a1 a0) i s.sq.list = pre ++ x :: i :: post := by
      rw [list, ← named]
      exact insertAfter_append (sound.before list) i
    have done := seqInsert_completes asks quiet id code room fresh stored there
      (State.review_inserted (s := s.hearing .aut (0x11#8 :: rest)) idle placed a b none) rfl rfl
    exact done
  · have there : word16 a1 a0 ∈ s.sq.list.map (·.id) := by rw [list]; simp [named]
    have released := State.releasedDeck_of_waiting list (Sequencer.boundDeck_of_item here other) waits
    rw [named] at released
    have placed : insertAfter (word16 a1 a0) i s.sq.list = h :: i :: y :: post := by
      rw [list, ← named]; exact if_pos rfl
    have held : (s.sq.deck d.other).state ≠ .free := by cases d with
      | a => exact b
      | b => exact a
    have done := seqInsert_completes asks quiet id code room fresh stored there
      (State.review_inserted_timed (s := s.hearing .aut (0x11#8 :: rest)) idle placed held released timed) rfl rfl
    refine done.trans ?_
    cases d <;> rfl
  · have there : word16 a1 a0 ∈ s.sq.list.map (·.id) := by rw [list]; simp [named]
    have released := State.releasedDeck_of_waiting list (Sequencer.boundDeck_of_item here other) waits
    rw [named] at released
    have placed : insertAfter (word16 a1 a0) i s.sq.list = h :: i :: y :: post := by
      rw [list, ← named]; exact if_pos rfl
    have done := seqInsert_completes asks quiet id code room fresh stored there
      (State.review_inserted_live (s := s.hearing .aut (0x11#8 :: rest)) idle placed rfl head released live) rfl rfl
    refine done.trans ?_
    cases d <;> rfl
  · intro s rest more i1 i0 asks quiet idle a b
    have long : 2 ≤ (i1 :: i0 :: more).length := Nat.le_add_left ..
    refine ⟨fun absent => ?_, fun h tl list => ⟨fun named => ?_, fun behind mem freeA freeB => ?_⟩, fun h x d list named other here head => ?_⟩
    · exact turnedAway_of_reply (own := ownSeqRemove) asks rfl rfl long (if_neg fun there => absent (any_id_iff.mp there))
    · have there : word16 i1 i0 ∈ s.sq.list.map (·.id) := by rw [list]; simp [named]
      refine turnedAway_of_reply (own := ownSeqRemove) asks rfl rfl long ((if_pos (any_id_iff.mpr there)).trans (if_pos ?_))
      show s.sq.list.head?.map (·.id) = _
      rw [list, ← named]; rfl
    · have there : word16 i1 i0 ∈ s.sq.list.map (·.id) := by rw [list]; exact List.mem_cons_of_mem _ mem
      have left := State.removeItem_of_unbound (s := s.hearing .aut (0x12#8 :: rest)) list behind
        (Sequencer.boundDeck_of_unbound freeA freeB)
      have own := ownSeqRemove_of_behind (s := s.hearing .aut (0x12#8 :: rest)) (body := more) there list behind
        (by rw [left, State.review_of_held (by exact idle) (by exact a) (by exact b)])
      exact completes_of_done_break asks rfl rfl long own quiet.1 quiet.2 rfl
    · rw [named] at other here ⊢
      have there : word16 i1 i0 ∈ s.sq.list.map (·.id) := by rw [list]; simp [named]
      have bound : s.sq.boundDeck (word16 i1 i0) = some d :=
        Sequencer.boundDeck_of_item here (fun same => other (Option.some.inj (head.symm.trans same)))
      have left := State.removeItem_of_bound (s := s.hearing .aut (0x12#8 :: rest)) list other bound
      have alone : [x].filter (·.id ≠ word16 i1 i0) = [] := by simp [named]
      rw [alone, State.addDone_eq] at left
      have own := ownSeqRemove_of_behind (s := s.hearing .aut (0x12#8 :: rest)) (body := more) there list other
        (by rw [left, State.review_of_freeDeck (by exact idle) (by rfl) (by cases d <;> exact head)
          (fun n next => by exact nomatch next)])
      refine (completes_of_done_break asks rfl rfl long own quiet.1 quiet.2 rfl).trans ?_
      cases d <;> rfl

end Sys2Proof.Machine
end

section
/-! SUPPORT. Starts, one by one: SEQ_READY (O24), SEQ_START and SEQ_STOP (O25), SEGUE_POINT (O21), SEQ_SKIP and SEQ_CONTINUE (O26). -/

namespace Sys2Proof.Machine

set_option Elab.async false

/-! ### One start -/

/-- An item started on a deck, not at once at its fade-out point (R35). -/
def State.started (s : State) (d : DeckId) (i : Item) : State :=
  { s.setEntry d.source ((s.entry d.source).startItem i.gain i.fadeIn) with
    sq := { s.sq.setDeck d { state := .playing, item := some i.id, position := 0, startedAt := some s.ev.clock, fadeTaken := false } with
      segueTaken := i.segueReached 0 }
    ev := s.ev.raise .seqAdvance }

section
variable {s : State} {d : DeckId} {i : Item}

theorem State.headToTail_of_idle (idle : s.sq.playing = none) : s.headToTail = s := by
  unfold State.headToTail
  rw [idle]

/-- What a start does with the old head, and then with the deck of the new one (R35). -/
theorem State.startItem_eq {u : State} (moved : s.headToTail = u) (clock : u.ev.clock = s.ev.clock) (fade : i.fadeReached 0 = false)
    (late : Bool) : s.startItem d i late = (u.started d i).raiseIf late .lateStart := by
  unfold State.startItem
  rw [moved, fade, ← clock]
  cases d <;> rfl

theorem Entry.startItem_eq (e : Entry) (gain len : Nat) : e.startItem gain len = if e.controller = .con then
    { e with state := .live, current := e.target, remaining := 0, faded := false }
    else { e with target := gain, faded := false : Entry }.setLive len := by
  unfold Entry.startItem
  cases h : e.controller <;> rfl

end

/-! ### What a start leaves to a review -/

section
variable {s : State} {d : DeckId} {h : Item}

theorem Sequencer.cueCandidate_of_alone (list : s.sq.list = [h]) (item : (s.sq.deck d).item = some h.id)
    (other : (s.sq.deck d.other).item ≠ some h.id) : s.sq.cueCandidate = none :=
  Sequencer.cueCandidate_of_bound list (Sequencer.boundDeck_of_item item other) nofun

/-- Behind the only item while it plays there is none to start. -/
theorem State.takeStart_of_alone (list : s.sq.list = [h]) (playing : s.sq.playing = some d) (late : Bool) : s.takeStart late = s :=
  State.takeStart_of_no_item (by simp [State.itemToStart, playing, list]) late

/-- The only item, PLAYING on a deck with its segue point ahead or taken, leaves a review nothing to do. -/
theorem State.review_of_alone (list : s.sq.list = [h]) (playing : s.sq.playing = some d) (item : (s.sq.deck d).item = some h.id)
    (other : (s.sq.deck d.other).item ≠ some h.id) (taken : s.headAtSegue = true → s.sq.segueTaken = true) (late : Bool) :
    s.review late = s := by
  have unmarked : s.markSegue = s := by
    have same : s.sq.markSegue = s.sq := if_neg fun due => by
      obtain ⟨due, untaken⟩ := (Bool.and_eq_true _ _).mp due
      rw [taken ((Bool.and_eq_true _ _).mp due).2] at untaken
      exact nomatch untaken
    unfold State.markSegue
    rw [same]; rfl
  unfold State.review
  rw [unmarked, State.takeStart_of_alone list playing, State.takeStart_of_alone list playing, State.takeStart_of_alone list playing,
    State.cue_of_no_candidate (Sequencer.cueCandidate_of_alone list item other)]

/-- A PLAYING head before its segue point, with both decks held, leaves a review nothing to do. -/
theorem State.review_of_early (playing : s.sq.playing = some d) (early : s.headAtSegue = false) (a : s.sq.deckA.state ≠ .free)
    (b : s.sq.deckB.state ≠ .free) (late : Bool) : s.review late = s := by
  unfold State.review
  rw [State.markSegue_of_not early, State.takeStart_of_early playing early, State.takeStart_of_early playing early,
    State.takeStart_of_early playing early, State.cue_of_held a b]

/-- The only item of a RUNNING sequencer starts on its READY deck, the other deck being FREE (R34 to R36). -/
theorem State.review_of_ready (running : s.sq.state = .running) (list : s.sq.list = [h]) (kind : h.kind ≠ .live)
    (ready : (s.sq.deck d).state = .ready) (item : (s.sq.deck d).item = some h.id) (other : s.sq.deck d.other = Deck.initial)
    (fade : h.fadeReached 0 = false) (late : Bool) : s.review late = (s.started d h).raiseIf late .lateStart := by
  have idle : s.sq.playing = none := Sequencer.playing_of_idle d (by rw [ready]; nofun) (by rw [other]; nofun)
  have bound : s.sq.boundDeck h.id = some d := Sequencer.boundDeck_of_item item (by rw [other]; nofun)
  have start : s.takeStart late = (s.started d h).raiseIf late .lateStart := by
    rw [State.takeStart_of_ready (by simp [State.startDue, running, idle]) (by simp [State.itemToStart, idle, list]) kind bound ready,
      State.startItem_eq (State.headToTail_of_idle idle) rfl fade]
  have sq : ((s.started d h).raiseIf late .lateStart).sq = (s.started d h).sq := State.raiseIf_sq ..
  have decks : (s.started d h).sq.deck d = { state := .playing, item := some h.id, position := 0, startedAt := some s.ev.clock
                                             fadeTaken := false } ∧ (s.started d h).sq.deck d.other = Deck.initial := by
    cases d <;> exact ⟨rfl, other⟩
  have listed : (s.started d h).sq.list = [h] := by cases d <;> exact list
  have playing : (s.started d h).sq.playing = some d :=
    Sequencer.playing_of_state (by rw [decks.1]) (by rw [decks.2]; nofun)
  refine State.review_of_start (Sequencer.headAtSegue_of_idle idle) start
    (State.takeStart_of_alone (sq ▸ listed) (sq ▸ playing) false) (State.cue_of_no_candidate ?_)
  exact Sequencer.cueCandidate_of_alone (d := d) (sq ▸ listed) (by rw [sq, decks.1]) (by rw [sq, decks.2]; nofun)

end

/-! ### SEQ_READY -/

theorem deckOf_of_lt {c : Byte} (h : 1 < c.toNat) : deckOf c = none := by
  unfold deckOf
  split
  case h_3 => rfl
  all_goals omega

theorem deckOf_code {c : Byte} {d : DeckId} (code : c.toNat = if d = .a then 0 else 1) : deckOf c = some d := by
  unfold deckOf
  cases d <;> (rw [code]; rfl)

section
variable {s : State} {i1 i0 c : Byte} {more : List Byte} {d : DeckId} (code : deckOf c = some d)
include code

/-- A deck that does not wait for the item named is UNKNOWN (R34). -/
theorem ownSeqReady_of_unknown (away : (s.deck d).item ≠ some (word16 i1 i0) ∨ (s.deck d).run = true ∨ (s.deck d).state = .paused) :
    ownSeqReady (i1 :: i0 :: c :: more) s = s.reply .unknown := by
  unfold ownSeqReady
  dsimp only
  rw [code]
  dsimp only
  rcases away with other | run | paused
  · exact if_neg other
  · rcases Deck.run_iff.mp run with st | st <;> rw [st] <;> exact ite_self _
  · rw [paused]; exact ite_self _

theorem ownSeqReady_of_ready (item : (s.deck d).item = some (word16 i1 i0)) (ready : (s.deck d).state = .ready) :
    ownSeqReady (i1 :: i0 :: c :: more) s = s.reply .done := by
  unfold ownSeqReady
  dsimp only
  rw [code]
  dsimp only
  rw [if_pos item, ready]
  rfl

theorem ownSeqReady_of_cueing (item : (s.deck d).item = some (word16 i1 i0)) (cueing : (s.deck d).state = .cueing) {u : State}
    (left : (s.setDeck d { s.deck d with state := .ready }).review true = u) :
    ownSeqReady (i1 :: i0 :: c :: more) s = u.done.thenBreak := by
  unfold ownSeqReady
  dsimp only
  rw [code]
  dsimp only
  rw [if_pos item, cueing, ← left]

end

/-- Settles O24. -/
theorem seqReadyAndTheLateStart : Obligations.SeqReadyAndTheLateStart := by
  refine ⟨fun s rest more i1 i0 c asks quiet idle a b => ?_, fun s rest more i1 i0 c d h asks quiet code running list kind named tail
    cueing item other fade con => ?_⟩
  · have long : 3 ≤ (i1 :: i0 :: c :: more).length := Nat.le_add_left ..
    refine ⟨fun large => turnedAway_of_reply (own := ownSeqReady) asks rfl rfl long ?_, fun d code => ?_⟩
    · unfold ownSeqReady
      dsimp only
      rw [deckOf_of_lt large]
    · refine ⟨fun away => turnedAway_of_reply asks rfl rfl long
          (ownSeqReady_of_unknown (s := s.hearing .aut (0x13#8 :: rest)) (deckOf_code code) away),
        fun item ready => turnedAway_of_reply asks rfl rfl long
          (ownSeqReady_of_ready (s := s.hearing .aut (0x13#8 :: rest)) (deckOf_code code) item ready), fun item cueing => ?_⟩
      have own := ownSeqReady_of_cueing (s := s.hearing .aut (0x13#8 :: rest)) (more := more) (deckOf_code code) item cueing
        (State.review_of_held (by cases d <;> exact idle)
          (by cases d with
            | a => exact nofun
            | b => exact a)
          (by cases d with
            | a => exact b
            | b => exact nofun) true)
      refine (completes_of_done_break asks rfl rfl long own quiet.1 quiet.2 rfl).trans ?_
      cases d <;> rfl
  · have long : 3 ≤ (i1 :: i0 :: c :: more).length := Nat.le_add_left ..
    have started := State.review_of_ready (s := (s.hearing .aut (0x13#8 :: rest)).setDeck d { s.deck d with state := .ready }) (d := d)
      (h := h) (by cases d <;> exact running) (by cases d <;> exact list) kind (by cases d <;> rfl) (by cases d <;> exact item)
      (by cases d <;> exact other) fade true
    have own := ownSeqReady_of_cueing (s := s.hearing .aut (0x13#8 :: rest)) (more := more) (deckOf_code code)
      (item.trans (congrArg some named)) cueing started
    refine ⟨_, completes_of_done_break asks rfl rfl long own quiet.1 quiet.2 rfl, ?_⟩
    have entry : (s.entry d.source).startItem h.gain h.fadeIn = { s.entry d.source with target := h.gain, faded := false : Entry }.setLive
        h.fadeIn := (Entry.startItem_eq ..).trans (if_neg (by rw [con]; nofun))
    rw [← entry]
    cases d <;> exact ⟨list, tail, running, rfl, other, rfl, rfl, rfl, rfl, rfl, rfl, rfl, rfl, rfl, rfl, rfl, rfl⟩

/-! ### SEQ_START and SEQ_STOP -/

theorem Entry.resumeItem_of_off {e : Entry} (off : e.state = .off) (aut : e.controller = .aut) (len : Nat) :
    e.resumeItem len = e.setLive len := by
  unfold Entry.resumeItem
  rw [off, aut]

section
variable {s : State} {d : DeckId}

theorem State.resumeDeck_of_not_paused (st : (s.deck d).state ≠ .paused) : s.resumeDeck d = s := if_neg st

/-- The head PAUSED on a deck plays on, its OFF entry LIVE over the item's fade-in (R45). -/
theorem State.resumeDeck_of_head {h : Item} {tl : List Item} (list : s.sq.list = h :: tl) (paused : (s.deck d).state = .paused)
    (item : (s.deck d).item = some h.id) (off : (s.entry d.source).state = .off) (aut : (s.entry d.source).controller = .aut) :
    s.resumeDeck d = (s.setDeck d { s.deck d with state := .playing }).setEntry d.source ((s.entry d.source).setLive h.fadeIn) := by
  have resumed : s.sq.resumed (s.deck d) = { s.deck d with state := .playing } := by
    unfold Sequencer.resumed
    rw [if_pos paused, if_pos (by rw [item, list]; simp)]
  have on : s.sq.itemOn d = some h := Sequencer.itemOn_head list item
  unfold State.resumeDeck
  rw [if_pos paused, resumed, on]
  dsimp only
  rw [if_pos (by cases d <;> rfl)]
  cases d <;> exact congrArg (State.setEntry _ _) (Entry.resumeItem_of_off off aut h.fadeIn)

/-- A sequencer that enters RUNNING with nothing PLAYING takes no segue point (R47). -/
theorem Sequencer.enter_running {q : Sequencer} : q.enter .running =
    { q with state := .running, segueTaken := q.segueTaken || q.headAtSegue } := by
  simp [Sequencer.enter]

end

theorem Sequencer.enter_running_of_early {q : Sequencer} (early : q.headAtSegue = false) : q.enter .running = { q with state := .running } := by
  rw [Sequencer.enter_running, early, Bool.or_false]

theorem ownSeqStart_of_stopped {s : State} {body : List Byte} (stopped : s.sq.state = .stopped) (alone : s.ps.records = [])
    (onAir : s.air.state = .onAir) {u : State} (left : s.startSequence = u) : ownSeqStart body s = u.done.thenBreak := by
  unfold ownSeqStart
  rw [if_neg (by simp [stopped]), if_neg (by simp [alone, onAir, stopped]), left]

/-- SEQ_START's checks (R45). -/
theorem ownSeqStart_of_not {s : State} {body : List Byte} :
    (s.sq.state = .running ∨ s.sq.state = .halted → ownSeqStart body s = s.reply .done) ∧
    (s.sq.state = .stopped ∨ s.sq.state = .preempted → s.ps.records ≠ [] ∨ s.air.state ≠ .onAir →
      ownSeqStart body s = s.reply .badState) := by
  refine ⟨fun going => if_pos going, fun stands refused => (if_neg ?_).trans (if_pos (refused.imp_right .inl))⟩
  rcases stands with st | st <;> simp [st]

theorem State.startSequence_eq {s u : State} (resumed : (s.resumeDeck .a).resumeDeck .b = u) : s.startSequence =
    (u.setSq { u.sq with state := .running, segueTaken := u.sq.segueTaken || u.sq.headAtSegue }).review false := by
  unfold State.startSequence
  rw [resumed]
  dsimp only
  rw [Sequencer.enter_running]

/-- SEQ_START with an empty sequence (R45). -/
theorem State.startSequence_of_empty {s : State} (list : s.sq.list = []) (a : s.sq.deckA = Deck.initial) (b : s.sq.deckB = Deck.initial) :
    s.startSequence = s.setSq { s.sq with state := .running } := by
  have free : ∀ d, (s.deck d).state ≠ .paused := fun d => by
    cases d with
    | a => show s.sq.deckA.state ≠ _; rw [a]; nofun
    | b => show s.sq.deckB.state ≠ _; rw [b]; nofun
  have idle : s.sq.headAtSegue = false := Sequencer.headAtSegue_of_idle (Sequencer.playing_of_free (d := .a) a b)
  rw [State.startSequence_eq (u := s)
      (by rw [State.resumeDeck_of_not_paused (free .a), State.resumeDeck_of_not_paused (free .b)]),
    idle, Bool.or_false, State.review_of_empty (by exact list)]

/-- SEQ_START with one item, PAUSED on a deck (R45, R47). -/
theorem State.startSequence_of_paused {s : State} {d : DeckId} {h : Item} (list : s.sq.list = [h]) (paused : (s.deck d).state = .paused)
    (item : (s.deck d).item = some h.id) (other : s.deck d.other = Deck.initial) (off : (s.entry d.source).state = .off)
    (aut : (s.entry d.source).controller = .aut) : s.startSequence =
      { (s.setDeck d { s.deck d with state := .playing }).setEntry d.source ((s.entry d.source).setLive h.fadeIn) with
        sq := { s.sq.setDeck d { s.deck d with state := .playing } with
          state := .running, segueTaken := s.sq.segueTaken || h.segueReached (s.deck d).position } } := by
  let u := (s.setDeck d { s.deck d with state := .playing }).setEntry d.source ((s.entry d.source).setLive h.fadeIn)
  have resumed : (s.resumeDeck .a).resumeDeck .b = u := by
    cases d with
    | a =>
      rw [State.resumeDeck_of_head list paused item off aut]
      exact State.resumeDeck_of_not_paused (by show (s.deck .b).state ≠ _; rw [show s.deck .b = _ from other]; nofun)
    | b =>
      rw [State.resumeDeck_of_not_paused (s := s) (d := .a) (by rw [show s.deck .a = _ from other]; nofun)]
      exact State.resumeDeck_of_head list paused item off aut
  have listed : u.sq.list = [h] := by cases d <;> exact list
  have here : u.sq.deck d = { s.deck d with state := .playing } := by cases d <;> rfl
  have beside : u.sq.deck d.other = Deck.initial := by cases d <;> exact other
  have playing : u.sq.playing = some d := Sequencer.playing_of_state (by rw [here]) (by rw [beside]; nofun)
  have reached : u.sq.headAtSegue = h.segueReached (s.deck d).position := by
    rw [Sequencer.headAtSegue_eq playing listed, here]
  have taken : u.sq.segueTaken = s.sq.segueTaken := by cases d <;> rfl
  rw [State.startSequence_eq resumed, reached, taken, State.review_of_alone (d := d) (h := h)]
  · cases d <;> rfl
  · exact listed
  · cases d <;> exact playing
  · cases d <;> exact item
  · cases d <;> exact fun same => nomatch (congrArg Deck.item beside).symm.trans same
  · intro due
    have due : u.sq.headAtSegue = true := due
    rw [reached] at due
    show (s.sq.segueTaken || h.segueReached (s.deck d).position) = true
    rw [due, Bool.or_true]

/-- Settles O25: the checks, and the whole state of a start and of a stop. -/
theorem seqStartAndStop : Obligations.SeqStartAndStop := by
  refine ⟨fun s l rest body asks lane quiet => ?_, fun s l rest body asks lane quiet => ?_⟩
  · have may := autOrCon_of_ne_alr lane
    have nothing : 0 ≤ body.length := Nat.zero_le _
    obtain ⟨going, refused⟩ := ownSeqStart_of_not (s := s.hearing l (0x14#8 :: rest)) (body := body)
    refine ⟨fun st => turnedAway_of_reply asks rfl may nothing (going st),
      fun st no => turnedAway_of_reply asks rfl may nothing (refused st no),
      fun stopped alone onAir => ⟨fun list a b => ?_, fun d h list tail kind paused item other off aut => ?_⟩⟩
    · have own := ownSeqStart_of_stopped (body := body) (s := s.hearing l (0x14#8 :: rest)) stopped alone onAir
        (State.startSequence_of_empty list a b)
      exact completes_of_done_break asks rfl may nothing own quiet.1 quiet.2 rfl
    · have own := ownSeqStart_of_stopped (body := body) (s := s.hearing l (0x14#8 :: rest)) stopped alone onAir
        (State.startSequence_of_paused list paused item other off aut)
      refine (completes_of_done_break asks rfl may nothing own quiet.1 quiet.2 rfl).trans ?_
      cases d <;> rfl
  · have may := autOrCon_of_ne_alr lane
    have nothing : 0 ≤ body.length := Nat.zero_le _
    refine ⟨fun stands => turnedAway_of_reply asks rfl may nothing (if_pos (.inl stands)), fun alone stopped => ?_, fun alone going => ?_⟩
    · refine turnedAway_of_reply asks rfl may nothing ((if_neg ?_).trans (if_pos stopped))
      rintro (stands | preempted)
      · exact stands alone
      · exact nomatch stopped.symm.trans preempted
    · have own : ownSeqStop body (s.hearing l (0x15#8 :: rest)) =
          ((s.hearing l (0x15#8 :: rest)).setSq s.sq.stop).done.thenBreak := by
        refine (if_neg ?_).trans (if_neg ?_)
        · rintro (stands | preempted)
          · exact stands alone
          · rcases going with st | st <;> exact nomatch st.symm.trans preempted
        · rintro stopped
          rcases going with st | st <;> exact nomatch st.symm.trans stopped
      have done : completes (.seqStop l rest) s _ := completes_of_done_break asks rfl may nothing own quiet.1 quiet.2 rfl
      rw [Sequencer.stop_eq] at done
      rw [← Deck.pause_ite, ← Deck.pause_ite]
      exact done

/-! ### SEGUE_POINT -/

section
variable {s : State} {d : DeckId} {h n : Item} {tl : List Item} {len : Nat}

theorem Item.segueReached_of_length (length : h.length = some len) (position : Nat) :
    h.segueReached position = decide (len - h.segue ≤ position) := by
  unfold Item.segueReached
  rw [length]

/-- A tail slot before its end goes on (R39). -/
theorem State.atEnd_of_before (on : s.sq.itemOn d = some h) (length : h.length = some len) (before : (s.deck d).position < len) :
    s.atEnd d = false :=
  Bool.eq_false_iff.mpr fun atEnd => Nat.not_le_of_lt before ((State.atEnd_iff on length).mp atEnd).2

theorem State.seguePoint_of_due (playing : s.sq.playing = some d) (reached : s.headAtSegue = true) (untaken : s.sq.segueTaken = false) :
    s.seguePoint = s.takeHeadPoint d := by
  unfold State.seguePoint
  rw [playing]
  exact if_pos (by rw [State.segueDue, reached, untaken]; rfl)

theorem State.seguePoint_of_not (no : s.headAtSegue = false ∨ s.sq.segueTaken = true) : s.seguePoint = s := by
  unfold State.seguePoint
  split
  · refine if_neg ?_
    rcases no with early | taken
    · rw [State.segueDue, early]; nofun
    · rw [State.segueDue, taken, Bool.and_comm]; nofun
  · rfl

/-- A segue point whose start the review has nothing to add to, with the old head going on (R35, R37). -/
theorem State.takeHeadPoint_of_start {t : State} (start : s.pointTaken.takeStart false = t) (goes : t.atEnd d = false)
    (settled : t.review false = t) : s.takeHeadPoint d = t := by
  rw [State.takeHeadPoint_eq, start, if_neg (by rw [goes]; nofun), settled]

end

theorem Sequencer.itemOn_slot {q : Sequencer} {d : DeckId} {h : Item} (tail : q.tail = some h) (item : (q.deck d).item = some h.id)
    (others : ∀ x ∈ q.list, x.id ≠ h.id) : q.itemOn d = some h := by
  have none : q.list.find? (·.id = h.id) = none := List.find?_eq_none.mpr fun x mem => by simpa using others x mem
  unfold Sequencer.itemOn Sequencer.item
  rw [item, tail]
  simp [List.find?_append, none]

theorem State.sequenceSound.behind {s : State} (sound : s.sequenceSound) {h : Item} {tl : List Item} (list : s.sq.list = h :: tl) :
    ∀ x ∈ tl, x.id ≠ h.id := fun x mem same => by
  obtain ⟨-, distinct⟩ := sound
  rw [list, List.cons_append, List.map_cons] at distinct
  exact (List.nodup_cons.mp distinct).1 (List.mem_map.mpr ⟨x, List.mem_append_left _ mem, same⟩)

/-- The sequencer with its PLAYING head moved to the tail slot (R35). -/
def Sequencer.tailed (q : Sequencer) (d : DeckId) (h : Item) (tl : List Item) : Sequencer :=
  { q.setDeck d { q.deck d with state := .tailing } with list := tl, tail := some h, segueTaken := false, liveStart := none }

section
variable {s : State} {d : DeckId} {h n : Item} {tl : List Item} (running : s.sq.state = .running) (point : s.headAtSegue = true)
include running point

theorem State.startDue_of_point : s.startDue = true := by
  simp [State.startDue, running, point]

variable (playing : s.sq.playing = some d)
include playing

/-- A start at the segue point: the old head is the tail, and the item behind it plays (R35). -/
theorem State.takeStart_at_segue (list : s.sq.list = h :: n :: tl) (kind : n.kind ≠ .live) (bound : s.sq.boundDeck n.id = some d.other)
    (ready : (s.deck d.other).state = .ready) (fade : n.fadeReached 0 = false) :
    s.takeStart false = (s.setSq (s.sq.tailed d h (n :: tl))).started d.other n := by
  rw [State.takeStart_of_ready (State.startDue_of_point running point) (by simp [State.itemToStart, playing, list]) kind bound ready,
    State.startItem_eq (State.headToTail_eq playing list) rfl fade]
  rfl

/-- A LIVE item behind the head halts the sequencer at the segue point, before the end of the head (R40). -/
theorem State.takeStart_at_live (list : s.sq.list = h :: n :: tl) (tail : s.sq.tail = none) (goes : s.atEnd d = false)
    (live : n.kind = .live) : s.takeStart false = (s.setSq (s.sq.tailed d h (n :: tl))).halt := by
  have next : s.itemToStart = some n := by simp [State.itemToStart, playing, list]
  unfold State.takeStart
  rw [if_pos (State.startDue_of_point running point), next]
  dsimp only
  rw [if_pos live, playing]
  dsimp only
  rw [tail, goes, if_neg nofun, State.headToTail_eq playing list]
  rfl

end

/-- A start at the segue point, whole: the old head TAILING before its end, the new one before its own points (R35). -/
theorem State.takeHeadPoint_starts {s : State} {d : DeckId} {h n : Item} {tl : List Item} {len : Nat} (sound : s.sequenceSound)
    (running : s.sq.state = .running) (list : s.sq.list = h :: n :: tl) (playing : s.sq.playing = some d)
    (item : (s.deck d).item = some h.id) (length : h.length = some len) (point : s.headAtSegue = true)
    (before : (s.deck d).position < len) (kind : n.kind ≠ .live) (ready : (s.deck d.other).state = .ready)
    (next : (s.deck d.other).item = some n.id) (fade : n.fadeReached 0 = false) (segue : n.segueReached 0 = false) :
    s.takeHeadPoint d = (s.pointTaken.setSq (s.pointTaken.sq.tailed d h (n :: tl))).started d.other n := by
  have apart : h.id ≠ n.id := sound.before (pre := [h]) list h List.mem_cons_self
  have bound : s.sq.boundDeck n.id = some d.other := Sequencer.boundDeck_of_item next fun same => by
    rw [DeckId.other_other] at same
    exact apart (Option.some.inj (item.symm.trans same))
  have start := State.takeStart_at_segue (s := s.pointTaken) running point playing list kind bound (by exact ready) fade
  refine State.takeHeadPoint_of_start start ?_ ?_
  · refine State.atEnd_of_before (Sequencer.itemOn_slot (h := h) ?_ ?_ ?_) length ?_
    · cases d <;> rfl
    · cases d <;> exact item
    · have others : ∀ x ∈ n :: tl, x.id ≠ h.id := sound.behind list
      cases d <;> exact others
    · cases d <;> exact before
  · have plays : ((s.pointTaken.setSq (s.pointTaken.sq.tailed d h (n :: tl))).started d.other n).sq.playing = some d.other :=
      Sequencer.playing_of_state (by cases d <;> rfl) (by cases d <;> nofun)
    refine State.review_of_early plays ?_ (by cases d <;> nofun) (by cases d <;> nofun) false
    refine (Sequencer.headAtSegue_eq (h := n) (tl := tl) plays (by cases d <;> rfl)).trans ?_
    cases d <;> exact segue

/-- A halt at the segue point, whole: the old head TAILING before its end, with a LIVE item behind it alone (R40). -/
theorem State.takeHeadPoint_halts {s : State} {d : DeckId} {h n : Item} {len : Nat} (running : s.sq.state = .running)
    (list : s.sq.list = [h, n]) (tail : s.sq.tail = none) (playing : s.sq.playing = some d) (item : (s.deck d).item = some h.id)
    (length : h.length = some len) (point : s.headAtSegue = true) (before : (s.deck d).position < len) (apart : h.id ≠ n.id)
    (live : n.kind = .live) : s.takeHeadPoint d = (s.pointTaken.setSq (s.pointTaken.sq.tailed d h [n])).halt := by
  have goes : s.pointTaken.atEnd d = false := State.atEnd_of_before (Sequencer.itemOn_head (tl := [n]) list item) length before
  have start := State.takeStart_at_live (s := s.pointTaken) running point playing list tail goes live
  refine State.takeHeadPoint_of_start start ?_ ?_
  · refine State.atEnd_of_before (Sequencer.itemOn_slot (h := h) ?_ ?_ ?_) length ?_
    · cases d <;> rfl
    · cases d <;> exact item
    · have others : ∀ x ∈ [n], x.id ≠ h.id := by simpa using apart.symm
      cases d <;> exact others
    · cases d <;> exact before
  · refine (State.review_of_not_running (by cases d <;> nofun) false).trans (State.cue_of_no_candidate ?_)
    have candidate : ∀ q : Sequencer, q.list = [n] → q.cueCandidate = none := fun q listed => by
      unfold Sequencer.cueCandidate
      rw [listed]
      simp [Sequencer.cueable, live]
    exact candidate _ (by cases d <;> rfl)

/-- Settles O21: the start of the item behind the head, the halt at a LIVE one, and a point that is not due. -/
theorem seguePointStartsTheNextItem : Obligations.SeguePointStartsTheNextItem := by
  refine ⟨fun s d h n rest len sound quiet running list tail playing item length reached before untaken kind ready next fade segue => ?_,
    fun s d h n len quiet running list tail distinct playing item other length reached before untaken live => ?_, fun s silent no => ?_⟩
  · have alone : s.sq.playing = some d := Sequencer.playing_of_state playing (by rw [show (s.sq.deck d.other).state = _ from ready]; nofun)
    have point : s.headAtSegue = true := by
      show s.sq.headAtSegue = true
      rw [Sequencer.headAtSegue_eq alone list, Item.segueReached_of_length length]
      exact decide_eq_true reached
    have taken : n.segueReached 0 = s.sq.segueTaken := segue.trans untaken.symm
    refine congrArg Host.Outcome.next ?_
    unfold State.seguePointEvent
    rw [State.seguePoint_of_due alone point untaken,
      State.takeHeadPoint_starts sound running list alone item length point before kind ready next fade segue,
      State.takeBreak_of_none (by exact quiet.1) quiet.2, State.started, Entry.startItem_eq, taken]
    cases d <;> rfl
  · have alone : s.sq.playing = some d := Sequencer.playing_of_other_free playing other
    have point : s.headAtSegue = true := by
      show s.sq.headAtSegue = true
      rw [Sequencer.headAtSegue_eq alone list, Item.segueReached_of_length length]
      exact decide_eq_true reached
    refine congrArg Host.Outcome.next ?_
    unfold State.seguePointEvent
    rw [State.seguePoint_of_due alone point untaken,
      State.takeHeadPoint_halts running list tail alone item length point before distinct live,
      State.takeBreak_of_none (by exact quiet.1) quiet.2, Sequencer.tailed, ← untaken]
    cases d <;> rfl
  · have silent : s.sq.breakSignal = false := silent
    refine congrArg Host.Outcome.next ?_
    show s.seguePoint.takeBreak = s
    rw [State.seguePoint_of_not no]
    exact if_neg (by rw [silent]; nofun)

/-! ### A head that leaves with a record -/

section
variable {s : State} {h : Item} {tl : List Item} (list : s.sq.list = h :: tl) (r : DoneRecord)
include list

/-- The head leaves, reported in the done list (R43, R48). -/
theorem State.addDone_dropHead : (s.addDone r).dropHead = { s with
    sq := { s.sq with
      list := tl, segueTaken := false, liveStart := none
      done := (if s.sq.done.length < 8 then s.sq.done else s.sq.done.drop 1) ++ [r]
      doneOverflow := if s.sq.done.length < 8 then s.sq.doneOverflow else countUp s.sq.doneOverflow }
    ev := s.ev.raise .itemDone } := by
  have left : s.sq.list.drop 1 = tl := congrArg (List.drop 1) list
  rw [State.addDone_eq, ← left]
  rfl

/-- The head leaves with its deck, which becomes FREE (R43, R48). -/
theorem State.addDone_freeDeck_dropHead (d : DeckId) : ((s.addDone r).freeDeck d).dropHead =
    { (s.setDeck d Deck.initial).setEntry d.source { s.entry d.source with bound := none } with
      sq := { (s.setDeck d Deck.initial).sq with
        list := tl, segueTaken := false, liveStart := none
        done := (if s.sq.done.length < 8 then s.sq.done else s.sq.done.drop 1) ++ [r]
        doneOverflow := if s.sq.done.length < 8 then s.sq.doneOverflow else countUp s.sq.doneOverflow }
      ev := s.ev.raise .itemDone } := by
  have left : s.sq.list.drop 1 = tl := congrArg (List.drop 1) list
  rw [State.addDone_eq, ← left]
  cases d <;> rfl

end

/-! ### SEQ_SKIP -/

section
variable {s : State} {body : List Byte} {d : DeckId} {h : Item} {tl : List Item}

theorem ownSeqSkip_of_playing (running : s.sq.state = .running) (list : s.sq.list = h :: tl) (playing : s.sq.playing = some d) :
    ownSeqSkip body s = (s.skipPlaying d h tl).done.thenBreak := by
  unfold ownSeqSkip
  rw [if_neg (by rw [running]; exact fun ne => ne rfl), list, playing]

theorem ownSeqSkip_of_waiting (running : s.sq.state = .running) (list : s.sq.list = h :: tl) (idle : s.sq.playing = none) :
    ownSeqSkip body s = (s.skipWaiting h).done.thenBreak := by
  unfold ownSeqSkip
  rw [if_neg (by rw [running]; exact fun ne => ne rfl), list, idle]

/-- A head not longer than its position plus its fade-out is left alone (R42). -/
theorem State.skipPlaying_of_short {len : Nat} (length : h.length = some len) (short : len ≤ (s.deck d).position + h.fadeOut) :
    s.skipPlaying d h tl = s :=
  if_pos (by rw [length]; exact decide_eq_true short)

/-- A longer head fades out from now, to its end at the fade's (R42). -/
theorem State.skipPlaying_of_long (playing : s.sq.playing = some d)
    (long : h.length = none ∨ ∃ len, h.length = some len ∧ (s.deck d).position + h.fadeOut < len) (segue : h.segue < h.fadeOut)
    (live : (s.entry d.source).state = .live) (aut : (s.entry d.source).controller = .aut) : s.skipPlaying d h tl =
      { (s.setDeck d { s.deck d with fadeTaken := true }).setEntry d.source
          { s.entry d.source with target := 0, remaining := h.fadeOut, faded := true } with
        sq := { (s.setDeck d { s.deck d with fadeTaken := true }).sq with
          list := { h with length := some ((s.deck d).position + h.fadeOut), skipped := true } :: tl } } := by
  let i : Item := { h with length := some ((s.deck d).position + h.fadeOut), skipped := true }
  let t : State := ((s.setSq { s.sq with list := i :: tl }).setDeck d { s.deck d with fadeTaken := true }).setEntry d.source
    ((s.entry d.source).fadeOut h.fadeOut)
  have goes : h.length.any (· ≤ (s.deck d).position + h.fadeOut) = false := by
    rcases long with none | ⟨len, length, more⟩
    · rw [none]; rfl
    · rw [length]; exact decide_eq_false (Nat.not_le_of_lt more)
  have clamp : min h.segue ((s.deck d).position + h.fadeOut) = h.segue := by omega
  have plays : t.sq.playing = some d := by cases d <;> exact playing
  have ahead : t.headAtSegue = false := by
    refine (Sequencer.headAtSegue_eq (h := i) (tl := tl) plays (by cases d <;> rfl)).trans ?_
    have position : (t.sq.deck d).position = (s.deck d).position := by cases d <;> rfl
    rw [Item.segueReached_of_length rfl, position]
    exact decide_eq_false (by show ¬ _ - h.segue ≤ _; omega)
  have left : s.skipPlaying d h tl = if t.headAtSegue = true then t.takeHeadPoint d else t := by
    unfold State.skipPlaying
    dsimp only
    rw [goes, if_neg nofun, clamp]
    cases d <;> rfl
  rw [left, if_neg (by rw [ahead]; nofun)]
  show State.setEntry _ d.source ((s.entry d.source).fadeOut h.fadeOut) = _
  rw [Entry.fadeOut_of_live aut live (by omega)]
  cases d <;> rfl

/-- The only item, waiting on a deck that is not READY, leaves a review nothing to do (R35). -/
theorem State.review_of_waiting (idle : s.sq.playing = none) (list : s.sq.list = [h]) (kind : h.kind ≠ .live)
    (bound : s.sq.boundDeck h.id = some d) (waits : (s.deck d).state ≠ .ready) (late : Bool) : s.review late = s := by
  have stands : ∀ late, s.takeStart late = s := State.takeStart_of_not_ready (by simp [State.itemToStart, idle, list]) kind
    fun e there => by cases Option.some.inj (bound.symm.trans there); exact waits
  unfold State.review
  rw [State.markSegue_of_not (Sequencer.headAtSegue_of_idle idle), stands, stands, stands,
    State.cue_of_no_candidate (Sequencer.cueCandidate_of_bound list bound nofun)]

/-- A waiting head that no deck holds leaves alone (R43). -/
theorem State.skipWaiting_of_unbound (list : s.sq.list = [h]) (unbound : s.sq.boundDeck h.id = none) : s.skipWaiting h =
    (s.addDone { item := h.id, start := none, aired := 0, outcome := .skipped }).dropHead := by
  have left : (s.addDone { item := h.id, start := none, aired := 0, outcome := .skipped }).dropHead.sq.list = [] := by
    rw [State.addDone_eq]
    exact congrArg (List.drop 1) list
  unfold State.skipWaiting
  rw [unbound]
  exact State.review_of_empty left false

/-- A waiting head leaves with its deck, alone or with an item behind it that is CUEING on the other deck (R43). -/
theorem State.skipWaiting_of_bound (list : s.sq.list = h :: tl) (here : (s.deck d).state ≠ .playing)
    (other : (s.deck d.other).state ≠ .playing) (bound : s.sq.boundDeck h.id = some d)
    (behind : tl = [] ∨ ∃ n, tl = [n] ∧ n.kind ≠ .live ∧ (s.deck d.other).state = .cueing ∧ (s.deck d.other).item = some n.id) :
    s.skipWaiting h = ((s.addDone { item := h.id, start := none, aired := 0, outcome := .skipped }).freeDeck d).dropHead := by
  have left : s.skipWaiting h =
      (((s.addDone { item := h.id, start := none, aired := 0, outcome := .skipped }).freeDeck d).dropHead).review false := by
    unfold State.skipWaiting
    rw [bound]
  rw [left, State.addDone_eq]
  generalize hu : State.dropHead _ = u
  have decks : u.sq.deck d = Deck.initial ∧ u.sq.deck d.other = s.sq.deck d.other := by
    subst hu
    cases d <;> exact ⟨rfl, rfl⟩
  have listed : u.sq.list = tl := by
    subst hu
    cases d <;> exact congrArg (List.drop 1) list
  have idle : u.sq.playing = none := Sequencer.playing_of_idle d (by rw [decks.1]; nofun) (by rw [decks.2]; exact other)
  rcases behind with none | ⟨n, alone, kind, cueing, item⟩
  · exact State.review_of_empty (listed.trans none) false
  · refine State.review_of_waiting (d := d.other) idle (listed.trans alone) kind (Sequencer.boundDeck_of_item ?_ ?_) ?_ false
    · rw [decks.2]; exact item
    · rw [DeckId.other_other, decks.1]; nofun
    · show (u.sq.deck d.other).state ≠ _
      rw [decks.2, show (s.sq.deck d.other).state = _ from cueing]; nofun

end

/-! ### SEQ_CONTINUE -/

/-- A halt that ends: the record of its LIVE head, which leaves, and RUNNING (R41). -/
theorem State.continueSequence_eq {s : State} {h : Item} {tl : List Item} {t0 : Clock} (list : s.sq.list = h :: tl)
    (start : s.sq.liveStart = some t0) (early : s.sq.playing = none ∨ tl = []) : s.continueSequence =
      ({ s with
        sq := { s.sq with
          list := tl, segueTaken := false, liveStart := none, state := .running
          done := (if s.sq.done.length < 8 then s.sq.done else s.sq.done.drop 1) ++
            [{ item := h.id, start := some t0, aired := (s.ev.clock - t0).toNat, outcome := .complete }]
          doneOverflow := if s.sq.done.length < 8 then s.sq.doneOverflow else countUp s.sq.doneOverflow }
        ev := s.ev.raise .itemDone } : State).review false := by
  have record : s.liveRecord h = { item := h.id, start := some t0, aired := (s.ev.clock - t0).toNat, outcome := .complete } := by
    unfold State.liveRecord
    rw [start]; rfl
  have ahead : ∀ q : Sequencer, q.list = tl → q.playing = s.sq.playing → q.headAtSegue = false := fun q listed plays => by
    rcases early with idle | empty
    · exact Sequencer.headAtSegue_of_idle (plays.trans idle)
    · unfold Sequencer.headAtSegue
      rw [listed, empty]
      split
      · rename_i eq; exact nomatch eq
      · rfl
  unfold State.continueSequence
  rw [list]
  dsimp only
  rw [record, State.addDone_dropHead list, Sequencer.enter_running_of_early (by exact ahead _ rfl rfl)]
  rfl

/-- Settles O26: a skip of a PLAYING and of a waiting head, and the end of a halt. -/
theorem seqSkipAndContinue : Obligations.SeqSkipAndContinue := by
  refine ⟨fun s l rest body asks lane quiet => ?_, fun s rest body asks quiet => ?_⟩
  · have may := autOrCon_of_ne_alr lane
    have nothing : 0 ≤ body.length := Nat.zero_le _
    refine ⟨fun st => turnedAway_of_reply asks rfl may nothing (if_pos st), fun running list => ?_,
      fun d h tl n running list playing other hn => ⟨?_, fun long segue live aut => ?_⟩,
      fun d h tl running list item waits other apart behind => ?_, fun h running list runA runB freeA freeB => ?_⟩
    · refine turnedAway_of_reply asks rfl may nothing ((if_neg fun ne => ne running).trans ?_)
      rw [show (s.hearing l (0x16#8 :: rest)).sq.list = [] from list]
    · rintro ⟨len, length, short⟩
      have alone : s.sq.playing = some d := Sequencer.playing_of_state playing other
      have own := ownSeqSkip_of_playing (s := s.hearing l (0x16#8 :: rest)) (body := body) running list alone
      rw [State.skipPlaying_of_short length (by subst hn; exact short)] at own
      exact completes_of_done_break asks rfl may nothing own quiet.1 quiet.2 rfl
    · subst hn
      have alone : s.sq.playing = some d := Sequencer.playing_of_state playing other
      have own := ownSeqSkip_of_playing (s := s.hearing l (0x16#8 :: rest)) (body := body) running list alone
      rw [State.skipPlaying_of_long (by exact alone) (by exact long) segue (by exact live) (by exact aut)] at own
      refine (completes_of_done_break asks rfl may nothing own quiet.1 quiet.2 rfl).trans ?_
      cases d <;> rfl
    · have here : (s.sq.deck d).state ≠ .playing := by
        rcases waits with st | st <;> rw [show (s.sq.deck d).state = _ from st] <;> nofun
      have own := ownSeqSkip_of_waiting (s := s.hearing l (0x16#8 :: rest)) (body := body) running list
        (Sequencer.playing_of_idle d here other)
      rw [State.skipWaiting_of_bound (d := d) (by exact list) (by exact here) (by exact other)
        (by exact Sequencer.boundDeck_of_item item apart) (by exact behind), State.addDone_freeDeck_dropHead (by exact list)] at own
      refine (completes_of_done_break asks rfl may nothing own quiet.1 quiet.2 rfl).trans ?_
      cases d <;> rfl
    · have idle : s.sq.playing = none := Sequencer.playing_of_idle .a (fun st => nomatch runA.symm.trans (Deck.run_iff.mpr (.inl st)))
        (fun st => nomatch runB.symm.trans (Deck.run_iff.mpr (.inl st)))
      have own := ownSeqSkip_of_waiting (s := s.hearing l (0x16#8 :: rest)) (body := body) running list idle
      rw [State.skipWaiting_of_unbound (by exact list) (by exact Sequencer.boundDeck_of_unbound freeA freeB),
        State.addDone_dropHead (by exact list)] at own
      exact completes_of_done_break asks rfl may nothing own quiet.1 quiet.2 rfl
  · have nothing : 0 ≤ body.length := Nat.zero_le _
    refine ⟨fun st => turnedAway_of_reply asks rfl rfl nothing (if_neg st), fun h t0 q halted start hq => ⟨fun list => ?_,
      fun n d list tail kind ready item other fade segue => ?_⟩⟩
    · have own : ownSeqContinue body (s.hearing .con (0x17#8 :: rest)) =
          (s.hearing .con (0x17#8 :: rest)).continueSequence.done.thenBreak := if_pos halted
      rw [State.continueSequence_eq (by exact list) (by exact start) (by exact .inr rfl), State.review_of_empty (by rfl)] at own
      rw [hq, list]
      exact completes_of_done_break asks rfl rfl nothing own quiet.1 quiet.2 rfl
    · have own : ownSeqContinue body (s.hearing .con (0x17#8 :: rest)) =
          (s.hearing .con (0x17#8 :: rest)).continueSequence.done.thenBreak := if_pos halted
      have idle : s.sq.playing = none := Sequencer.playing_of_idle d (by rw [show (s.sq.deck d).state = _ from ready]; nofun)
        (by rw [show s.sq.deck d.other = _ from other]; nofun)
      rw [State.continueSequence_eq (by exact list) (by exact start) (by exact .inl idle),
        State.review_of_ready (d := d) (h := n) (by rfl) (by rfl) kind (by cases d <;> exact ready) (by cases d <;> exact item)
          (by cases d <;> exact other) fade] at own
      refine (completes_of_done_break asks rfl rfl nothing own quiet.1 quiet.2 rfl).trans ?_
      rw [hq, list, State.started, Entry.startItem_eq, segue]
      cases d <;> rfl

end Sys2Proof.Machine
end

section
/-! SUPPORT. The delay's exchange in every mode, and the counts of a sample period (O13). -/

namespace Sys2Proof.Machine

set_option Elab.async false

/-! ### The exchange of the delay (R93 to R98, R103) -/

section
variable {d : Delay} {air : AirState} {divisor : Nat}

theorem Delay.modeOf_eq (held target : Nat) : Delay.modeOf held target = if held < target then .building
    else if target < held then .catching else if target = 0 then .idle else .steady := rfl

/-- A re-evaluation that finds the mode right (R93). -/
theorem Delay.reevaluate_of_same (same : Delay.modeOf d.held d.target = d.mode) : d.reevaluate = d := by
  unfold Delay.reevaluate
  split
  · rfl
  · exact if_pos same

/-- A re-evaluation with the step counter at 0 (R93, R94). -/
theorem Delay.reevaluate_of_step (unfrozen : d.mode ≠ .frozen) (step : d.step = 0) :
    d.reevaluate = { d with mode := Delay.modeOf d.held d.target } := by
  unfold Delay.reevaluate
  rw [if_neg unfrozen]
  dsimp only
  split
  · rename_i same; rw [same]
  · rw [← step]

theorem Delay.exchange_of_frozen (frozen : d.mode = .frozen) (p : Pair) :
    d.exchange air divisor p = { d with lastOut := { l := 0, r := 0 }, step := 0 } := if_pos frozen

/-- The unit held: the pair mixed goes out, and the store stays (R98). -/
theorem Delay.exchange_of_held (unfrozen : d.mode ≠ .frozen) (held : air = .starting ∨ air = .offAir) (p : Pair) :
    d.exchange air divisor p = { d with lastOut := p, step := 0 } := by
  refine (if_neg unfrozen).trans (if_pos ?_)
  rcases held with rfl | rfl <;> simp [Delay.isHeld, unfrozen]

theorem Delay.not_isHeld (on : air = .onAir ∨ air = .alertWake) : d.isHeld air = false := by
  rcases on with rfl | rfl <;> rfl

theorem Delay.exchange_of_running (unfrozen : d.mode ≠ .frozen) (on : air = .onAir ∨ air = .alertWake) (p : Pair) :
    d.exchange air divisor p = d.run divisor p := by
  refine (if_neg unfrozen).trans (if_neg ?_)
  rw [Delay.not_isHeld on]
  nofun

/-- An exchange that is no step: the oldest pair goes out (R95). -/
theorem Delay.run_of_no_step {p x : Pair} {xs : List Pair} (line : d.store ++ [p] = x :: xs) (no : d.stepMix divisor = false) :
    d.run divisor p = Delay.reevaluate
      { d with store := xs, lastOut := x, step := if d.mode.stepping then d.step + 1 else 0 } := by
  unfold Delay.run Delay.removed
  rw [line, no]
  cases d.mode.stepping <;> rfl

/-- A build step: one pair more is held, and the last output pair repeats (R96). -/
theorem Delay.run_of_build {p : Pair} (step : d.stepMix divisor = true) (building : d.mode = .building) :
    d.run divisor p = { d with store := d.store ++ [p], step := 0, mode := Delay.modeOf (d.store.length + 1) d.target } := by
  unfold Delay.run Delay.removed
  rw [step, building]
  refine (Delay.reevaluate_of_step (by show DelayMode.building ≠ .frozen; nofun) rfl).trans ?_
  simp [Delay.held]

/-- A catch-up step: the oldest pair is skipped, and the second goes out (R97). -/
theorem Delay.run_of_catch {p x y : Pair} {xs : List Pair} (line : d.store ++ [p] = x :: y :: xs) (step : d.stepMix divisor = true)
    (catching : d.mode = .catching) :
    d.run divisor p = { d with store := xs, lastOut := y, step := 0, mode := Delay.modeOf xs.length d.target } := by
  unfold Delay.run Delay.removed
  rw [line, step, catching]
  refine (Delay.reevaluate_of_step (by show DelayMode.catching ≠ .frozen; nofun) rfl).trans ?_
  rfl

theorem Delay.stepMix_of_not_stepping (no : d.mode.stepping = false) (divisor : Nat) : d.stepMix divisor = false := by
  rw [Delay.stepMix, no]; rfl

theorem Delay.stepMix_of_early (early : d.step + 1 < divisor) : d.stepMix divisor = false := by
  rw [Delay.stepMix, decide_eq_false (Nat.not_le_of_lt early), Bool.and_false]

theorem Delay.stepMix_of_due (stepping : d.mode.stepping = true) (due : divisor ≤ d.step + 1) : d.stepMix divisor = true := by
  rw [Delay.stepMix, stepping, decide_eq_true due]; rfl

/-- The exchange of STEADY (R95). -/
theorem Delay.run_of_steady {p x : Pair} {xs : List Pair} (steady : d.mode = .steady) (store : d.store = x :: xs)
    (full : d.store.length = d.target) : d.run divisor p = { d with store := xs ++ [p], lastOut := x, step := 0 } := by
  rw [Delay.run_of_no_step (x := x) (xs := xs ++ [p]) (by rw [store]; rfl) (Delay.stepMix_of_not_stepping (by rw [steady]; rfl) _), steady]
  refine Delay.reevaluate_of_same ?_
  have length : (xs ++ [p]).length = d.target := by rw [← full, store]; simp
  have some : d.target ≠ 0 := by rw [← full, store]; simp
  show Delay.modeOf (xs ++ [p]).length d.target = .steady
  rw [length, Delay.modeOf_eq, if_neg (Nat.lt_irrefl _), if_neg (Nat.lt_irrefl _), if_neg some]

/-- The exchange of IDLE (R95). -/
theorem Delay.run_of_idle {p : Pair} (idle : d.mode = .idle) (store : d.store = []) (target : d.target = 0) :
    d.run divisor p = { d with lastOut := p, step := 0 } := by
  rw [Delay.run_of_no_step (x := p) (xs := []) (by rw [store]; rfl) (Delay.stepMix_of_not_stepping (by rw [idle]; rfl) _), idle, ← store]
  refine Delay.reevaluate_of_same ?_
  show Delay.modeOf d.store.length d.target = .idle
  rw [store, target]; rfl

/-- The exchange while BUILDING or CATCHING at a mix that is no step (R94, R95). -/
theorem Delay.run_of_stepping {p x : Pair} {xs : List Pair} (line : d.store ++ [p] = x :: xs) (early : d.step + 1 < divisor)
    (mode : d.mode = .building ∧ d.store.length < d.target ∨ d.mode = .catching ∧ d.target < d.store.length) :
    d.run divisor p = { d with lastOut := x, store := xs, step := d.step + 1 } := by
  have length : xs.length = d.store.length := by
    have := congrArg List.length line
    simpa using this.symm
  have stepping : d.mode.stepping = true := by rcases mode with ⟨st, -⟩ | ⟨st, -⟩ <;> rw [st] <;> rfl
  rw [Delay.run_of_no_step line (Delay.stepMix_of_early early), stepping]
  refine Delay.reevaluate_of_same ?_
  show Delay.modeOf xs.length d.target = d.mode
  rw [length, Delay.modeOf_eq]
  rcases mode with ⟨st, less⟩ | ⟨st, more⟩
  · rw [if_pos less, st]
  · rw [if_neg (by omega), if_pos more, st]

end

/-! ### The mix and its steps -/

theorem State.mixPeriod_du (s : State) (f : InputFrame) : (s.mixPeriod f).du =
    s.du.exchange s.air.state s.pf.working.buildDivisor (s.mixPeriod f).ap.cue := rfl

/-- A step of a mode is due where the settled unit runs in it with its counter one below the divisor or higher (R94). -/
theorem State.stepDue_of_settled {s : State} (h : s.settled) (on : s.air.state = .onAir ∨ s.air.state = .alertWake) (m : DelayMode) :
    s.stepDue m = (decide (s.du.mode = m) && s.du.stepMix s.pf.working.buildDivisor) := by
  unfold State.stepDue
  rw [h.1]
  dsimp only
  rw [Delay.not_isHeld on]
  simp

theorem State.buildStep_of_due {s : State} (h : s.settled) (due : s.stepDue .building = true) (f : InputFrame) :
    s.buildStep f = s.mixPeriod f := (if_pos due).trans (State.mix_settled h f)

theorem State.catchUpStep_of_due {s : State} (h : s.settled) (due : s.stepDue .catching = true) (f : InputFrame) :
    s.catchUpStep f = s.mixPeriod f := (if_pos due).trans (State.mix_settled h f)

/-! ### The counts of a sample period -/

theorem Deck.tick_eq (k : Deck) : k.tick = { k with
    position := if k.state = .playing ∨ k.state = .tailing then k.position + 1 else k.position } := by
  unfold Deck.tick
  by_cases run : k.run = true
  · rw [if_pos run, if_pos (Deck.run_iff.mp run)]
  · rw [if_neg run, if_neg (mt Deck.run_iff.mpr run)]

/-- A line's sample period (R71, R74). -/
theorem LineRec.tick_eq (r : LineRec) (ring loop : Bool) : r.tick ring loop = { r with
    ringLevel := if ring = decide (r.ringStage = .countingHigh) then countTo 4800 r.ringLevel else 0
    loopLow := if r.seize = true ∧ loop = false then countTo 19200 r.loopLow else 0
    ringTimer := r.ringTimer.map fun x => { gap := x.gap + 1, total := x.total + 1 } } := by
  have level : r.sampleRing ring = { r with
      ringLevel := if ring = decide (r.ringStage = .countingHigh) then countTo 4800 r.ringLevel else 0 } := by
    unfold LineRec.sampleRing
    cases stage : r.ringStage <;> cases ring <;> rfl
  unfold LineRec.tick
  rw [level]
  cases seize : r.seize <;> cases loop <;> simp [LineRec.sampleLoop, LineRec.tickRing, Config.loopLoss]

/-- The monitor's sample period (R143, R144). -/
theorem Monitor.mix_free (m : Monitor) (d : Pair) : m.mix false d = { m with
    phase := if m.phase = 479 then 0 else m.phase + 1, due := m.due || decide (m.phase = 479)
    peak := max m.peak (max d.l.natAbs d.r.natAbs) } := by
  unfold Monitor.mix
  by_cases last : m.phase = 479 <;> simp [last, magnitude]

theorem Monitor.mix_held (m : Monitor) (d : Pair) : m.mix true d = { m with
    phase := if m.phase = 479 then 0 else m.phase + 1, due := m.due || decide (m.phase = 479), run := 0, clean := false } := by
  unfold Monitor.mix
  by_cases last : m.phase = 479 <;> simp [last]

theorem State.monitorHeld_iff (s : State) :
    s.monitorHeld = true ↔ s.air.state ≠ .onAir ∨ s.al.onAir ≠ none ∨ s.fallbackOnTop = true := by
  simp [State.monitorHeld, State.alertActive, Option.isSome_iff_ne_none, or_assoc]

/-! ### The clauses of O13 -/

/-- The delay of a sample period, where it runs (R93 to R97). -/
theorem State.mixPeriod_du_run {s : State} (f : InputFrame) (unfrozen : s.du.mode ≠ .frozen)
    (on : s.air.state = .onAir ∨ s.air.state = .alertWake) : (s.mixPeriod f).du = s.du.run s.pf.working.buildDivisor (s.mixPeriod f).ap.cue :=
  (State.mixPeriod_du s f).trans (Delay.exchange_of_running unfrozen on _)

section
variable {s : State} (settled : s.settled) (f : InputFrame)
include settled

/-- A build step (R94, R96). -/
theorem buildStep_completes_of_due (on : s.air.state = .onAir ∨ s.air.state = .alertWake) (building : s.du.mode = .building)
    (due : s.pf.working.buildDivisor ≤ s.du.step + 1) (less : s.du.store.length < s.du.target) :
    ∃ t, completes (.buildStep f) s t ∧ t.du.store = s.du.store ++ [t.ap.cue] ∧ t.du.lastOut = s.du.lastOut ∧
      t.du.step = 0 ∧ t.du.mode = if s.du.store.length + 1 = s.du.target then .steady else .building := by
  have step : s.du.stepMix s.pf.working.buildDivisor = true := Delay.stepMix_of_due (by rw [building]; rfl) due
  have stepDue : s.stepDue .building = true := by rw [State.stepDue_of_settled settled on, step, building]; rfl
  have mode : Delay.modeOf (s.du.store.length + 1) s.du.target
      = if s.du.store.length + 1 = s.du.target then .steady else .building := by
    by_cases last : s.du.store.length + 1 = s.du.target
    · rw [if_pos last, Delay.modeOf_eq, if_neg (by omega), if_neg (by omega), if_neg (by omega)]
    · rw [if_neg last, Delay.modeOf_eq, if_pos (by omega)]
  have du := State.mixPeriod_du_run f (by rw [building]; nofun) on
  rw [Delay.run_of_build step building, mode] at du
  exact ⟨s.mixPeriod f, congrArg Host.Outcome.next (State.buildStep_of_due settled stepDue f),
    by rw [du], by rw [du], by rw [du], by rw [du]⟩

/-- A catch-up step (R94, R97). -/
theorem catchUpStep_completes_of_due (on : s.air.state = .onAir ∨ s.air.state = .alertWake) (catching : s.du.mode = .catching)
    (due : s.pf.working.buildDivisor ≤ s.du.step + 1) (more : s.du.target < s.du.store.length) :
    ∃ t, completes (.catchUpStep f) s t ∧ t.du.store = (s.du.store ++ [t.ap.cue]).drop 2 ∧
      some t.du.lastOut = (s.du.store ++ [t.ap.cue])[1]? ∧ t.du.step = 0 ∧
      t.du.mode = if s.du.store.length = s.du.target + 1 then (if s.du.target = 0 then .idle else .steady) else .catching := by
  have step : s.du.stepMix s.pf.working.buildDivisor = true := Delay.stepMix_of_due (by rw [catching]; rfl) due
  have stepDue : s.stepDue .catching = true := by rw [State.stepDue_of_settled settled on, step, catching]; rfl
  obtain ⟨x, y, xs, line⟩ : ∃ x y xs, s.du.store ++ [(s.mixPeriod f).ap.cue] = x :: y :: xs := by
    cases store : s.du.store with
    | nil => rw [store] at more; simp at more
    | cons x rest => cases rest with
      | nil => exact ⟨_, _, _, rfl⟩
      | cons y rest => exact ⟨_, _, _, rfl⟩
  have length : xs.length + 1 = s.du.store.length := by
    have := congrArg List.length line
    simp only [List.length_append, List.length_cons, List.length_nil] at this
    omega
  have mode : Delay.modeOf xs.length s.du.target
      = if s.du.store.length = s.du.target + 1 then (if s.du.target = 0 then .idle else .steady) else .catching := by
    by_cases last : s.du.store.length = s.du.target + 1
    · rw [if_pos last, Delay.modeOf_eq, if_neg (by omega), if_neg (by omega)]
    · rw [if_neg last, Delay.modeOf_eq, if_neg (by omega), if_pos (by omega)]
  have du := State.mixPeriod_du_run f (by rw [catching]; nofun) on
  rw [Delay.run_of_catch line step catching, mode] at du
  refine ⟨s.mixPeriod f, congrArg Host.Outcome.next (State.catchUpStep_of_due settled stepDue f), ?_, ?_, ?_, ?_⟩
  · rw [line, du]; rfl
  · rw [line, du]; rfl
  · rw [du]
  · rw [du]

/-- A step of a mode that the delay is not in is not due (R94; log 5). -/
theorem State.stepDue_of_other_mode (on : s.air.state = .onAir ∨ s.air.state = .alertWake) {m : DelayMode} (other : s.du.mode ≠ m) :
    ¬ s.stepDue m = true := by
  rw [State.stepDue_of_settled settled on, decide_eq_false other]
  nofun

end

/-- The mix at whose end the clock wraps raises CLOCK_WRAP (R182). -/
theorem EventUnit.advance_shows {e : EventUnit} (last : e.clock = 4294967295#32) : e.advance.shows .clockWrap := by
  rw [show e.advance = ({ e with clock := e.clock + 1#32 } : EventUnit).raise .clockWrap from if_pos last]
  exact EventUnit.shows_raise _ _

theorem State.mixPeriod_shows_clockWrap {s : State} (last : s.ev.clock = 4294967295#32) (f : InputFrame) :
    (s.mixPeriod f).ev.shows .clockWrap := by
  refine EventUnit.advance_shows (e := (s.raiseIf (programClips (s.mixAudio f).acc) .clip).ev) ?_
  unfold State.raiseIf
  split <;> exact last

theorem clockWrap_completes (f : InputFrame) (s : State) :
    (s.ev.clock ≠ 4294967295#32 → completes (.clockWrap f) s s) ∧
    (s.ev.clock = 4294967295#32 → s.pf.held = false → ∃ t, completes (.clockWrap f) s t ∧ completes (.mix f) s t ∧ t.ev.clock = 0#32 ∧
      ∀ l, t.ev.status.get l &&& EventKind.clockWrap.set ≠ 0#29) := by
  refine ⟨fun other => congrArg Host.Outcome.next (if_neg other), fun last free => ?_⟩
  have mix := State.mix_runs free f
  refine ⟨s.mix f, congrArg Host.Outcome.next (if_pos last), mix_completes f s, ?_, ?_⟩
  · rw [mix, State.mixPeriod_clock, State.settle_ev_clock, last]; rfl
  · rw [mix]
    exact State.mixPeriod_shows_clockWrap (by rw [State.settle_ev_clock, last]) f

theorem State.mixPeriod_deck (s : State) (f : InputFrame) (d : DeckId) : (s.mixPeriod f).deck d = (s.deck d).tick := by
  cases d <;> rfl

theorem State.mixPeriod_line (s : State) (f : InputFrame) (n : LineId) :
    (s.mixPeriod f).line n = (s.line n).tick (f.ring.get n) (f.loop.get n) := by
  cases n <;> rfl

theorem State.mixPeriod_monitor (s : State) (f : InputFrame) :
    (s.mixPeriod f).air.monitor = s.air.monitor.mix s.monitorHeld (s.mixPeriod f).du.lastOut := rfl

/-- Settles O13: the exchange of the delay by its mode, the two steps, the wrap of the clock, and the counts block by block. -/
theorem mixesMoveTheDelayAndTheClock : Obligations.MixesMoveTheDelayAndTheClock := by
  refine ⟨fun f s x xs settled steady store full on => ?_, fun f s settled => ?_, fun f s settled on => ?_,
    clockWrap_completes, fun f s count m settled counts monitor => ?_⟩
  · have du := State.mixPeriod_du_run f (by rw [steady]; nofun) (.inl on)
    rw [Delay.run_of_steady steady store full] at du
    exact ⟨s.mixPeriod f, mix_completes_of_settled settled f, by rw [du], by rw [du], by rw [du]; exact steady, by rw [du]⟩
  · refine ⟨s.mixPeriod f, mix_completes_of_settled settled f, fun frozen => ?_, fun unfrozen held => ?_,
      fun on => ⟨fun idle store target => ?_, fun mode early x xs line => ?_⟩⟩
    · exact (State.mixPeriod_du s f).trans (Delay.exchange_of_frozen frozen _)
    · exact (State.mixPeriod_du s f).trans (Delay.exchange_of_held unfrozen held _)
    · exact (State.mixPeriod_du_run f (by rw [idle]; nofun) on).trans (Delay.run_of_idle idle store target)
    · have unfrozen : s.du.mode ≠ .frozen := by rcases mode with ⟨st, -⟩ | ⟨st, -⟩ <;> rw [st] <;> nofun
      exact (State.mixPeriod_du_run f unfrozen on).trans (Delay.run_of_stepping line early mode)
  · exact ⟨fun other => congrArg Host.Outcome.next (if_neg (State.stepDue_of_other_mode settled on other)),
      fun other => congrArg Host.Outcome.next (if_neg (State.stepDue_of_other_mode settled on other)),
      buildStep_completes_of_due settled f on, catchUpStep_completes_of_due settled f on⟩
  · subst monitor
    refine ⟨s.mixPeriod f, mix_completes_of_settled settled f, rfl, fun d => ?_, rfl, fun n => ?_, fun on none top => ?_,
      fun held => ?_, rfl, rfl, rfl, State.raiseIf_ps _ _ _⟩
    · exact (State.mixPeriod_deck s f d).trans (Deck.tick_eq _)
    · rw [State.mixPeriod_line, LineRec.tick_eq, counts, counts]; rfl
    · have free : s.monitorHeld = false := by
        rw [Bool.eq_false_iff, Ne, State.monitorHeld_iff, on, none, top]
        simp
      rw [State.mixPeriod_monitor, free, Monitor.mix_free]
    · rw [State.mixPeriod_monitor, (State.monitorHeld_iff s).mpr held, Monitor.mix_held]

end Sys2Proof.Machine
end

section
/-! SUPPORT. What a line record becomes as it enters a state, and a line as it leaves the caller queue (R70, R82 to R85), with the
statements about LINE_ANSWER and LINE_SCREEN (O28), LINE_HOLD and LINE_READY (O29), LINE_DROP and LOOP_LOSS (O31). -/

namespace Sys2Proof.Machine

set_option Elab.async false

/-! ### Line records -/

section
variable {r : LineRec} {st : LineState} {alert : Bool} (now : Clock)

/-- The feed select of a seized state (R84). -/
theorem LineState.feedIn_of_seized (h : st.seized = true) (alert : Bool) : st.feedIn alert = if alert then .alert else st.feed := by
  unfold LineState.feedIn
  rw [h, Bool.and_true]

/-- A RINGING line that is answered (R71, R75). -/
theorem LineRec.sound.enter_screen_of_ringing (h : r.sound alert) (ringing : r.state = .ringing) :
    r.enter .screen alert now =
    { r with state := .screen, seize := true, loopLow := 0, ringTimer := none, holdStart := none, holdLong := false
             feed := if alert then .alert else .screen } := by
  obtain ⟨seize, -, -⟩ := h
  rw [ringing] at seize
  unfold LineRec.enter
  rw [seize, LineState.feedIn_of_seized rfl]
  rfl

/-- A seized line has no ring timer (R70). -/
theorem LineRec.sound.ringTimer_of_seized (h : r.sound alert) (seized : r.state.seized = true) : r.ringTimer = none := by
  obtain ⟨-, -, ring⟩ := h
  refine Option.not_isSome_iff_eq_none.mp fun some => ?_
  rw [ring.mp some] at seized
  exact nomatch seized

/-- A seized line that enters a seized state stays seized: its feed select follows the state, and a hold period begins, goes on or ends
(R84, R85). -/
theorem LineRec.sound.enter_of_seized (h : r.sound alert) (seized : r.state.seized = true) (into : st.seized = true) :
    r.enter st alert now =
    { r with state := st
             holdStart := if st.holding then (if r.state.holding then r.holdStart else some now) else none
             holdLong := st.holding && r.state.holding && r.holdLong
             feed := if alert then .alert else st.feed } := by
  have timer := h.ringTimer_of_seized seized
  obtain ⟨seize, -, -⟩ := h
  unfold LineRec.enter
  rw [timer, ite_self, LineState.feedIn_of_seized into, into, show r.seize = true from seize.trans seized]
  cases r
  cases timer
  cases seize.trans seized
  rfl

/-- A seized line that goes IDLE (R71, R80). -/
theorem LineRec.sound.enter_idle_of_seized (h : r.sound alert) (seized : r.state.seized = true) :
    r.enter .idle alert now =
    { r with state := .idle, seize := false, holdStart := none, holdLong := false, feed := .hold, loopLow := 0 } := by
  have timer := h.ringTimer_of_seized seized
  unfold LineRec.enter
  rw [timer, ite_self, show LineState.idle.feedIn alert = .hold by cases alert <;> rfl]
  cases r
  cases timer
  rfl

end

section
variable {s : State} (sound : s.linesSound) (n : LineId)
include sound

theorem State.linesSound.line : (s.line n).sound s.alertActive := by
  obtain ⟨-, -, line, -, -⟩ := sound
  exact line n

/-- Seize is on exactly in the seized states (R70). -/
theorem State.linesSound.seize : (s.line n).seize = (s.line n).state.seized := by
  obtain ⟨seize, -, -⟩ := sound.line n
  exact seize

/-- Of the lines that may leave the caller queue a READY one is in it, and its leaving is raised (R82). -/
theorem State.linesSound.leaveQueue : s.leaveQueue n = { s with
    lc := { s.lc with queue := s.lc.queue.filter (· ≠ n) }
    ev := if (s.line n).state = .ready then s.ev.raise .queueChange else s.ev } := by
  obtain ⟨-, ready, -, -, -⟩ := sound
  unfold State.leaveQueue
  split
  · rename_i waits
    rw [if_pos ((ready n).mp waits)]; rfl
  · rename_i absent
    have same : s.lc.queue.filter (· ≠ n) = s.lc.queue :=
      List.filter_eq_self.mpr fun m mem => decide_eq_true fun eq => absent (eq ▸ mem)
    rw [if_neg fun st => absent ((ready n).mpr st), same]

/-- A line that leaves the caller queue and the lines a pop offers, for a state (R66, R78, R80). -/
theorem State.linesSound.leave_enter (st : LineState) : ((s.leaveQueue n).leaveOffers n).enterLine n st = { s with
    lc := { s.lc with
      queue := s.lc.queue.filter (· ≠ n)
      lines := s.lc.lines.set n ((s.line n).enter st s.alertActive s.ev.clock) }
    ps := { s.ps with records := s.ps.records.map fun r => { r with gone := r.gone.set n true } }
    ev := if (s.line n).state = .ready then s.ev.raise .queueChange else s.ev } := by
  rw [sound.leaveQueue]
  by_cases ready : (s.line n).state = .ready
  · simp only [if_pos ready]; rfl
  · simp only [if_neg ready]; rfl

/-- A drop of a seized line (R80). -/
theorem State.linesSound.dropLine (seize : (s.line n).seize = true) : s.dropLine n = { s with
    lc := { s.lc with
      queue := s.lc.queue.filter (· ≠ n)
      lines := s.lc.lines.set n
        { s.line n with state := .idle, seize := false, holdStart := none, holdLong := false, feed := .hold, loopLow := 0 } }
    pb := if (s.line n).state = .onAir then
      { s.pb with roster := s.pb.roster.set n.source ((s.entry n.source).setReleasing s.takeFade) } else s.pb
    ps := { s.ps with records := s.ps.records.map fun r => { r with gone := r.gone.set n true } }
    ev := if (s.line n).state = .ready then s.ev.raise .queueChange else s.ev } := by
  unfold State.dropLine
  dsimp only
  rw [sound.leave_enter, (sound.line n).enter_idle_of_seized s.ev.clock ((sound.seize n).symm.trans seize)]
  by_cases onAir : (s.line n).state = .onAir
  · simp only [if_pos onAir]; rfl
  · simp only [if_neg onAir]

end

/-! ### Requests by line code -/

section
variable {own : LineId → State → Answer} {c : Byte} {more : List Byte} (s : State)

theorem onLine_of_none (h : lineOf c = none) : onLine own (c :: more) s = s.reply .unknown := by
  unfold onLine
  dsimp only
  rw [h]

theorem onLine_of_some {n : LineId} (h : lineOf c = some n) : onLine own (c :: more) s = own n s := by
  unfold onLine
  dsimp only
  rw [h]

end

/-- A request that names a line is turned away for a code that names none (R72). -/
theorem turnedAway_of_no_line {i : Instr} {s : State} {rest more : List Byte} {c code : Byte} {need : Nat}
    {own : LineId → State → Answer} (h : s.asks .con rest (c :: more))
    (hi : exec i s = .next (s.request .con code rest true need (onLine own))) (hn : need ≤ (c :: more).length)
    (none : lineOf c = none) : turnedAway i s .con (code :: rest) .unknown :=
  turnedAway_of_reply h hi rfl hn (onLine_of_none _ none)

/-! ### LINE_ANSWER and LINE_SCREEN -/

section
variable {s : State} {n : LineId}

theorem ownLineAnswer_of_ringing (sound : (s.line n).sound s.alertActive) (ringing : (s.line n).state = .ringing) : ownLineAnswer n s =
    (s.setLine n { s.line n with state := .screen, seize := true, loopLow := 0, ringTimer := none, holdStart := none
                                 holdLong := false, feed := if s.alertActive then .alert else .screen }).done := by
  rw [← sound.enter_screen_of_ringing s.ev.clock ringing]
  exact if_pos ringing

theorem ownLineScreen_of_waiting (sound : s.linesSound) (waits : (s.line n).state = .hold ∨ (s.line n).state = .ready) :
    ownLineScreen n s = ({ s with
      lc := { s.lc with
        queue := s.lc.queue.filter (· ≠ n)
        lines := s.lc.lines.set n { s.line n with state := .screen, holdStart := none, holdLong := false
                                                  feed := if s.alertActive then .alert else .screen } }
      ps := { s.ps with records := s.ps.records.map fun r => { r with gone := r.gone.set n true } }
      ev := if (s.line n).state = .ready then s.ev.raise .queueChange else s.ev } : State).done := by
  have seized : (s.line n).state.seized = true := by rcases waits with st | st <;> rw [st] <;> rfl
  unfold ownLineScreen
  rw [if_pos waits, sound.leave_enter, (sound.line n).enter_of_seized s.ev.clock seized rfl]
  rfl

end

/-- Settles O28. -/
theorem lineAnswerAndScreen : Obligations.LineAnswerAndScreen := by
  refine ⟨fun s rest more c asks => ⟨fun none => ?_, fun n line => ⟨fun away => ?_, fun ringing sound => ?_⟩⟩,
    fun s rest more c asks sound => ⟨fun none => ?_, fun n line => ⟨fun held ready => ?_, fun waits => ?_⟩⟩⟩
  · exact turnedAway_of_no_line asks rfl (Nat.le_add_left ..) none
  · exact turnedAway_of_reply asks rfl rfl (Nat.le_add_left ..) ((onLine_of_some _ line).trans (if_neg away))
  · exact completes_of_own asks rfl rfl (Nat.le_add_left ..)
      ((onLine_of_some _ line).trans (ownLineAnswer_of_ringing (s := s.hearing .con (0x30#8 :: rest)) sound ringing)) rfl
  · exact turnedAway_of_no_line asks rfl (Nat.le_add_left ..) none
  · exact turnedAway_of_reply asks rfl rfl (Nat.le_add_left ..) ((onLine_of_some _ line).trans (if_neg (not_or.mpr ⟨held, ready⟩)))
  · exact completes_of_own asks rfl rfl (Nat.le_add_left ..)
      ((onLine_of_some _ line).trans (ownLineScreen_of_waiting (s := s.hearing .con (0x31#8 :: rest)) sound waits)) rfl

/-! ### LINE_HOLD and LINE_READY -/

section
variable {s : State} {n : LineId}

theorem ownLineHold_of_talking (sound : s.linesSound) (talks : (s.line n).state = .screen ∨ (s.line n).state = .onAir) :
    ownLineHold n s = ({ s with
      lc := { s.lc with
        lines := s.lc.lines.set n { s.line n with state := .hold, holdStart := some s.ev.clock, holdLong := false
                                                  feed := if s.alertActive then .alert else .hold } }
      pb := if (s.line n).state = .onAir then
          { s.pb with roster := s.pb.roster.set n.source ((s.entry n.source).setReleasing s.takeFade) }
        else s.pb } : State).done := by
  unfold ownLineHold State.enterLine
  rcases talks with st | st
  · rw [if_pos st, (sound.line n).enter_of_seized s.ev.clock (by rw [st]; rfl) rfl, st]
    rfl
  · rw [if_neg (by rw [st]; nofun), if_pos st, (sound.line n).enter_of_seized s.ev.clock (by rw [st]; rfl) rfl, st]
    rfl

theorem ownLineReady_of_seized (sound : s.linesSound) (front : Bool) (off : (s.line n).state = .screen ∨ (s.line n).state = .hold) :
    ownLineReady front n s = ({ s with
      lc := { s.lc with
        queue := if front then n :: s.lc.queue else s.lc.queue ++ [n]
        lines := s.lc.lines.set n
          { s.line n with state := .ready
                          holdStart := if (s.line n).state = .hold then (s.line n).holdStart else some s.ev.clock
                          holdLong := (s.line n).state = .hold && (s.line n).holdLong
                          feed := if s.alertActive then .alert else .hold } }
      ps := { s.ps with records := s.ps.records.map fun r => { r with gone := r.gone.set n true } }
      ev := s.ev.raise .queueChange } : State).done := by
  have enters : (s.line n).enter .ready s.alertActive s.ev.clock =
      { s.line n with state := .ready
                      holdStart := if (s.line n).state = .hold then (s.line n).holdStart else some s.ev.clock
                      holdLong := (s.line n).state = .hold && (s.line n).holdLong
                      feed := if s.alertActive then .alert else .hold } := by
    rw [(sound.line n).enter_of_seized s.ev.clock (by rcases off with st | st <;> rw [st] <;> rfl) rfl]
    rcases off with st | st <;> rw [st] <;> rfl
  unfold ownLineReady
  rw [if_pos off, ← enters]
  rfl

end

/-- LINE_READY as a request: its line code, and the front option in the byte behind it (R77, R174). -/
theorem execLineReady_con (s : State) (rest : List Byte) : exec (.lineReady .con rest) s =
    .next (s.request .con 0x33#8 rest true 2 fun body => onLine (ownLineReady (bitAt (body.getD 1 0#8) 0)) body) := rfl

/-- Settles O29. -/
theorem lineHoldAndReadyBeginAHold : Obligations.LineHoldAndReadyBeginAHold := by
  refine ⟨fun s rest more c asks sound => ⟨fun none => ?_, fun n line => ⟨fun screen onAir => ?_, fun talks => ?_⟩⟩,
    fun s rest more c b asks sound => ⟨fun none => ?_, fun n line => ⟨fun screen held => ?_, fun off => ?_⟩⟩⟩
  · exact turnedAway_of_no_line asks rfl (Nat.le_add_left ..) none
  · exact turnedAway_of_reply asks rfl rfl (Nat.le_add_left ..)
      ((onLine_of_some _ line).trans ((if_neg screen).trans (if_neg onAir)))
  · exact completes_of_own asks rfl rfl (Nat.le_add_left ..)
      ((onLine_of_some _ line).trans (ownLineHold_of_talking (s := s.hearing .con (0x32#8 :: rest)) sound talks)) rfl
  · exact turnedAway_of_reply asks (execLineReady_con s rest) rfl (Nat.le_add_left ..) (onLine_of_none _ none)
  · exact turnedAway_of_reply asks (execLineReady_con s rest) rfl (Nat.le_add_left ..)
      ((onLine_of_some _ line).trans (if_neg (not_or.mpr ⟨screen, held⟩)))
  · exact completes_of_own asks (execLineReady_con s rest) rfl (Nat.le_add_left ..)
      ((onLine_of_some _ line).trans (ownLineReady_of_seized (s := s.hearing .con (0x33#8 :: rest)) sound (b.getLsbD 0) off)) rfl

/-! ### LINE_DROP and LOOP_LOSS -/

/-- Settles O31. -/
theorem lineDropReleasesTheCall : Obligations.LineDropReleasesTheCall := by
  rintro s rest more c n lc pb ps ev sound rfl rfl rfl rfl
  have seize := sound.seize n
  refine ⟨fun asks none => ?_, fun asks line free => ?_, fun asks line seized => ?_, fun seized lost => ?_, fun kept => ?_⟩
  · exact turnedAway_of_no_line asks rfl (Nat.le_add_left ..) none
  · exact turnedAway_of_reply asks rfl rfl (Nat.le_add_left ..)
      ((onLine_of_some _ line).trans (if_neg (by exact Bool.eq_false_iff.mp (seize.symm.trans free))))
  · have own : ownLineDrop n (s.hearing .con (0x35#8 :: rest)) = ((s.hearing .con (0x35#8 :: rest)).dropLine n).done :=
      if_pos (seize.symm.trans seized)
    rw [State.linesSound.dropLine (s := s.hearing .con (0x35#8 :: rest)) sound n seized] at own
    exact completes_of_own asks rfl rfl (Nat.le_add_left ..) ((onLine_of_some _ line).trans own) rfl
  · have loss : s.loopLoss n = (s.dropLine n).raise .lineDrop := if_pos ⟨seized, lost⟩
    rw [sound.dropLine n seized] at loss
    exact congrArg Host.Outcome.next loss
  · have stays : s.loopLoss n = s := if_neg fun ⟨seized, lost⟩ => by
      rcases kept with free | few
      · exact nomatch free.symm.trans seized
      · exact Nat.not_le_of_lt few lost
    exact congrArg Host.Outcome.next stays

end Sys2Proof.Machine
end

section
/-! SUPPORT. What a pop does, step by step (R60 to R69), and what it leaves alone. -/

namespace Sys2Proof.Machine

set_option Elab.async false

/-! ### What the steps of a pop leave alone -/

/-- From a state to a state only the sequencer, the roster entries of some sources and the events raised since differ, of all that the
steps of a pop reach. -/
structure State.Within (T : Source → Prop) (s t : State) : Prop where
  ap : t.ap = s.ap
  ps : t.ps = s.ps
  lc : t.lc = s.lc
  du : t.du = s.du
  al : t.al = s.al
  air : t.air = s.air
  tl : t.tl = s.tl
  cl : t.cl = s.cl
  pf : t.pf = s.pf
  clock : t.ev.clock = s.ev.clock
  shows : ∀ k, s.ev.shows k → t.ev.shows k
  entry : ∀ src, ¬ T src → t.entry src = s.entry src

namespace State.Within

section
variable {T U : Source → Prop} {s t u : State}

theorem refl (s : State) : s.Within T s := ⟨rfl, rfl, rfl, rfl, rfl, rfl, rfl, rfl, rfl, rfl, fun _ => id, fun _ _ => rfl⟩

theorem trans (h : s.Within T t) (g : t.Within T u) : s.Within T u where
  ap := g.ap.trans h.ap
  ps := g.ps.trans h.ps
  lc := g.lc.trans h.lc
  du := g.du.trans h.du
  al := g.al.trans h.al
  air := g.air.trans h.air
  tl := g.tl.trans h.tl
  cl := g.cl.trans h.cl
  pf := g.pf.trans h.pf
  clock := g.clock.trans h.clock
  shows k := g.shows k ∘ h.shows k
  entry src out := (g.entry src out).trans (h.entry src out)

theorem mono (h : s.Within T t) (sub : ∀ src, T src → U src) : s.Within U t :=
  { h with entry := fun src out => h.entry src (out ∘ sub src) }

theorem preemptFade (h : s.Within T t) : t.preemptFade = s.preemptFade := by
  unfold State.preemptFade
  rw [h.pf]

/-- The same lines taken for those of both states. -/
theorem withLines (h : s.Within T t) (c : LineController) : ({ s with lc := c } : State).Within T { t with lc := c } :=
  { h with lc := rfl }

/-- The same delay taken for that of both states. -/
theorem withDelay (h : s.Within T t) (d : Delay) : (s.setDu d).Within T (t.setDu d) := { h with du := rfl }

theorem setSq (h : s.Within T t) (q : Sequencer) : s.Within T (t.setSq q) :=
  h.trans ⟨rfl, rfl, rfl, rfl, rfl, rfl, rfl, rfl, rfl, rfl, fun _ => id, fun _ _ => rfl⟩

theorem setDeck (h : s.Within T t) (d : DeckId) (k : Deck) : s.Within T (t.setDeck d k) := h.setSq _

theorem setEntry (h : s.Within T t) {src : Source} (mem : T src) (e : Entry) : s.Within T (t.setEntry src e) :=
  h.trans ⟨rfl, rfl, rfl, rfl, rfl, rfl, rfl, rfl, rfl, rfl, fun _ => id, fun other out =>
    (PerSource_get_set ..).trans (if_neg fun same : other = src => out (same ▸ mem))⟩

theorem updEntry (h : s.Within T t) {src : Source} (mem : T src) (f : Entry → Entry) : s.Within T (t.updEntry src f) :=
  h.setEntry mem _

theorem raise (h : s.Within T t) (k : EventKind) : s.Within T (t.raise k) :=
  h.trans ⟨rfl, rfl, rfl, rfl, rfl, rfl, rfl, rfl, rfl, rfl, fun _ shown => shown.raise k, fun _ _ => rfl⟩

theorem raiseIf (h : s.Within T t) (c : Bool) (k : EventKind) : s.Within T (t.raiseIf c k) := by
  cases c with
  | false => exact h
  | true => exact h.raise k

theorem addDone (h : s.Within T t) (r : DoneRecord) : s.Within T (t.addDone r) := by
  unfold State.addDone
  split <;> exact (h.setSq _).raise .itemDone

theorem reposition (h : s.Within T t) (d : DeckId) (position : Nat) : s.Within T (t.reposition d position) := by
  unfold State.reposition
  split
  · exact h
  · exact (h.setDeck _ _).setSq _

theorem headToTail (h : s.Within T t) : s.Within T t.headToTail := by
  unfold State.headToTail
  split
  · exact h
  · exact ((h.setDeck _ _).setSq _).setSq _

theorem halt (h : s.Within T t) : s.Within T t.halt := (h.setSq _).raise .seqHalted

end

/-! The operations of the sequencer, which reach the entries of the decks -/

section
variable {T : Source → Prop} {s t : State} (decks : ∀ d : DeckId, T d.source)
include decks

theorem freeDeck (h : s.Within T t) (d : DeckId) : s.Within T (t.freeDeck d) := (h.setDeck _ _).updEntry (decks d) _

theorem bindDeck (h : s.Within T t) (d : DeckId) (id : Nat) : s.Within T (t.bindDeck d id) :=
  ((h.setDeck _ _).updEntry (decks d) _).raise .cueRequest

theorem cueOnce (h : s.Within T t) : s.Within T t.cueOnce := by
  unfold State.cueOnce
  split
  · exact h.bindDeck decks _ _
  · exact h

theorem abandon (h : s.Within T t) (d : DeckId) : s.Within T (t.abandon d) := by
  unfold State.abandon
  split
  · exact h
  · exact (((h.addDone _).freeDeck decks d).updEntry (decks d) _).setSq _

theorem applyKind (h : s.Within T t) (k : ResumeKind) : s.Within T (t.applyKind k) := by
  unfold State.applyKind
  split
  · exact h.abandon decks _
  · exact h.reposition _ _
  · exact h

theorem startItem (h : s.Within T t) (d : DeckId) (i : Item) (late : Bool) : s.Within T (t.startItem d i late) :=
  ((((h.headToTail.setDeck _ _).updEntry (decks d) _).setSq _).raise .seqAdvance).raiseIf late .lateStart

theorem takeStart (h : s.Within T t) (late : Bool) : s.Within T (t.takeStart late) := by
  unfold State.takeStart
  split
  · split
    · exact h
    · split
      · split
        · exact h.halt
        · split
          · exact h
          · exact h.headToTail.halt
      · split
        · exact h
        · split
          · exact h.startItem decks _ _ _
          · exact h
  · exact h

theorem review (h : s.Within T t) (late : Bool) : s.Within T (t.review late) :=
  (((((h.setSq _).takeStart decks late).takeStart decks false).takeStart decks false).cueOnce decks).cueOnce decks

theorem restoreSequencer (h : s.Within T t) (r : Context) : s.Within T (t.restoreSequencer r) := (h.setSq _).review decks false

end

end State.Within

/-! ### Entries restored (R64, R65) -/

theorem Entry.restoredFrom_of_taken {x : Entry} {e : EntrySnapshot} (con : x.controller = .con) (aut : e.controller ≠ .con) (fade : Nat) :
    x.restoredFrom e fade = x := if_pos ⟨con, aut⟩

section
variable {x : Entry} {e : EntrySnapshot} (free : ¬ (x.controller = .con ∧ e.controller ≠ .con)) (fade : Nat)
include free

theorem Entry.restoredFrom_of_live (live : e.state = .live) : x.restoredFrom e fade = { x with
    state := .live, target := e.target, remaining := min (e.remaining + fade) 480000
    current := if min (e.remaining + fade) 480000 = 0 then e.target else x.current
    faded := e.faded && decide (e.target = 0) } := by
  unfold Entry.restoredFrom
  rw [if_neg free, live]

theorem Entry.restoredFrom_of_off (off : e.state = .off) : x.restoredFrom e fade =
    { x with target := e.target, faded := e.faded && decide (e.target = 0) : Entry }.setReleasing
      (min (e.remaining + fade) 480000) := by
  unfold Entry.restoredFrom
  rw [if_neg free, off]

end

/-- A saved entry with another target to be restored toward (R62). -/
def EntrySnapshot.toward (e : EntrySnapshot) (target : Nat) : EntrySnapshot := { e with target := target }

section
variable (s : State) (r : Context)

/-- An entry restored is restored from its saved entry, with the target a reprise may give it (R62, R64, R65). -/
theorem State.restoreEntry_eq (reprised : Option DeckId) (src : Source) : s.restoreEntry r reprised src = s.setEntry src
    ((s.entry src).restoredFrom ((r.roster.get src).toward (s.restoreTarget src (r.roster.get src) reprised)) s.preemptFade) := by
  unfold State.restoreEntry Entry.restoredFrom EntrySnapshot.toward
  dsimp only
  split
  · exact (State.setEntry_self s src).symm
  · unfold State.updEntry Entry.restore State.restoreLength
    cases (r.roster.get src).state <;> rfl

/-- Without a reprise the saved target is restored. -/
theorem State.restoreEntry_none (src : Source) :
    s.restoreEntry r none src = s.setEntry src ((s.entry src).restoredFrom (r.roster.get src) s.preemptFade) :=
  s.restoreEntry_eq r none src

theorem State.restoreEntry_sq (reprised : Option DeckId) (src : Source) : (s.restoreEntry r reprised src).sq = s.sq := by
  rw [State.restoreEntry_eq]; rfl

theorem State.restoreDeckEntry_sq (reprised : Option DeckId) (d : DeckId) (saved : Option DeckSnapshot) :
    (s.restoreDeckEntry r reprised d saved).sq = s.sq := by
  unfold State.restoreDeckEntry
  split
  · exact s.restoreEntry_sq r reprised _
  · rfl

theorem State.restoreRoster_sq (reprised : Option DeckId) : (s.restoreRoster r reprised).sq = s.sq := by
  unfold State.restoreRoster
  dsimp only
  split <;> simp only [State.restoreEntry_sq, State.restoreDeckEntry_sq]

theorem State.restoreLines_sq : (s.restoreLines r).sq = s.sq := by
  unfold State.restoreLines
  split
  · rfl
  · exact foldl_state_keeps (·.sq) _ (fun t (n : LineId) => t.restoreEntry_sq r none n.source) _ _

end

/-- The lines once a pop has returned those it offers (R66, R87, R88). -/
def State.linesPopped (s : State) (r : Context) : LineController :=
  if r.cause = .breakIn then s.lc else s.lc.returnToAir (s.lc.returned r.onAirLines r.gone) s.alertActive s.ev.clock

namespace State.Within

section
variable {T : Source → Prop} {s t : State}

theorem restoreEntry (h : s.Within T t) (r : Context) (reprised : Option DeckId) {src : Source} (mem : T src) :
    s.Within T (t.restoreEntry r reprised src) := by
  rw [State.restoreEntry_eq]
  exact h.setEntry mem _

theorem restoreDeckEntry (h : s.Within T t) (r : Context) (reprised : Option DeckId) {d : DeckId} (mem : T d.source)
    (saved : Option DeckSnapshot) : s.Within T (t.restoreDeckEntry r reprised d saved) := by
  unfold State.restoreDeckEntry
  split
  · exact h.restoreEntry r reprised mem
  · exact h

theorem restoreLines (h : s.Within T t) (r : Context) (lines : ∀ n : LineId, T n.source) :
    ({ s with lc := s.linesPopped r } : State).Within T (t.restoreLines r) := by
  have entries : ∀ (ns : List LineId) (u : State), u.Within T (ns.foldl (fun acc n => acc.restoreEntry r none n.source) u) := fun ns => by
    induction ns with
    | nil => exact refl
    | cons n ns ih => exact fun u => ((refl u).restoreEntry r none (lines n)).trans (ih _)
  have active : t.alertActive = s.alertActive := congrArg (·.onAir.isSome) h.al
  unfold State.restoreLines State.linesPopped
  split
  · exact h
  · dsimp only
    rw [h.lc, h.clock, active]
    exact (h.withLines _).trans (entries _ _)

end

end State.Within

end Sys2Proof.Machine
end

section
/-! SUPPORT. A pop from its steps, and the statements about RESUME: its checks and the pop of the top record (O18), NEXT and
REPRISE (O19). -/

namespace Sys2Proof.Machine

set_option Elab.async false

/-! ### A pop up to its lines (R60 steps 1 to 5) -/

/-- The state with the stack a pop leaves: the record gone, the last-resume record filled (R69). -/
def State.resumed (s : State) (r : Context) (rest : List Context) (taker : ResumeBy) (k : ResumeKind) : State :=
  s.setPs { s.ps with records := rest, lastResume := some (s.lastResume r taker k) }

/-- The deck a pop repositions, where its kind comes to REPRISE (R62). -/
def State.reprised (s : State) (r : Context) (k : ResumeKind) : Option DeckId :=
  if s.applied r k = .reprise then s.pausedHead else none

/-- A pop up to its decks: the kind applied to the head, and the decks reconciled with the record (R61 to R63). -/
def State.reconciled (s : State) (r : Context) (rest : List Context) (taker : ResumeBy) (k : ResumeKind) : State :=
  let t := (s.resumed r rest taker k).applyKind (s.applied r k)
  t.setSq (t.sq.reconcileDecks r)

/-- A pop up to its lines. -/
def State.popped (s : State) (r : Context) (rest : List Context) (taker : ResumeBy) (k : ResumeKind) : State :=
  ((s.reconciled r rest taker k).restoreRoster r (s.reprised r k)).restoreLines r

section
variable (s : State) (r : Context) (rest : List Context) (taker : ResumeBy) (k : ResumeKind)

theorem State.popRecord_eq : s.popRecord r rest taker k =
    (((s.popped r rest taker k).restoreDelay r).restoreSequencer r).raise .resumed := rfl

theorem State.reconciled_within {T : Source → Prop} (decks : ∀ d : DeckId, T d.source) :
    (s.resumed r rest taker k).Within T (s.reconciled r rest taker k) :=
  ((State.Within.refl _).applyKind decks _).setSq _

/-- The entries of the decks with their saved entries restored (R64, R65). -/
def State.restoreDeckEntries (s : State) (r : Context) (reprised : Option DeckId) : State :=
  (s.restoreDeckEntry r reprised .a r.deckA).restoreDeckEntry r reprised .b r.deckB

theorem State.restoreDeckEntries_within {T : Source → Prop} (decks : ∀ d : DeckId, T d.source) (reprised : Option DeckId) :
    s.Within T (s.restoreDeckEntries r reprised) :=
  ((State.Within.refl s).restoreDeckEntry r reprised (decks .a) _).restoreDeckEntry r reprised (decks .b) _

theorem State.restoreRoster_eq (reprised : Option DeckId) : s.restoreRoster r reprised =
    if r.cause = .breakIn then (s.restoreDeckEntries r reprised).restoreEntry r none .mic
    else ((s.restoreDeckEntries r reprised).restoreEntry r none .mic).restoreEntry r none .fbk := rfl

/-- After the decks' entries a pop restores MIC, FBK and the lines, and no deck's entry. -/
theorem State.popped_after_decks {T : Source → Prop} (mic : T .mic) (fbk : T .fbk) (lines : ∀ n : LineId, T n.source) :
    let u := (s.reconciled r rest taker k).restoreDeckEntries r (s.reprised r k)
    ({ u with lc := u.linesPopped r } : State).Within T (s.popped r rest taker k) := by
  refine State.Within.restoreLines ?_ r lines
  rw [State.restoreRoster_eq]
  split
  · exact (State.Within.refl _).restoreEntry r none mic
  · exact ((State.Within.refl _).restoreEntry r none mic).restoreEntry r none fbk

/-- What a pop leaves alone up to its lines, but for the lines it returns. -/
theorem State.popped_within : ({ s.resumed r rest taker k with lc := s.linesPopped r } : State).Within (fun _ => True)
    (s.popped r rest taker k) := by
  refine State.Within.restoreLines (s := s.resumed r rest taker k) ?_ r fun _ => trivial
  have decks := (s.reconciled_within r rest taker k (T := fun _ => True) fun _ => trivial).trans
    ((s.reconciled r rest taker k).restoreDeckEntries_within r (fun _ => trivial) (s.reprised r k))
  rw [State.restoreRoster_eq]
  split
  · exact decks.restoreEntry r none trivial
  · exact (decks.restoreEntry r none trivial).restoreEntry r none trivial

/-- MIC is restored from the record (R64, R65). -/
theorem State.popped_mic : (s.popped r rest taker k).entry .mic = (s.entry .mic).restoredFrom r.roster.mic s.preemptFade := by
  let u := (s.reconciled r rest taker k).restoreDeckEntries r (s.reprised r k)
  have before : (s.resumed r rest taker k).Within (· ≠ .mic) u :=
    (s.reconciled_within r rest taker k fun d => by cases d <;> nofun).trans
      ((s.reconciled r rest taker k).restoreDeckEntries_within r (fun d => by cases d <;> nofun) _)
  have entry : u.entry .mic = s.entry .mic := before.entry .mic fun ne => ne rfl
  have fade : u.preemptFade = s.preemptFade := before.preemptFade
  have roster : (u.restoreEntry r none .mic).Within (· ≠ .mic) ((s.reconciled r rest taker k).restoreRoster r (s.reprised r k)) := by
    rw [State.restoreRoster_eq]
    split
    · exact State.Within.refl _
    · exact (State.Within.refl _).restoreEntry r none nofun
  have after := roster.restoreLines r fun n => by cases n <;> nofun
  rw [show (s.popped r rest taker k).entry .mic = _ from after.entry .mic fun ne => ne rfl, ← entry, ← fade]
  show (u.restoreEntry r none .mic).entry .mic = _
  rw [State.restoreEntry_none]
  rfl

end

/-! ### RESUME, its checks -/

theorem resumeOf_of_le {c : Byte} (h : c.toNat ≤ 2) :
    resumeOf c = some (if c.toNat = 0 then .goOn else if c.toNat = 1 then .next else .reprise) := by
  unfold resumeOf
  obtain code | code | code : c.toNat = 0 ∨ c.toNat = 1 ∨ c.toNat = 2 := by omega
  all_goals rw [code]; rfl

theorem resumeOf_of_lt {c : Byte} (h : 2 < c.toNat) : resumeOf c = none := by
  unfold resumeOf
  split
  case h_4 => rfl
  all_goals omega

/-- Who may pop a top cause (R58). -/
theorem mayResume_iff {l : LaneId} (lane : l ≠ .alr) (c : Cause) : mayResume l c = true ↔
    l = .con ∧ c ≠ .alert ∨ l = .aut ∧ (c = .failover ∨ c = .remoteFallback) := by
  cases l <;> cases c <;> simp_all [mayResume]

section
variable {s : State} {l : LaneId} {c : Byte} {more : List Byte} {k : ResumeKind} {r : Context} {rs : List Context}

theorem ownResume_of_empty (kind : resumeOf c = some k) (records : s.ps.records = []) :
    ownResume l (c :: more) s = s.reply .nothing := by
  unfold ownResume State.topCause
  rw [records]
  dsimp only
  rw [kind]
  rfl

theorem ownResume_of_record (kind : resumeOf c = some k) (records : s.ps.records = r :: rs) : ownResume l (c :: more) s =
    if mayResume l r.cause then (s.popRecord r rs (resumeBy l) k).done.thenBreak else s.reply .refused := by
  unfold ownResume State.topCause State.pop
  rw [records]
  dsimp only
  rw [kind]
  rfl

end

/-! ### RESUME, the pop of any record -/

section
variable {s : State} {r : Context} (rs : List Context) (taker : ResumeBy) (k : ResumeKind)

theorem State.restoreDelay_of_ne_alert (cause : r.cause ≠ .alert) (t : State) : t.restoreDelay r = t := if_neg cause

/-- What a pop of any record but an ALERT's leaves alone, but for the lines it returns. -/
theorem State.popRecord_within (cause : r.cause ≠ .alert) :
    ({ s.resumed r rs taker k with lc := s.linesPopped r } : State).Within (fun _ => True) (s.popRecord r rs taker k) := by
  rw [State.popRecord_eq, State.restoreDelay_of_ne_alert cause]
  exact ((s.popped_within r rs taker k).restoreSequencer (fun _ => trivial) r).raise .resumed

theorem State.popRecord_mic (cause : r.cause ≠ .alert) :
    (s.popRecord r rs taker k).entry .mic = (s.entry .mic).restoredFrom r.roster.mic s.preemptFade := by
  rw [State.popRecord_eq, State.restoreDelay_of_ne_alert cause, ← s.popped_mic r rs taker k]
  exact (((State.Within.refl _).restoreSequencer (T := (· ≠ .mic)) (fun d => by cases d <;> nofun) r).raise .resumed).entry .mic
    fun ne => ne rfl

theorem State.popRecord_shows : (s.popRecord r rs taker k).ev.shows .resumed := EventUnit.shows_raise _ _

end

/-- No lane pops an ALERT's record (R58). -/
theorem ne_alert_of_may {l : LaneId} {c : Cause} (may : l = .con ∧ c ≠ .alert ∨ l = .aut ∧ (c = .failover ∨ c = .remoteFallback)) :
    c ≠ .alert := by
  rcases may with ⟨-, cause⟩ | ⟨-, rfl | rfl⟩
  · exact cause
  · nofun
  · nofun

/-- A RESUME that is taken completes in the pop of the top record, with no break opportunity taken (R58, R118). -/
theorem resume_completes {s : State} {l : LaneId} {rest more : List Byte} {c : Byte} {k : ResumeKind} {r : Context} {rs : List Context}
    (asks : s.asks l rest (c :: more)) (lane : l ≠ .alr) (kind : resumeOf c = some k) (records : s.ps.records = r :: rs)
    (may : l = .con ∧ r.cause ≠ .alert ∨ l = .aut ∧ (r.cause = .failover ∨ r.cause = .remoteFallback)) (quiet : s.noBreakTaken)
    {t : State} (pop : (s.hearing l (0x29#8 :: rest)).popRecord r rs (resumeBy l) k = t) :
    completes (.resume l rest) s { t with
      sq := { t.sq with breakSignal := s.sq.breakSignal }
      cl := s.replied l (0x29#8 :: rest) .done [] } := by
  obtain ⟨table, unsignalled⟩ := quiet
  have cause := ne_alert_of_may may
  have within := State.popRecord_within (s := s.hearing l (0x29#8 :: rest)) rs (resumeBy l) k cause
  have own : ownResume l (c :: more) (s.hearing l (0x29#8 :: rest)) = t.done.thenBreak :=
    (ownResume_of_record (s := s.hearing l (0x29#8 :: rest)) kind records).trans
      ((if_pos ((mayResume_iff lane _).mpr may)).trans (by rw [pop]))
  rw [pop] at within
  refine completes_of_done_break asks rfl (autOrCon_of_ne_alr lane) (Nat.le_add_left ..) own ?_ unsignalled within.cl
  rw [within.al]
  exact table

/-! ### A head alone on a deck (R62, R63) -/

/-- The deck entry a record saved of a deck (R51). -/
def Context.deck (r : Context) (d : DeckId) : Option DeckSnapshot := if d = .a then r.deckA else r.deckB

section
variable {q : Sequencer} {d : DeckId} {h : Item} {tl : List Item}

/-- A FREE deck stays FREE (R63). -/
theorem Sequencer.reconcile_initial (saved : Option DeckSnapshot) (st : SeqState) : q.reconcile saved st Deck.initial = Deck.initial := by
  unfold Sequencer.reconcile
  split
  · exact if_neg fun fits => nomatch fits.1
  · rfl

theorem Sequencer.reconcileDecks_of_alone (other : q.deck d.other = Deck.initial) (r : Context) :
    q.reconcileDecks r = q.setDeck d (q.reconcile (r.deck d) r.seqState (q.deck d)) := by
  unfold Sequencer.reconcileDecks
  cases d with
  | a =>
    have free : q.deckB = Deck.initial := other
    rw [free, Sequencer.reconcile_initial, ← free]
    rfl
  | b =>
    have free : q.deckA = Deck.initial := other
    rw [free, Sequencer.reconcile_initial, ← free]
    rfl

variable {k : Deck} (list : q.list = h :: tl) (paused : k.state = .paused) (item : k.item = some h.id)
include list paused item

theorem Sequencer.resumed_of_head : q.resumed k = { k with state := .playing } := by
  unfold Sequencer.resumed
  rw [if_pos paused, if_pos (by rw [item, list]; simp)]

/-- The head's deck that was PLAYING at the push plays on (R63). -/
theorem Sequencer.reconcile_of_playing {saved : Option DeckSnapshot} {pos : Nat}
    (playing : saved = some { item := h.id, state := .playing, position := pos }) :
    q.reconcile saved .running k = { k with state := .playing } := by
  rw [← Sequencer.resumed_of_head list paused item, playing]
  exact if_pos ⟨item, .inl rfl, .inl rfl⟩

/-- The head's deck plays on or stays PAUSED (R63). -/
theorem Sequencer.reconcile_of_head (saved : Option DeckSnapshot) (st : SeqState) : ∃ st', (st' = .playing ∨ st' = .paused) ∧
    q.reconcile saved st k = { k with state := st' } := by
  unfold Sequencer.reconcile
  split
  · split
    · exact ⟨_, .inl rfl, Sequencer.resumed_of_head list paused item⟩
    · exact ⟨_, .inr rfl, by rw [← paused]⟩
  · exact ⟨_, .inr rfl, by rw [← paused]⟩

end

section
variable {s : State} {d : DeckId} {h : Item} (r : Context) (reprised : Option DeckId)

/-- The entry of a FREE deck is left alone (R65; log 20). -/
theorem State.restoreDeckEntry_of_free (free : s.deck d = Deck.initial) (saved : Option DeckSnapshot) :
    s.restoreDeckEntry r reprised d saved = s := by
  refine if_neg ?_
  rw [free]
  cases saved <;> exact nofun

theorem State.restoreDeckEntries_of_alone (other : s.deck d.other = Deck.initial) :
    s.restoreDeckEntries r reprised = s.restoreDeckEntry r reprised d (r.deck d) := by
  unfold State.restoreDeckEntries
  cases d with
  | a =>
    have free : (s.restoreDeckEntry r reprised .a r.deckA).deck .b = Deck.initial := by
      unfold State.deck
      rw [State.restoreDeckEntry_sq]
      exact other
    exact State.restoreDeckEntry_of_free r reprised free _
  | b => rw [State.restoreDeckEntry_of_free (s := s) (d := .a) r reprised other]; rfl

/-- The entry of the deck that still holds its saved item is restored (R64, R65). -/
theorem State.restoreDeckEntry_of_fit {saved : DeckSnapshot} (there : r.deck d = some saved) (item : (s.deck d).item = some saved.item) :
    s.restoreDeckEntry r reprised d (r.deck d) = s.restoreEntry r reprised d.source := by
  rw [there]
  exact if_pos (decide_eq_true item)

/-- A head alone, PLAYING or PAUSED on a deck, leaves the entry into the saved state nothing to start and nothing to cue (R35, R47). -/
theorem State.restoreSequencer_of_alone (list : s.sq.list = [h]) (kind : h.kind ≠ .live) (item : (s.deck d).item = some h.id)
    (other : s.deck d.other = Deck.initial) (stands : (s.deck d).state = .playing ∨ (s.deck d).state = .paused) :
    s.restoreSequencer r = s.setSq (s.sq.enter r.seqState) := by
  have decks : ∀ e, (s.sq.enter r.seqState).deck e = s.deck e := fun e => by cases e <;> rfl
  have point : r.seqState = .running → (s.sq.enter r.seqState).headAtSegue = true → (s.sq.enter r.seqState).segueTaken = true := by
    intro running reached
    rw [running, Sequencer.enter_running] at reached ⊢
    exact (congrArg (s.sq.segueTaken || ·) reached).trans (Bool.or_true _)
  have listed : (s.sq.enter r.seqState).list = [h] := list
  have entered : (s.sq.enter r.seqState).state = r.seqState := rfl
  rw [← decks] at item other stands
  unfold State.restoreSequencer
  generalize s.sq.enter r.seqState = q at *
  have apart : (q.deck d.other).item ≠ some h.id := by rw [other]; nofun
  by_cases running : r.seqState = .running
  · rcases stands with playing | paused
    · exact State.review_of_alone (s := s.setSq q) listed (Sequencer.playing_of_other_free playing other) item apart (point running) false
    · refine State.review_of_waiting (s := s.setSq q) (Sequencer.playing_of_idle d ?_ ?_) listed kind
        (Sequencer.boundDeck_of_item item apart) ?_ false
      · show (q.deck d).state ≠ _
        rw [paused]; nofun
      · show (q.deck d.other).state ≠ _
        rw [other]; nofun
      · show (q.deck d).state ≠ _
        rw [paused]; nofun
  · rw [State.review_of_not_running (s := s.setSq q) fun st => running (entered.symm.trans st)]
    exact State.cue_of_no_candidate (s := s.setSq q) (Sequencer.cueCandidate_of_alone listed item apart)

end

/-! ### One line returned (R66, R87) -/

section
variable {s : State} {r : Context} {n : LineId} (cause : r.cause ≠ .breakIn) (lines : r.onAirLines = [n])
include cause lines

/-- A line gone since the push is not offered back (R66, R88). -/
theorem State.restoreLines_of_gone (gone : r.gone.get n = true) : s.restoreLines r = s := by
  have none : s.lc.returned r.onAirLines r.gone = [] := by
    unfold LineController.returned
    rw [lines, List.filter_cons, gone, Bool.not_true, Bool.and_false, if_neg nofun, List.filter_nil, List.take_nil]
  unfold State.restoreLines
  rw [if_neg cause, none]
  rfl

/-- A saved line in HOLD with room on the air goes back with its entry (R66, R87). -/
theorem State.restoreLines_of_held (gone : r.gone.get n = false) (quiet : s.al.onAir = none) (room : s.lc.onAirCount = 0)
    (held : (s.line n).state = .hold) (seize : (s.line n).seize = true) (timer : (s.line n).ringTimer = none) :
    s.restoreLines r = ({ s with
      lc := { s.lc with
        lines := s.lc.lines.set n { s.line n with state := .onAir, holdStart := none, holdLong := false, feed := .mixMinus } } }
      : State).setEntry n.source ((s.entry n.source).restoredFrom (r.roster.get n.source) s.preemptFade) := by
  have one : s.lc.returned r.onAirLines r.gone = [n] := by
    unfold LineController.returned
    rw [lines, room, List.filter_cons, show (s.lc.lines.get n).state = _ from held, gone, List.filter_nil]
    rfl
  have silent : s.alertActive = false := congrArg Option.isSome quiet
  have enters : (s.line n).enter .onAir false s.ev.clock =
      { s.line n with state := .onAir, holdStart := none, holdLong := false, feed := .mixMinus } := by
    unfold LineRec.enter
    rw [seize, timer]
    generalize s.line n = x at *
    cases x
    cases seize
    cases timer
    rfl
  have back : s.lc.returnToAir [n] false s.ev.clock = { s.lc with
      lines := s.lc.lines.set n { s.line n with state := .onAir, holdStart := none, holdLong := false, feed := .mixMinus } } := by
    unfold LineController.returnToAir
    refine congrArg (fun t => { s.lc with lines := t }) (PerLine.ext_get fun m => ?_)
    rw [PerLine_get_mapWith, PerLine_get_set]
    by_cases same : m = n
    · rw [if_pos (List.mem_singleton.mpr same), if_pos same, same]
      exact enters
    · rw [if_neg (by simpa using same), if_neg same]
  unfold State.restoreLines
  rw [if_neg cause, one, silent]
  dsimp only
  rw [back]
  exact State.restoreEntry_none _ r n.source

end

/-! ### The delay at a pop (R67, R104) -/

/-- The delay a pop leaves: an ALERT's end unfreezes it. -/
def State.delayPopped (s : State) (r : Context) : Delay := if r.cause = .alert then s.du.unfreeze else s.du

/-- A pop that ends no wake reaches the delay alone here. -/
theorem State.restoreDelay_of_awake {s : State} {r : Context} (awake : r.cause = .alert → s.air.state ≠ .alertWake) :
    s.restoreDelay r = s.setDu (s.delayPopped r) := by
  unfold State.restoreDelay State.delayPopped
  split
  · rename_i alert
    exact if_neg (awake alert)
  · rfl

/-! ### A pop that CONTINUEs a head alone on its deck -/

/-- The roster with the head's deck, MIC and FBK restored (R64). -/
def State.rosterResumed (s : State) (r : Context) (d : DeckId) : PerSource Entry :=
  ((s.pb.roster.set d.source ((s.entry d.source).restoredFrom (r.roster.get d.source) s.preemptFade)).set .mic
    ((s.entry .mic).restoredFrom r.roster.mic s.preemptFade)).set .fbk ((s.entry .fbk).restoredFrom r.roster.fbk s.preemptFade)

/-- A pop up to its lines, with the head's deck playing on and its entry, MIC and FBK restored. -/
def State.playedOn (s : State) (r : Context) (rest : List Context) (taker : ResumeBy) (d : DeckId) : State :=
  { s.resumed r rest taker .goOn with
    sq := s.sq.setDeck d { s.deck d with state := .playing }
    pb := { s.pb with roster := s.rosterResumed r d } }

section
variable {s : State} {r : Context} {d : DeckId} {h : Item} {pos : Nat} (rs : List Context) (taker : ResumeBy)
  (cause : r.cause ≠ .breakIn) (running : r.seqState = .running) (list : s.sq.list = [h]) (kind : h.kind ≠ .live)
  (paused : (s.deck d).state = .paused) (item : (s.deck d).item = some h.id) (other : s.deck d.other = Deck.initial)
  (saved : r.deck d = some { item := h.id, state := .playing, position := pos })

include running list paused item other saved in
theorem State.reconciled_goOn : s.reconciled r rs taker .goOn =
    (s.resumed r rs taker .goOn).setSq (s.sq.setDeck d { s.deck d with state := .playing }) := by
  have deck : s.sq.reconcileDecks r = s.sq.setDeck d { s.deck d with state := .playing } := by
    rw [Sequencer.reconcileDecks_of_alone other, running]
    exact congrArg (s.sq.setDeck d) (Sequencer.reconcile_of_playing list paused item saved)
  rw [← deck]
  rfl

include cause running list paused item other saved

theorem State.popped_goOn : s.popped r rs taker .goOn = (s.playedOn r rs taker d).restoreLines r := by
  have roster : (s.reconciled r rs taker .goOn).restoreRoster r none = s.playedOn r rs taker d := by
    rw [State.reconciled_goOn rs taker running list paused item other saved, State.restoreRoster_eq, if_neg cause,
      State.restoreDeckEntries_of_alone (d := d) r none (by cases d <;> exact other),
      State.restoreDeckEntry_of_fit r none saved (by cases d <;> exact item)]
    simp only [State.restoreEntry_none]
    cases d <;> rfl
  exact congrArg (·.restoreLines r) roster

include kind

/-- Such a pop, whole, from what its lines leave (R60). -/
theorem State.popRecord_goOn (early : h.segueReached (s.deck d).position = false) (awake : r.cause = .alert → s.air.state ≠ .alertWake)
    {w : State} (lines : (s.playedOn r rs taker d).restoreLines r = w) : s.popRecord r rs taker .goOn = { w with
      sq := { s.sq.setDeck d { s.deck d with state := .playing } with state := .running }
      du := s.delayPopped r, ev := s.ev.raise .resumed } := by
  have sq : w.sq = s.sq.setDeck d { s.deck d with state := .playing } := by
    rw [← lines, State.restoreLines_sq]; rfl
  have ev : w.ev = s.ev := by
    rw [← lines, State.restoreLines_ev]; rfl
  have within := (State.Within.refl (T := fun _ => True) (s.playedOn r rs taker d)).restoreLines r fun _ => trivial
  rw [lines] at within
  have delay : w.restoreDelay r = w.setDu (s.delayPopped r) := by
    rw [State.restoreDelay_of_awake fun cause => by rw [within.air]; exact awake cause, State.delayPopped, State.delayPopped, within.du]
    rfl
  have deck : w.sq.deck d = { s.deck d with state := .playing } := by rw [sq, Sequencer.deck_setDeck_self]
  have free : w.sq.deck d.other = Deck.initial := by rw [sq, Sequencer.deck_setDeck_other]; exact other
  have listed : w.sq.list = [h] := by rw [sq, Sequencer.setDeck_list]; exact list
  have ahead : w.sq.headAtSegue = false := by
    rw [Sequencer.headAtSegue_eq (Sequencer.playing_of_other_free (by rw [deck]) free) listed, deck, ← early]
  rw [State.popRecord_eq, State.popped_goOn rs taker cause running list paused item other saved, lines, delay,
    State.restoreSequencer_of_alone (s := w.setDu (s.delayPopped r)) (d := d) r listed kind
      (by show (w.sq.deck d).item = _; rw [deck]; exact item) free (.inl (by show (w.sq.deck d).state = _; rw [deck])), running]
  show State.raise (State.setSq _ (w.sq.enter .running)) _ = _
  rw [Sequencer.enter_running_of_early ahead, sq, ← ev]
  rfl

end


/-! ### RESUME -/

/-- RESUME's checks in their order (R58). -/
theorem resume_checks {s : State} {l : LaneId} {rest more : List Byte} {c : Byte} (asks : s.asks l rest (c :: more)) (lane : l ≠ .alr) :
    (2 < c.toNat → turnedAway (.resume l rest) s l (0x29#8 :: rest) .unknown) ∧
    (c.toNat ≤ 2 → s.ps.records = [] → turnedAway (.resume l rest) s l (0x29#8 :: rest) .nothing) ∧
    (c.toNat ≤ 2 → ∀ (r : Context) (rs : List Context), s.ps.records = r :: rs →
      (l = .con ∧ r.cause = .alert ∨ l = .aut ∧ (r.cause = .breakIn ∨ r.cause = .alert)) →
      turnedAway (.resume l rest) s l (0x29#8 :: rest) .refused) := by
  have own : ∀ {code : ReplyCode}, ownResume l (c :: more) (s.hearing l (0x29#8 :: rest)) = (s.hearing l (0x29#8 :: rest)).reply code →
      turnedAway (.resume l rest) s l (0x29#8 :: rest) code :=
    turnedAway_of_reply asks rfl (autOrCon_of_ne_alr lane) (Nat.le_add_left ..)
  refine ⟨fun large => own ?_,
    fun small empty => own (ownResume_of_empty (s := s.hearing l (0x29#8 :: rest)) (resumeOf_of_le small) empty),
    fun small r rs records refused => own
      ((ownResume_of_record (s := s.hearing l (0x29#8 :: rest)) (resumeOf_of_le small) records).trans (if_neg fun may => ?_))⟩
  · unfold ownResume
    dsimp only
    rw [resumeOf_of_lt large]
  · rcases (mayResume_iff lane _).mp may with ⟨con, cause⟩ | ⟨aut, cause⟩
    · rcases refused with ⟨-, alert⟩ | ⟨aut, -⟩
      · exact cause alert
      · exact nomatch con.symm.trans aut
    · rcases refused with ⟨con, -⟩ | ⟨-, other⟩
      · exact nomatch aut.symm.trans con
      · rcases cause with cause | cause <;> rcases other with other | other <;> exact nomatch cause.symm.trans other

theorem mayResume_of_fallback {l : LaneId} {c : Cause} (lane : l ≠ .alr) (fallback : c = .failover ∨ c = .remoteFallback) :
    l = .con ∧ c ≠ .alert ∨ l = .aut ∧ (c = .failover ∨ c = .remoteFallback) := by
  cases l with
  | con => exact .inl ⟨rfl, by rcases fallback with rfl | rfl <;> nofun⟩
  | aut => exact .inr ⟨rfl, fallback⟩
  | alr => exact absurd rfl lane

theorem Context.deck_of {r : Context} {d : DeckId} {x : Option DeckSnapshot} (a : r.deckA = if d = .a then x else none)
    (b : r.deckB = if d = .b then x else none) : r.deck d = x := by
  cases d with
  | a => exact a
  | b => exact b

/-- Settles O18: the checks; the pop of any record by what its steps leave alone; and the pop of a RUNNING deck, FBK and a line. -/
theorem resumePopsTheTopRecord : Obligations.ResumePopsTheTopRecord := by
  refine ⟨fun s l rest more k asks lane => resume_checks asks lane, ?_, ?_⟩
  · rintro s l rest more k r rs e len asks small records quiet may rfl rfl
    have lane : l ≠ .alr := by rcases may with ⟨rfl, -⟩ | ⟨rfl, -⟩ <;> nofun
    have cause := ne_alert_of_may may
    obtain ⟨kind, code⟩ : ∃ kind, resumeOf k = some kind := ⟨_, resumeOf_of_le small⟩
    obtain ⟨t, pop⟩ : ∃ t, (s.hearing l (0x29#8 :: rest)).popRecord r rs (resumeBy l) kind = t := ⟨_, rfl⟩
    have done := resume_completes asks lane code records may quiet pop
    have within := State.popRecord_within (s := s.hearing l (0x29#8 :: rest)) rs (resumeBy l) kind cause
    have mic := State.popRecord_mic (s := s.hearing l (0x29#8 :: rest)) rs (resumeBy l) kind cause
    have shows := State.popRecord_shows (s := s.hearing l (0x29#8 :: rest)) (r := r) rs (resumeBy l) kind
    rw [pop] at within mic shows
    refine ⟨_, done, (congrArg Stack.records within.ps :), (congrArg Stack.overflow within.ps :),
      ⟨_, (congrArg Stack.lastResume within.ps :), rfl, ?_, rfl, rfl, rfl, fun zero => ?_⟩, shows, rfl, within.du, within.al, within.air,
      within.tl, within.pf, within.ap, fun breakIn => within.lc.trans (if_pos breakIn), fun con aut => ?_, fun free live => ?_,
      fun free off => ?_⟩
    · cases l with
      | con => exact ⟨fun _ => rfl, fun _ => rfl⟩
      | aut => exact ⟨nofun, nofun⟩
      | alr => exact absurd rfl lane
    · have goOn : kind = .goOn := by
        rw [resumeOf_of_le small, zero] at code
        exact (Option.some.inj code).symm
      rw [goOn]; rfl
    · exact mic.trans (Entry.restoredFrom_of_taken con aut _)
    · exact mic.trans (Entry.restoredFrom_of_live free _ live)
    · exact mic.trans (Entry.restoredFrom_of_off free _ off)
  · rintro s l rest more k r rs d h n fade pos x ros asks lane zero records fallback quiet rfl running - list tail kind paused item other
      early saved savedA savedB lines silent room held seize timer rfl
    have small : k.toNat ≤ 2 := by omega
    have goOn : resumeOf k = some .goOn := by rw [resumeOf_of_le small, zero]; rfl
    have may := mayResume_of_fallback lane fallback
    have cause : r.cause ≠ .breakIn := by rcases fallback with st | st <;> rw [st] <;> nofun
    have peace : r.cause ≠ .alert := by rcases fallback with st | st <;> rw [st] <;> nofun
    have deck := (Context.deck_of savedA savedB).trans saved
    let u := s.hearing l (0x29#8 :: rest)
    have pop : ∀ {w : State}, (u.playedOn r rs (resumeBy l) d).restoreLines r = w → u.popRecord r rs (resumeBy l) .goOn = _ :=
      State.popRecord_goOn (s := u) rs (resumeBy l) cause running list kind paused item other deck early fun alert => absurd alert peace
    have delay : u.delayPopped r = s.du := if_neg peace
    cases gone : r.gone.get n with
    | true =>
      have done := resume_completes asks lane goOn records may quiet (pop (State.restoreLines_of_gone cause lines gone))
      rw [delay] at done
      refine ⟨_, done, rfl, rfl, ⟨_, rfl, rfl, rfl, rfl⟩, ?_, nofun, fun _ => ⟨rfl, rfl⟩, rfl, rfl, rfl, rfl, rfl, rfl, rfl, rfl⟩
      cases d <;> rfl
    | false =>
      have done := resume_completes asks lane goOn records may quiet
        (pop (State.restoreLines_of_held cause lines gone silent room held seize timer))
      rw [delay] at done
      refine ⟨_, done, rfl, rfl, ⟨_, rfl, rfl, rfl, rfl⟩, ?_, fun _ => ⟨rfl, ?_⟩, nofun, rfl, rfl, rfl, rfl, rfl, rfl, rfl, rfl⟩
      · cases d <;> rfl
      · cases d <;> cases n <;> rfl

/-! ### NEXT and REPRISE (R61, R62) -/

theorem State.pausedHead_of_alone {s : State} {d : DeckId} {h : Item} {tl : List Item} (list : s.sq.list = h :: tl)
    (paused : (s.deck d).state = .paused) (item : (s.deck d).item = some h.id) (other : s.deck d.other = Deck.initial) :
    s.pausedHead = some d := by
  have bound : s.sq.boundDeck h.id = some d :=
    Sequencer.boundDeck_of_item item (by rw [show s.sq.deck d.other = _ from other]; nofun)
  unfold State.pausedHead
  rw [list]
  dsimp only
  rw [bound]
  exact if_pos paused

/-- An abandoned head leaves with its record, its deck FREE and its entry OFF and unbound (R46, R61). -/
theorem State.abandon_eq {s : State} {h : Item} {tl : List Item} (list : s.sq.list = h :: tl) (d : DeckId) : s.abandon d =
    { s.setEntry d.source { s.entry d.source with state := .off, current := 0, remaining := 0, bound := none } with
      sq := { s.sq.setDeck d Deck.initial with
        list := tl, segueTaken := false, liveStart := none
        done := (if s.sq.done.length < 8 then s.sq.done else s.sq.done.drop 1) ++
          [{ item := h.id, start := (s.deck d).startedAt, aired := (s.deck d).position, outcome := .abandoned }]
        doneOverflow := if s.sq.done.length < 8 then s.sq.doneOverflow else countUp s.sq.doneOverflow }
      ev := s.ev.raise .itemDone } := by
  have left : s.sq.list.drop 1 = tl := congrArg (List.drop 1) list
  unfold State.abandon
  rw [list]
  dsimp only
  rw [State.addDone_eq, ← left]
  cases d <;> rfl

/-- The sequencer with its head on a deck taken back to a position (R46, R62). -/
def Sequencer.repositioned (q : Sequencer) (d : DeckId) (h : Item) (position : Nat) : Sequencer :=
  { q.setDeck d { q.deck d with position := position, fadeTaken := (q.deck d).fadeTaken && h.fadeReached position } with
    segueTaken := q.segueTaken && h.segueReached position }

theorem State.reposition_eq {s : State} {h : Item} {tl : List Item} (list : s.sq.list = h :: tl) (d : DeckId) (position : Nat) :
    s.reposition d position = s.setSq (s.sq.repositioned d h position) := by
  unfold State.reposition
  rw [list]
  cases d <;> rfl

/-- The target a reprised head's entry is restored toward (R62; log 21). -/
theorem State.restoreTarget_of_reprised {s : State} {d : DeckId} {h : Item} {tl : List Item} (list : s.sq.list = h :: tl)
    (e : EntrySnapshot) :
    s.restoreTarget d.source e (some d) =
      if e.target = 0 ∧ e.faded = true ∧ h.fadeReached (s.deck d).position = false then h.gain else e.target := by
  unfold State.restoreTarget
  rw [list]
  exact if_congr (by simp) rfl rfl

section
variable {s : State} {r : Context} {d : DeckId} {h : Item} (rs : List Context) (taker : ResumeBy)

/-- A pop reaches the entry of a deck up to the restoring of the decks' entries, and in its review. -/
theorem State.popped_deck_entry (k : ResumeKind) : (s.popped r rs taker k).entry d.source =
    ((s.reconciled r rs taker k).restoreDeckEntries r (s.reprised r k)).entry d.source :=
  (s.popped_after_decks r rs taker k (T := fun src => ∀ e : DeckId, src ≠ e.source) (fun e => by cases e <;> nofun)
    (fun e => by cases e <;> nofun) (fun n e => by cases n <;> cases e <;> nofun)).entry _ fun out => out d rfl

theorem State.popped_sq (k : ResumeKind) : (s.popped r rs taker k).sq = (s.reconciled r rs taker k).sq := by
  unfold State.popped
  rw [State.restoreLines_sq, State.restoreRoster_sq]

variable (list : s.sq.list = [h]) (paused : (s.deck d).state = .paused) (item : (s.deck d).item = some h.id)
  (other : s.deck d.other = Deck.initial)
include list paused item other

/-- NEXT to a saved RUNNING: the decks stand empty, and so does the list (R61). -/
theorem State.reconciled_next (running : r.seqState = .running) :
    s.reconciled r rs taker .next = (s.resumed r rs taker .next).abandon d := by
  have head : s.pausedHead = some d := State.pausedHead_of_alone list paused item other
  have applied : s.applied r .next = .next := if_pos ⟨running, by rw [head]; rfl⟩
  have abandoned : (s.resumed r rs taker .next).applyKind .next = (s.resumed r rs taker .next).abandon d := by
    unfold State.applyKind
    rw [show (s.resumed r rs taker .next).pausedHead = _ from head]
  unfold State.reconciled
  rw [applied, abandoned]
  generalize hu : State.abandon _ d = u
  have decks : u.sq.deck d = Deck.initial ∧ u.sq.deck d.other = Deck.initial := by
    subst hu
    rw [State.abandon_eq (s := s.resumed r rs taker .next) list]
    cases d <;> exact ⟨rfl, other⟩
  dsimp only
  rw [Sequencer.reconcileDecks_of_alone decks.2, decks.1, Sequencer.reconcile_initial, ← decks.1]
  cases d <;> rfl

/-- REPRISE: the deck stands at the position it is taken back to, PLAYING or PAUSED as the record has it (R62, R63). -/
theorem State.reconciled_reprise : ∃ st, (st = .playing ∨ st = .paused) ∧ s.reconciled r rs taker .reprise =
    (s.resumed r rs taker .reprise).setSq ((s.sq.repositioned d h (s.reprisePosition d)).setDeck d
      { (s.sq.repositioned d h (s.reprisePosition d)).deck d with state := st }) := by
  have head : s.pausedHead = some d := State.pausedHead_of_alone list paused item other
  have applied : s.applied r .reprise = .reprise := if_pos (by rw [head]; rfl)
  have back : (s.resumed r rs taker .reprise).applyKind .reprise =
      (s.resumed r rs taker .reprise).reposition d (s.reprisePosition d) := by
    unfold State.applyKind
    rw [show (s.resumed r rs taker .reprise).pausedHead = _ from head]
    rfl
  obtain ⟨st, stands, deck⟩ := Sequencer.reconcile_of_head (q := s.sq.repositioned d h (s.reprisePosition d)) (h := h) (tl := [])
    (k := (s.sq.repositioned d h (s.reprisePosition d)).deck d) (by cases d <;> exact list) (by cases d <;> exact paused)
    (by cases d <;> exact item) (r.deck d) r.seqState
  refine ⟨st, stands, ?_⟩
  unfold State.reconciled
  rw [applied, back, State.reposition_eq (s := s.resumed r rs taker .reprise) list, ← deck,
    ← Sequencer.reconcileDecks_of_alone (by cases d <;> exact other)]
  rfl

end

section
variable {s : State} {r : Context} {d : DeckId} {h : Item} (rs : List Context) (taker : ResumeBy) (cause : r.cause ≠ .alert)
  (list : s.sq.list = [h]) (paused : (s.deck d).state = .paused) (item : (s.deck d).item = some h.id)
  (other : s.deck d.other = Deck.initial)
include cause list paused item other

/-- What a pop with NEXT leaves of the sequencer and of the entry of the head's deck (R61). -/
theorem State.popRecord_next (running : r.seqState = .running) {t : State} (pop : s.popRecord r rs taker .next = t) :
    t.sq.list = [] ∧ t.sq.state = .running ∧ t.deck d = Deck.initial ∧
      t.sq.done = (if s.sq.done.length < 8 then s.sq.done else s.sq.done.drop 1) ++
        [{ item := h.id, start := (s.deck d).startedAt, aired := (s.deck d).position, outcome := .abandoned }] ∧
      t.entry d.source = { s.entry d.source with state := .off, current := 0, remaining := 0, bound := none } := by
  have left := State.reconciled_next rs taker list paused item other running
  rw [State.abandon_eq (s := s.resumed r rs taker .next) list] at left
  have sq := State.popped_sq (s := s) (r := r) rs taker .next
  have entry := State.popped_deck_entry (s := s) (r := r) (d := d) rs taker .next
  rw [left] at sq entry
  rw [State.restoreDeckEntries_of_alone (d := d) r _ (by cases d <;> exact other),
    State.restoreDeckEntry_of_free r _ (by cases d <;> rfl)] at entry
  have review : (s.popped r rs taker .next).restoreSequencer r =
      (s.popped r rs taker .next).setSq ((s.popped r rs taker .next).sq.enter r.seqState) :=
    State.review_of_empty (by rw [sq]; rfl) false
  rw [← pop, State.popRecord_eq, State.restoreDelay_of_ne_alert cause, review, sq, running]
  refine ⟨rfl, rfl, ?_, rfl, entry.trans ?_⟩
  · cases d <;> rfl
  · cases d <;> rfl

/-- What a pop with REPRISE leaves of the sequencer and of the entry of the head's deck (R62). -/
theorem State.popRecord_reprise (kind : h.kind ≠ .live) {t : State} (pop : s.popRecord r rs taker .reprise = t) :
    t.sq.list = [h] ∧ t.sq.state = r.seqState ∧ (t.deck d).position = s.reprisePosition d ∧ (t.deck d).item = some h.id ∧
      ((s.entry d.source).controller = .con → (r.roster.get d.source).controller ≠ .con → t.entry d.source = s.entry d.source) ∧
      ∀ x, r.deck d = some x → x.item = h.id → t.entry d.source = (s.entry d.source).restoredFrom
        ((r.roster.get d.source).toward (if (r.roster.get d.source).target = 0 ∧ (r.roster.get d.source).faded = true ∧
          h.fadeReached (s.reprisePosition d) = false then h.gain else (r.roster.get d.source).target)) s.preemptFade := by
  have reprised : s.reprised r .reprise = some d := by
    have head : s.pausedHead = some d := State.pausedHead_of_alone list paused item other
    have applied : s.applied r .reprise = .reprise := if_pos (by rw [head]; rfl)
    unfold State.reprised
    rw [applied, if_pos rfl, head]
  obtain ⟨st, stands, left⟩ := State.reconciled_reprise (r := r) rs taker list paused item other
  have sq := State.popped_sq (s := s) (r := r) rs taker .reprise
  have entry := State.popped_deck_entry (s := s) (r := r) (d := d) rs taker .reprise
  rw [left] at sq entry
  rw [reprised, State.restoreDeckEntries_of_alone (d := d) r _ (by cases d <;> exact other)] at entry
  have review := State.restoreSequencer_of_alone (s := s.popped r rs taker .reprise) (d := d) (h := h) r
    (by rw [sq]; cases d <;> exact list) kind (by unfold State.deck; rw [sq]; cases d <;> exact item)
    (by unfold State.deck; rw [sq]; cases d <;> exact other) (by unfold State.deck; rw [sq]; cases d <;> exact stands)
  rw [← pop, State.popRecord_eq, State.restoreDelay_of_ne_alert cause, review, sq]
  refine ⟨?_, rfl, ?_, ?_, fun con aut => entry.trans ?_, fun x there same => entry.trans ?_⟩
  · cases d <;> exact list
  · cases d <;> rfl
  · cases d <;> exact item
  · unfold State.restoreDeckEntry
    split
    · rw [State.restoreEntry_eq]
      refine (PerSource_get_set_self ..).trans ?_
      exact Entry.restoredFrom_of_taken (by exact con) (by exact aut) _
    · rfl
  · rw [State.restoreDeckEntry_of_fit r _ there (by rw [same]; cases d <;> exact item), State.restoreEntry_eq]
    refine (PerSource_get_set_self ..).trans ?_
    rw [State.restoreTarget_of_reprised (h := h) (tl := []) (by cases d <;> exact list)]
    cases d <;> rfl

end

/-- Settles O19: what each kind leaves of the sequencer and the deck's entry. -/
theorem nextAbandonsAndRepriseRepositions : Obligations.NextAbandonsAndRepriseRepositions := by
  intro s rest more k r rs d h asks records cause quiet list tail kind other paused item
  let u := s.hearing .con (0x29#8 :: rest)
  have may : LaneId.con = .con ∧ r.cause ≠ .alert ∨ LaneId.con = .aut ∧ (r.cause = .failover ∨ r.cause = .remoteFallback) :=
    .inl ⟨rfl, cause⟩
  have head : u.pausedHead = some d := State.pausedHead_of_alone (s := u) list paused item other
  refine ⟨fun one running => ?_, ?_⟩
  · have code : resumeOf k = some .next := by rw [resumeOf_of_le (by omega), one]; rfl
    obtain ⟨t, pop⟩ : ∃ t, u.popRecord r rs (resumeBy .con) .next = t := ⟨_, rfl⟩
    have within := State.popRecord_within (s := u) rs (resumeBy .con) .next cause
    obtain ⟨left, state, deck, done, entry⟩ := State.popRecord_next (s := u) rs (resumeBy .con) cause list paused item other running pop
    have applied : u.applied r .next = .next := if_pos ⟨running, by rw [head]; rfl⟩
    rw [pop] at within
    refine ⟨_, resume_completes asks nofun code records may quiet pop, left, state, ?_, ?_, ?_, ?_, done, _,
      (congrArg Stack.lastResume within.ps :), rfl, applied, ?_, ?_⟩
    · cases d <;> exact deck
    · exact congrArg Entry.state entry
    · exact congrArg Entry.current entry
    · exact congrArg Entry.bound entry
    · show (if u.applied r .next = .goOn then none else s.sq.list.head?.map (·.id)) = _
      rw [applied, list]; rfl
    · exact if_neg (by rw [applied]; nofun)
  · rintro two pos e rfl rfl
    have code : resumeOf k = some .reprise := by rw [resumeOf_of_le (by omega), two]; rfl
    obtain ⟨t, pop⟩ : ∃ t, u.popRecord r rs (resumeBy .con) .reprise = t := ⟨_, rfl⟩
    have within := State.popRecord_within (s := u) rs (resumeBy .con) .reprise cause
    obtain ⟨left, state, position, bound, taken, restored⟩ :=
      State.popRecord_reprise (s := u) rs (resumeBy .con) cause list paused item other kind pop
    have applied : u.applied r .reprise = .reprise := if_pos (by rw [head]; rfl)
    rw [pop] at within
    refine ⟨_, resume_completes asks nofun code records may quiet pop, left, state, ?_, ?_, ⟨_,
      (congrArg Stack.lastResume within.ps :), rfl, applied, ?_, ?_⟩, taken, ?_⟩
    · cases d <;> exact position
    · cases d <;> exact bound
    · show (if u.applied r .reprise = .goOn then none else s.sq.list.head?.map (·.id)) = _
      rw [applied, list]; rfl
    · show (if u.applied r .reprise = .reprise then u.pausedHead.map u.reprisePosition else none) = _
      rw [if_pos applied, head]; rfl
    · rintro x aim len there same free live rfl rfl
      exact (restored x there same).trans
        (Entry.restoredFrom_of_live (by exact free) _ (by exact live))

end Sys2Proof.Machine
end

section
/-! SUPPORT. The end of an alert on the air (R124) and of a wake (R140), with the statement about ALERT_END (O38). -/

namespace Sys2Proof.Machine

set_option Elab.async false

/-! ### ALERT_END, its steps -/

/-- The state in which an ended alert's record is popped: it is logged, the flag and the unit disarmed, and the feeds are back to what the
states give (R124). -/
def State.closed (s : State) (x : OnAirAlert) : State :=
  { s with
    lc := s.lc.refeed false
    al := { s.al.writeOnAir x x.outcome s.ev.clock with onAir := none, armed := false } }

section
variable {s : State} {x : OnAirAlert}

theorem State.alertEnd_of_not (onAir : s.al.onAir = some x) (early : x.phase ≠ .closing ∨ x.count < 48000) : s.alertEnd = s := by
  unfold State.alertEnd
  rw [onAir]
  refine if_neg fun ⟨closing, count⟩ => ?_
  rcases early with other | few
  · exact other closing
  · exact Nat.not_le_of_lt few count

theorem State.endAlert_eq (s : State) (x : OnAirAlert) : s.endAlert x =
    (((s.closed x).pop .alertUnit s.pf.working.afterAlert).raise .alertDone).checkAlerts.takeBreak := rfl

/-- A disarmed unit takes no break opportunity (R117, R118). -/
theorem State.takeBreak_of_disarmed (disarmed : s.al.armed = false) : s.takeBreak = s.setSq { s.sq with breakSignal := false } := by
  have gives : ∀ u : State, u.al.armed = false → u.breakOpportunity = u := fun u disarmed => by
    unfold State.breakOpportunity
    split
    · rfl
    · exact if_neg (by rw [State.not_mayTake (.inl disarmed), Bool.and_false]; nofun)
  unfold State.takeBreak
  split
  · exact gives _ disarmed
  · rename_i unsignalled
    have same : false = s.sq.breakSignal := (Bool.eq_false_iff.mpr unsignalled).symm
    rw [same]
    rfl

/-- ALERT_END where it is due completes in the pop of the top record, with ALERT_DONE raised and no break opportunity taken. -/
theorem alertEnd_completes {r : Context} {rs : List Context} (onAir : s.al.onAir = some x) (closing : x.phase = .closing)
    (count : 48000 ≤ x.count) (records : s.ps.records = r :: rs) {k : ResumeKind}
    (kind : s.pf.working.afterAlert = k) {t : State} (pop : (s.closed x).popRecord r rs .alertUnit k = t)
    (disarmed : t.al.armed = false) {b : Bool} (hb : b = false) :
    completes .alertEnd s { t with sq := { t.sq with breakSignal := b }, ev := t.ev.raise .alertDone } := by
  have due : s.alertEnd = s.endAlert x := by
    unfold State.alertEnd
    rw [onAir]
    exact if_pos ⟨closing, count⟩
  have popped : (s.closed x).pop .alertUnit s.pf.working.afterAlert = t := by
    unfold State.pop
    rw [show (s.closed x).ps.records = _ from records, kind]
    exact pop
  have done : s.alertEnd = (t.raise .alertDone).setSq { t.sq with breakSignal := false } := by
    rw [due, State.endAlert_eq, popped, State.checkAlerts_of_not (s := t.raise .alertDone) (.inl disarmed),
      State.takeBreak_of_disarmed (by exact disarmed)]
    rfl
  rw [hb]
  exact congrArg Host.Outcome.next done

end

/-! ### The pop of an ALERT's record -/

theorem State.cue_sq_state (s : State) : s.cue.sq.state = s.sq.state := by
  have once : ∀ u : State, u.cueOnce.sq.state = u.sq.state := fun u => by
    unfold State.cueOnce
    split
    · exact Sequencer.setDeck_state ..
    · rfl
  exact (once _).trans (once s)

/-- A sequencer that a pop brings back to a state other than RUNNING stays in it (R60). -/
theorem State.restoreSequencer_state {s : State} {r : Context} (rests : r.seqState ≠ .running) :
    (s.restoreSequencer r).sq.state = r.seqState := by
  unfold State.restoreSequencer
  rw [State.review_of_not_running (by exact rests), State.cue_sq_state]
  rfl

/-- No line saved, none returned. -/
theorem State.linesPopped_of_none {s : State} {r : Context} (none : r.onAirLines = []) : s.linesPopped r = s.lc := by
  have back : s.lc.returned [] r.gone = [] := by
    unfold LineController.returned
    rw [List.filter_nil, List.take_nil]
  unfold State.linesPopped
  rw [none, back]
  split <;> rfl

section
variable {s : State} {r : Context} (rs : List Context) (taker : ResumeBy) (k : ResumeKind)

/-- After the delay a pop reaches the sequencer and its decks' entries (R60). -/
theorem State.popRecord_after_delay :
    ((s.popped r rs taker k).restoreDelay r).Within (fun _ => True) (s.popRecord r rs taker k) := by
  rw [State.popRecord_eq]
  exact ((State.Within.refl _).restoreSequencer (fun _ => trivial) r).raise .resumed

theorem State.popRecord_state (rests : r.seqState ≠ .running) : (s.popRecord r rs taker k).sq.state = r.seqState := by
  rw [State.popRecord_eq, State.raise_sq]
  exact State.restoreSequencer_state rests

/-- What the pop of a record that saved no line leaves alone, where it ends no wake (R67). -/
theorem State.popRecord_within_of_awake (none : r.onAirLines = []) (awake : r.cause = .alert → s.air.state ≠ .alertWake) :
    ({ s.resumed r rs taker k with du := s.delayPopped r } : State).Within (fun _ => True) (s.popRecord r rs taker k) := by
  have popped := s.popped_within r rs taker k
  rw [State.linesPopped_of_none none] at popped
  have air : (s.popped r rs taker k).air = s.air := popped.air
  have delay : (s.popped r rs taker k).delayPopped r = s.delayPopped r := by
    unfold State.delayPopped
    rw [popped.du]
    rfl
  have after := State.popRecord_after_delay (s := s) (r := r) rs taker k
  rw [State.restoreDelay_of_awake fun alert => by rw [air]; exact awake alert, delay] at after
  exact (popped.withDelay (s.delayPopped r)).trans after

end

/-! ### The end of a wake (R140) -/

/-- The sweep of a table, in table order (R119, R128). -/
theorem AlertUnit.sweep_eq {a : AlertUnit} (fits : a.log.length ≤ 32) {wake : Bool} {stops : PendingAlert → Bool}
    (off : ∀ p, stops p = offAirStops wake p.cls) : a.sweep wake = { a.logged ((a.table.filter stops).map (·.record .notAired)) with
      table := a.table.filter fun p => !stops p } := by
  have same : stops = fun p => offAirStops wake p.cls := funext off
  unfold AlertUnit.sweep
  dsimp only
  rw [AlertUnit.foldl_writePending (by exact fits), same]
  rfl

theorem offAirStops_eq (wake : Bool) (c : AlertClass) : offAirStops wake c = !(wake && (c = .warning || c = .emergency)) := by
  cases c <;> rfl

section
variable {s : State} (wakes : s.air.state = .alertWake) (well : s.tl.mainFailed = false)
include wakes well

/-- A pending sign-on takes over the carrier of the wake (R140). -/
theorem State.endWake_of_pending (pending : s.air.signOnPending = true) : s.endWake =
    { s with air := { s.air with state := .onAir, signOnPending := false }, ev := s.ev.raise .airState } := by
  unfold State.endWake
  rw [if_pos wakes, if_pos pending]
  refine State.lookChangeover_of_not fun holds => ?_
  obtain ⟨-, -, -, down⟩ := (State.changeoverHolds_iff _).mp holds
  exact Bool.eq_false_iff.mp well (Link.mainFailed_iff.mpr down)

/-- Without one the station is off the air again, and its table is swept (R119, R140). -/
theorem State.endWake_of_none (none : s.air.signOnPending = false) : s.endWake =
    { s with air := { s.air with state := .offAir }, ev := s.ev.raise .airState
             tl := s.tl.commandRole s.tl.active.role .carrierOff
             al := s.al.sweep s.pf.working.wake.alertWake } := by
  have up : ¬ s.tl.mainDown := fun down => Bool.eq_false_iff.mp well (Link.mainFailed_iff.mpr down)
  unfold State.endWake
  rw [if_pos wakes, if_neg (by rw [none]; nofun), State.announceAir_eq (s := s.setAir .offAir) up rfl]
  rfl

end

/-! ### The statement -/

theorem LineController.refeed_onAirCount (c : LineController) (alert : Bool) : (c.refeed alert).onAirCount = c.onAirCount := by
  unfold LineController.onAirCount LineController.refeed
  simp only [PerLine_get_mapWith]

/-- Once the alert is closed, a line's feed is what its state gives (R84, R124). -/
theorem State.closed_line (s : State) (x : OnAirAlert) (n : LineId) :
    (s.closed x).line n = { s.line n with feed := (s.line n).state.feed } := PerLine_get_mapWith ..

theorem State.closed_delay (s : State) (x : OnAirAlert) {r : Context} (cause : r.cause = .alert) :
    (s.closed x).delayPopped r = s.du.unfreeze := if_pos cause

/-- The record of a closed alert as it is logged (R124, R128). -/
theorem State.closed_al {s : State} (fits : s.al.log.length ≤ 32) (x : OnAirAlert) : (s.closed x).al =
    { s.al.logged [x.record s.ev.clock x.outcome] with onAir := none, armed := false } := by
  have written : s.al.writeOnAir x x.outcome s.ev.clock = s.al.logged [x.record s.ev.clock x.outcome] :=
    AlertUnit.write_eq fits ..
  rw [← written]
  rfl

section
variable {s : State} {x : OnAirAlert} {r : Context} {rs : List Context} (onAir : s.al.onAir = some x) (closing : x.phase = .closing)
  (count : 48000 ≤ x.count) (records : s.ps.records = r :: rs) (cause : r.cause = .alert)
include onAir closing count records cause

/-- The end of a wake, over a record that saved a STOPPED sequencer, from what it makes of the air state, the link and the alert unit
(R124, R140). -/
theorem alertEnd_of_wake (stopped : r.seqState = .stopped) {al : AlertUnit} {air : AirBlock} {tl : Link} (disarmed : al.armed = false)
    (wake : ∀ v : State, v.air = s.air → v.tl = s.tl → v.pf = s.pf → v.al = (s.closed x).al →
      v.endWake = { v with air := air, ev := v.ev.raise .airState, tl := tl, al := al }) :
    ∃ t, completes .alertEnd s t ∧ t.ps.records = rs ∧ t.sq.state = .stopped ∧ t.pf = s.pf ∧ t.ev.shows .airState ∧
      t.air = air ∧ t.tl = tl ∧ t.al = al := by
  let k := s.pf.working.afterAlert
  have popped := (s.closed x).popped_within r rs .alertUnit k
  have delay : ((s.closed x).popped r rs .alertUnit k).restoreDelay r = _ :=
    (if_pos cause).trans (wake (((s.closed x).popped r rs .alertUnit k).setDu _) popped.air popped.tl popped.pf popped.al)
  have after := State.popRecord_after_delay (s := s.closed x) (r := r) rs .alertUnit k
  have state := State.popRecord_state (s := s.closed x) (r := r) rs .alertUnit k (by rw [stopped]; nofun)
  rw [delay] at after
  obtain ⟨t, pop⟩ : ∃ t, (s.closed x).popRecord r rs .alertUnit k = t := ⟨_, rfl⟩
  rw [pop] at after state
  refine ⟨_, alertEnd_completes onAir closing count records rfl pop ((congrArg AlertUnit.armed after.al).trans disarmed) rfl, ?_,
    state.trans stopped, after.pf.trans popped.pf, (after.shows .airState (EventUnit.shows_raise _ _)).raise .alertDone,
    after.air, after.tl, after.al⟩
  exact (congrArg Stack.records after.ps).trans (congrArg Stack.records popped.ps)

end

/-- Settles O38: nothing before the end; the pop of a record that saved a STOPPED sequencer; the pop that gives a RUNNING one its deck and
its line back; and the end of a wake. -/
theorem alertEndGivesTheAirBack : Obligations.AlertEndGivesTheAirBack := by
  intro s x onAir
  refine ⟨fun early => congrArg Host.Outcome.next (State.alertEnd_of_not onAir early), ?_, ?_, ?_⟩
  · intro r rs closing count records cause stopped none table air
    let k := s.pf.working.afterAlert
    have awake : r.cause = .alert → (s.closed x).air.state ≠ .alertWake := fun _ wakes => nomatch air.symm.trans wakes
    have within := State.popRecord_within_of_awake (s := s.closed x) rs .alertUnit k none awake
    have state := State.popRecord_state (s := s.closed x) (r := r) rs .alertUnit k (by rw [stopped]; nofun)
    have shows := State.popRecord_shows (s := s.closed x) (r := r) rs .alertUnit k
    obtain ⟨t, pop⟩ : ∃ t, (s.closed x).popRecord r rs .alertUnit k = t := ⟨_, rfl⟩
    rw [pop] at within state shows
    have al : t.al = (s.closed x).al := within.al
    have du : t.du = s.du.unfreeze := within.du.trans (s.closed_delay x cause)
    have ps := within.ps
    have line : ∀ n, t.line n = { s.line n with feed := (s.line n).state.feed } := fun n =>
      (congrArg (·.lines.get n) within.lc).trans (s.closed_line x n)
    refine ⟨_, alertEnd_completes onAir closing count records rfl pop (by rw [al]; rfl) rfl, ?_⟩
    dsimp only
    rw [al, du, ps]
    refine ⟨rfl, rfl, table, rfl, rfl, rfl, ⟨_, rfl, cause, rfl, rfl⟩, state.trans stopped, rfl, fun n => ?_, rfl, rfl, rfl, rfl, rfl,
      fun l => ⟨shows.raise .alertDone l, EventUnit.shows_raise _ _ l⟩, within.cl, within.tl, within.air, within.pf, within.ap⟩
    show (t.line n).state = _ ∧ (t.line n).feed = _
    rw [line n]
    exact ⟨rfl, rfl⟩
  · rintro r rs d h n fade pos z ros closing count records cause ⟨table, unsignalled⟩ air goOn rfl running - list tail kind paused item
      other early saved savedA savedB lines room held seize timer rfl
    have awake : r.cause = .alert → (s.closed x).air.state ≠ .alertWake := fun _ wakes => nomatch air.symm.trans wakes
    have deck := (Context.deck_of savedA savedB).trans saved
    have off : r.cause ≠ .breakIn := by rw [cause]; nofun
    have line := s.closed_line x
    have pop : ∀ {w : State}, ((s.closed x).playedOn r rs .alertUnit d).restoreLines r = w →
        (s.closed x).popRecord r rs .alertUnit .goOn = _ :=
      State.popRecord_goOn (s := s.closed x) rs .alertUnit off running list kind paused item other deck early awake
    have delay := s.closed_delay x cause
    cases gone : r.gone.get n with
    | true =>
      have done := alertEnd_completes onAir closing count records goOn (pop (State.restoreLines_of_gone off lines gone)) rfl unsignalled
      rw [delay] at done
      refine ⟨_, done, rfl, rfl, ⟨_, rfl, cause, rfl, rfl, rfl, rfl, rfl, rfl⟩, ?_, fun m _ => line m, rfl, rfl, nofun,
        fun _ => ⟨(line n).trans ?_, rfl⟩, rfl, rfl, rfl, rfl, rfl, rfl, rfl, rfl, rfl⟩
      · cases d <;> rfl
      · rw [held]; rfl
    | false =>
      have back := State.restoreLines_of_held (s := (s.closed x).playedOn r rs .alertUnit d) off lines gone rfl
        ((LineController.refeed_onAirCount ..).trans room) ((congrArg LineRec.state (line n)).trans held)
        ((congrArg LineRec.seize (line n)).trans seize) ((congrArg LineRec.ringTimer (line n)).trans timer)
      have done := alertEnd_completes onAir closing count records goOn (pop back) rfl unsignalled
      rw [delay] at done
      refine ⟨_, done, rfl, rfl, ⟨_, rfl, cause, rfl, rfl, rfl, rfl, rfl, rfl⟩, ?_, fun m away => ?_, rfl, rfl, fun _ => ⟨?_, ?_⟩,
        nofun, rfl, rfl, rfl, rfl, rfl, rfl, rfl, rfl, rfl⟩
      · cases d <;> rfl
      · exact (PerLine_get_set ..).trans ((if_neg away).trans (line m))
      · refine (PerLine_get_set_self ..).trans ?_
        exact congrArg (fun r : LineRec => { r with state := .onAir, holdStart := none, holdLong := false, feed := .mixMinus }) (line n)
      · cases d <;> cases n <;> rfl
  · rintro r rs al closing count records cause stopped - wakes well ⟨-, -, -, fits, -⟩ rfl
    have closed := State.closed_al fits x
    cases pending : s.air.signOnPending with
    | true =>
      obtain ⟨t, done, ps, state, pf, shows, air, tl, al⟩ := alertEnd_of_wake (al := (s.closed x).al)
        (air := { s.air with state := .onAir, signOnPending := false }) (tl := s.tl) onAir closing count records cause stopped rfl
        fun v air tl pf al => by
          rw [State.endWake_of_pending (by rw [air]; exact wakes) (by rw [tl]; exact well) (by rw [air]; exact pending), air, ← tl, ← al]
      exact ⟨t, done, ps, state, pf, shows, fun _ => ⟨air, tl, al.trans closed⟩, nofun⟩
    | false =>
      have room : (s.closed x).al.log.length ≤ 32 := by
        rw [closed]
        exact AlertUnit.logged_log_le _ _
      have disarmed : ((s.closed x).al.sweep s.pf.working.wake.alertWake).armed = false := by
        rw [AlertUnit.sweep_eq room fun _ => rfl]
        rfl
      obtain ⟨t, done, ps, state, pf, shows, air, tl, al⟩ := alertEnd_of_wake
        (al := (s.closed x).al.sweep s.pf.working.wake.alertWake) (air := { s.air with state := .offAir })
        (tl := s.tl.commandRole s.tl.active.role .carrierOff) onAir closing count records cause stopped disarmed
        fun v air tl pf al => by
          rw [State.endWake_of_none (by rw [air]; exact wakes) (by rw [tl]; exact well) (by rw [air]; exact pending), air, tl, pf, al]
      refine ⟨t, done, ps, state, pf, shows, nofun, fun _ => ⟨air, tl, fun stops off => al.trans ?_⟩⟩
      rw [AlertUnit.sweep_eq room fun p => (off p).trans (offAirStops_eq _ _).symm, closed]
      rfl

end Sys2Proof.Machine
end

section
/-! SUPPORT. A line put on air, with the statement about LINE_AIR (O30), and the events of a line by whether they are due (O32). -/

namespace Sys2Proof.Machine

set_option Elab.async false

/-! ### LINE_AIR -/

section
variable {s : State} {n : LineId}

/-- A line in SCREEN, HOLD or READY may be put on air (R79). -/
theorem LineState.mayAir_iff (st : LineState) : st.mayAir = true ↔ st = .screen ∨ st = .hold ∨ st = .ready := by
  cases st <;> simp [LineState.mayAir]

/-- Only a seized line may be put on air. -/
theorem LineState.seized_of_mayAir {st : LineState} (may : st.mayAir = true) : st.seized = true := by
  rcases (LineState.mayAir_iff st).mp may with rfl | rfl | rfl <;> rfl

/-- A line put on air: ON_AIR, out of the caller queue where it was READY, and its entry LIVE over the take fade (R79, R83). -/
theorem State.linesSound.putOnAir (sound : s.linesSound) (n : LineId) : s.putOnAir n = { s with
    lc := { s.lc with
      queue := s.lc.queue.filter (· ≠ n)
      lines := s.lc.lines.set n ((s.line n).enter .onAir s.alertActive s.ev.clock) }
    pb := { s.pb with roster := s.pb.roster.set n.source ((s.entry n.source).setLive s.takeFade) }
    ev := if (s.line n).state = .ready then s.ev.raise .queueChange else s.ev } := by
  unfold State.putOnAir
  rw [sound.leaveQueue]
  by_cases ready : (s.line n).state = .ready
  · simp only [if_pos ready]; rfl
  · simp only [if_neg ready]; rfl

/-- With no alert on the air LINE_AIR names the head of the queue by NEXT, and any line by its code (R79). -/
theorem State.airLine_of_quiet {c : Byte} (quiet : s.al.onAir = none)
    (named : c = 0#8 ∧ s.lc.queue.head? = some n ∨ lineOf c = some n) : s.airLine c = .ok n := by
  unfold State.airLine State.alertActive
  rw [quiet]
  rcases named with ⟨rfl, head⟩ | code
  · obtain ⟨rest, queue⟩ := List.head?_eq_some_iff.mp head
    simp [queue]
  · have other : c ≠ 0#8 := by
      rintro rfl
      exact nomatch code
    simp [other, code]

/-- LINE_AIR for a line that it names: BAD_STATE, FULL, or taken (R79). -/
theorem ownLineAir_of_named {c : Byte} {more : List Byte} (quiet : s.al.onAir = none)
    (named : c = 0#8 ∧ s.lc.queue.head? = some n ∨ lineOf c = some n) : ownLineAir (c :: more) s =
      if !(s.line n).state.mayAir then s.reply .badState
      else if 2 ≤ s.lc.onAirCount then s.reply .full else (s.putOnAir n).done := by
  unfold ownLineAir
  dsimp only
  rw [State.airLine_of_quiet quiet named]
  rfl

/-- LINE_AIR that names no line is answered with what is wrong with its code or its time (R79). -/
theorem ownLineAir_of_error {c : Byte} {more : List Byte} {code : ReplyCode} (error : s.airLine c = .error code) :
    ownLineAir (c :: more) s = s.reply code := by
  unfold ownLineAir
  dsimp only
  rw [error]

/-- During an alert phase LINE_AIR is refused, whatever line its code names (R79, R88). -/
theorem State.airLine_of_alert {c : Byte} (code : c = 0#8 ∨ lineOf c ≠ none) (alert : s.al.onAir ≠ none) :
    s.airLine c = .error .badState := by
  have active : s.alertActive = true := Option.isSome_iff_ne_none.mpr alert
  unfold State.airLine
  rw [if_pos active]
  split
  · rfl
  · rename_i number
    obtain ⟨m, line⟩ := Option.ne_none_iff_exists'.mp (code.resolve_left number)
    rw [line]

end

/-- Settles O30: what LINE_AIR names, then the state of the line named, then the room on air. -/
theorem lineAirPutsTheCallerOnAir : Obligations.LineAirPutsTheCallerOnAir := by
  refine ⟨fun s rest more c asks sound => ⟨fun number none => ?_, fun code alert => ?_, fun next quiet empty => ?_,
    fun n named quiet => ⟨fun screen hold ready => ?_, fun may full => ?_⟩⟩, fun s rest more c n asks sound named quiet room may => ?_⟩
  · refine turnedAway_of_reply asks rfl rfl (Nat.le_add_left ..) (ownLineAir_of_error ?_)
    unfold State.airLine
    rw [if_neg number, none]
  · exact turnedAway_of_reply asks rfl rfl (Nat.le_add_left ..) (ownLineAir_of_error (State.airLine_of_alert code alert))
  · refine turnedAway_of_reply asks rfl rfl (Nat.le_add_left ..) (ownLineAir_of_error ?_)
    have inactive : (s.hearing .con (0x34#8 :: rest)).alertActive = false := congrArg Option.isSome quiet
    unfold State.airLine
    rw [if_pos next, inactive, show (s.hearing .con (0x34#8 :: rest)).lc.queue = [] from empty]
    rfl
  · have off : (s.line n).state.mayAir = false := Bool.eq_false_iff.mpr fun may => by
      rcases (LineState.mayAir_iff _).mp may with st | st | st
      · exact screen st
      · exact hold st
      · exact ready st
    refine turnedAway_of_reply asks rfl rfl (Nat.le_add_left ..) ((ownLineAir_of_named (s := s.hearing .con (0x34#8 :: rest)) quiet named).trans (if_pos ?_))
    show (!(s.line n).state.mayAir) = true
    rw [off]; rfl
  · refine turnedAway_of_reply asks rfl rfl (Nat.le_add_left ..)
      ((ownLineAir_of_named (s := s.hearing .con (0x34#8 :: rest)) quiet named).trans ((if_neg ?_).trans (if_pos full.ge)))
    show ¬ (!(s.line n).state.mayAir) = true
    rw [(LineState.mayAir_iff _).mpr may]; nofun
  · have may := (LineState.mayAir_iff _).mpr may
    have inactive : s.alertActive = false := congrArg Option.isSome quiet
    have own : ownLineAir (c :: more) (s.hearing .con (0x34#8 :: rest)) = ((s.hearing .con (0x34#8 :: rest)).putOnAir n).done := by
      refine (ownLineAir_of_named (s := s.hearing .con (0x34#8 :: rest)) quiet named).trans ((if_neg ?_).trans (if_neg (Nat.not_le_of_lt room)))
      show ¬ (!(s.line n).state.mayAir) = true
      rw [may]; nofun
    have entered : (s.line n).enter .onAir s.alertActive s.ev.clock =
        { s.line n with state := .onAir, holdStart := none, holdLong := false, feed := .mixMinus } := by
      rw [(sound.line n).enter_of_seized s.ev.clock (LineState.seized_of_mayAir may) rfl, inactive]
      rfl
    rw [State.linesSound.putOnAir (s := s.hearing .con (0x34#8 :: rest)) sound n] at own
    rw [← entered]
    exact completes_of_own asks rfl rfl (Nat.le_add_left ..) own rfl

/-! ### The ring filter and the ring timer (R71, R73, R74) -/

section
variable {s : State} {n : LineId}

/-- A line whose filter waits for low, or counts fewer than 4,800 samples, has no burst (R71). -/
theorem State.ringBurst_of_not (early : (s.line n).ringStage = .waitingLow ∨ (s.line n).ringLevel < 4800) : s.ringBurst n = s := by
  refine if_neg fun ⟨counting, count⟩ => ?_
  rcases early with waits | few
  · exact nomatch counting.symm.trans waits
  · exact Nat.not_le_of_lt few count

section
variable (counting : (s.line n).ringStage = .countingHigh) (count : 4800 ≤ (s.line n).ringLevel)
include counting count

/-- A burst rings an IDLE line (R73). -/
theorem State.ringBurst_of_idle (idle : (s.line n).state = .idle) : s.ringBurst n =
    (s.setLine n { ({ s.line n with ringStage := .waitingLow, ringLevel := 0 } : LineRec).enter .ringing s.alertActive s.ev.clock with
      ringTimer := some { gap := 0, total := 0 } }).raise .lineRing := by
  unfold State.ringBurst
  dsimp only
  rw [if_pos ⟨counting, count⟩, idle]

/-- A burst sets the gap of a RINGING line to 0 (R73). -/
theorem State.ringBurst_of_ringing (ringing : (s.line n).state = .ringing) : s.ringBurst n =
    s.setLine n { s.line n with ringStage := .waitingLow, ringLevel := 0
                                ringTimer := (s.line n).ringTimer.map fun t => { t with gap := 0 } } := by
  unfold State.ringBurst
  dsimp only
  rw [if_pos ⟨counting, count⟩, ringing]

/-- A burst on a seized line is discarded (R73). -/
theorem State.ringBurst_of_seized (seized : (s.line n).state.seized = true) : s.ringBurst n =
    s.setLine n { s.line n with ringStage := .waitingLow, ringLevel := 0 } := by
  unfold State.ringBurst
  dsimp only
  rw [if_pos ⟨counting, count⟩]
  split
  · rename_i idle; rw [idle] at seized; exact nomatch seized
  · rename_i ringing; rw [ringing] at seized; exact nomatch seized
  · rfl

end

/-- A ring timer has run at a gap of 384,000 samples, or at the ring timeout (R74). -/
theorem RingTimer.expired_iff (t : RingTimer) (timeout : Nat) : t.expired timeout = true ↔ 384000 ≤ t.gap ∨ timeout * 48000 ≤ t.total := by
  unfold RingTimer.expired
  rw [Bool.or_eq_true, decide_eq_true_iff, decide_eq_true_iff]
  rfl

/-- RING_EXPIRY by whether the timer of the RINGING line has run (R74). -/
theorem State.ringExpiry_of_ringing {t : RingTimer} (ringing : (s.line n).state = .ringing) (timer : (s.line n).ringTimer = some t) :
    s.ringExpiry n = if t.expired s.pf.working.ringTimeout then
      ({ s.enterLine n .idle with lc := { (s.enterLine n .idle).lc with missed := countUp s.lc.missed } } : State).raise .lineMissed
    else s := by
  unfold State.ringExpiry
  rw [ringing, timer]
  rfl

/-- HOLD_LONG is due at the hold limit of a hold period that has not been reported (R85). -/
theorem State.holdLongDue_iff {t : Clock} (holds : (s.line n).state = .hold ∨ (s.line n).state = .ready)
    (start : (s.line n).holdStart = some t) : s.holdLongDue n = true ↔
      (s.line n).holdLong = false ∧ s.pf.working.holdLimit * 48000 ≤ (s.ev.clock - t).toNat := by
  have holding : (s.line n).state.holding = true := by rcases holds with st | st <;> rw [st] <;> rfl
  unfold State.holdLongDue
  dsimp only
  rw [holding, start, Bool.true_and, Bool.and_eq_true, Bool.not_eq_true', decide_eq_true_iff]
  rfl

end

/-- A line that is not seized has the hold feed, in an alert phase too (R84). -/
theorem LineState.feedIn_of_unseized {st : LineState} (free : st.seized = false) (alert : Bool) : st.feedIn alert = .hold := by
  cases st with
  | idle | ringing => cases alert <;> rfl
  | screen | hold | ready | onAir => exact nomatch free

/-- What a line that is not seized becomes as it passes between IDLE and RINGING (R70, R73, R74). -/
theorem LineRec.sound.enter_of_unseized {r : LineRec} {alert : Bool} (h : r.sound alert) (free : r.state.seized = false) {st : LineState}
    (into : st = .idle ∨ st = .ringing) (now : Clock) : r.enter st alert now =
      { r with state := st, ringTimer := if st = .ringing then r.ringTimer else none, holdStart := none, holdLong := false, loopLow := 0 } := by
  obtain ⟨seize, feed, -⟩ := h
  rw [LineState.feedIn_of_unseized free] at feed
  cases r
  cases seize.trans free
  cases feed
  unfold LineRec.enter
  rcases into with rfl | rfl
  · rw [LineState.feedIn_of_unseized rfl]; rfl
  · rw [LineState.feedIn_of_unseized rfl]; rfl

/-- Settles O32: each event by whether it is due. -/
theorem lineTimersAndTheRingFilter : Obligations.LineTimersAndTheRingFilter := by
  refine ⟨fun s n sound => ⟨fun waits count => ?_, fun early => ?_, fun early => ?_, fun counting count =>
    ⟨fun idle => ⟨_, rfl, ?_⟩, fun t ringing timer => ?_, fun seize => ?_⟩⟩,
    fun s n sound => ⟨fun t ringing timer => ⟨fun gap total => ?_, fun expired => ?_⟩,
      fun t holds start => ⟨fun early => ?_, fun unreported limit => ?_⟩⟩⟩
  · exact congrArg Host.Outcome.next (if_pos ⟨waits, count⟩)
  · refine congrArg Host.Outcome.next (if_neg fun ⟨waits, count⟩ => ?_)
    rcases early with counting | few
    · exact nomatch counting.symm.trans waits
    · exact Nat.not_le_of_lt few count
  · exact congrArg Host.Outcome.next (State.ringBurst_of_not early)
  · have entered := LineRec.sound.enter_of_unseized (r := { s.line n with ringStage := .waitingLow, ringLevel := 0 }) (sound.line n)
      (by rw [idle]; rfl) (.inr rfl) s.ev.clock
    refine congrArg Host.Outcome.next ((State.ringBurst_of_idle counting count idle).trans ?_)
    rw [entered]
    rfl
  · have rung := State.ringBurst_of_ringing counting count ringing
    rw [timer] at rung
    exact congrArg Host.Outcome.next rung
  · exact congrArg Host.Outcome.next (State.ringBurst_of_seized counting count ((sound.seize n).symm.trans seize))
  · have early : ¬ t.expired s.pf.working.ringTimeout = true := fun expired => by
      rcases (t.expired_iff _).mp expired with long | out
      · exact Nat.not_le_of_lt gap long
      · exact Nat.not_le_of_lt total out
    exact congrArg Host.Outcome.next ((State.ringExpiry_of_ringing ringing timer).trans (if_neg early))
  · have entered := (sound.line n).enter_of_unseized (by rw [ringing]; rfl) (.inl rfl) s.ev.clock
    refine congrArg Host.Outcome.next (((State.ringExpiry_of_ringing ringing timer).trans (if_pos ((t.expired_iff _).mpr expired))).trans ?_)
    unfold State.enterLine
    rw [entered]
    rfl
  · refine congrArg Host.Outcome.next (if_neg fun due => ?_)
    obtain ⟨unreported, limit⟩ := (State.holdLongDue_iff holds start).mp due
    rcases early with reported | early
    · exact nomatch reported.symm.trans unreported
    · exact Nat.not_le_of_lt early limit
  · exact congrArg Host.Outcome.next (if_pos ((State.holdLongDue_iff holds start).mpr ⟨unreported, limit⟩))

end Sys2Proof.Machine
end

section
/-! SUPPORT. What a change of the line controller keeps of it (R82 to R84, R88), and which changes leave the lines as they are. -/

namespace Sys2Proof.Machine

set_option Elab.async false

/-! ### A sound line controller -/

/-- The lines by themselves, while an alert phase is or is not active: what `State.linesSound` says of the controller. -/
structure LineController.Sound (c : LineController) (alert : Bool) : Prop where
  nodup : c.queue.Nodup
  ready : ∀ n, n ∈ c.queue ↔ (c.lines.get n).state = .ready
  line : ∀ n, (c.lines.get n).sound alert
  room : c.onAirCount ≤ 2
  silent : alert = true → c.onAirCount = 0

theorem State.linesSound_iff (s : State) : s.linesSound ↔
    s.lc.Sound s.alertActive ∧ (s.alertActive = true → s.topCause = some .alert) :=
  ⟨fun ⟨nodup, ready, line, room, alert⟩ => ⟨⟨nodup, ready, line, room, fun a => (alert a).1⟩, fun a => (alert a).2⟩,
    fun ⟨h, top⟩ => ⟨h.nodup, h.ready, h.line, h.room, fun a => ⟨h.silent a, top a⟩⟩⟩

/-- Two records that show the same: they differ in their conditioning and their hold period at most. -/
structure LineRec.Alike (r q : LineRec) : Prop where
  state : q.state = r.state := by rfl
  seize : q.seize = r.seize := by rfl
  feed : q.feed = r.feed := by rfl
  timer : q.ringTimer.isSome = r.ringTimer.isSome := by rfl

theorem LineRec.sound.alike {r q : LineRec} {alert : Bool} (h : r.sound alert) (k : r.Alike q) : q.sound alert := by
  unfold LineRec.sound at *
  rw [k.state, k.seize, k.feed, k.timer]
  exact h

/-- A line that enters a state is sound there; only RINGING asks for a ring timer (R70, R84). -/
theorem LineRec.enter_sound (r : LineRec) {st : LineState} (quiet : st ≠ .ringing) (alert : Bool) (now : Clock) :
    (r.enter st alert now).sound alert :=
  ⟨rfl, rfl, by unfold LineRec.enter; dsimp only; rw [if_neg quiet]; exact ⟨nofun, fun rings => absurd rings quiet⟩⟩

/-! The count of the lines ON_AIR -/

namespace LineController

/-- The lines ON_AIR are among those of a list and those ON_AIR before. -/
theorem onAirCount_le {c d : LineController} (ns : List LineId)
    (h : ∀ n, (d.lines.get n).state = .onAir → n ∈ ns ∨ (c.lines.get n).state = .onAir) : d.onAirCount ≤ ns.length + c.onAirCount := by
  have distinct : (LineId.all.filter fun n => (d.lines.get n).state = .onAir).Nodup := .filter _ (by decide)
  have among : (LineId.all.filter fun n => (d.lines.get n).state = .onAir) ⊆
      ns ++ LineId.all.filter fun n => (c.lines.get n).state = .onAir := fun n mem => by
    obtain ⟨listed, airing⟩ := List.mem_filter.mp mem
    rcases h n (of_decide_eq_true airing) with new | old
    · exact List.mem_append_left _ new
    · exact List.mem_append_right _ (List.mem_filter.mpr ⟨listed, decide_eq_true old⟩)
  exact (distinct.subperm among).length_le.trans_eq (List.length_append ..)

/-- Where no line goes on air the count does not rise. -/
theorem onAirCount_le_self {c d : LineController} (h : ∀ n, (d.lines.get n).state = .onAir → (c.lines.get n).state = .onAir) :
    d.onAirCount ≤ c.onAirCount :=
  (onAirCount_le [] fun n airing => .inr (h n airing)).trans_eq (Nat.zero_add _)

theorem onAirCount_eq_zero {c : LineController} (h : ∀ n, (c.lines.get n).state ≠ .onAir) : c.onAirCount = 0 :=
  List.length_eq_zero_iff.mpr (List.filter_eq_nil_iff.mpr fun n _ airing => h n (of_decide_eq_true airing))

/-! ### What keeps a sound controller sound -/

/-- Two controllers that show the same. -/
structure Alike (c d : LineController) : Prop where
  queue : d.queue = c.queue
  line : ∀ n, (c.lines.get n).Alike (d.lines.get n)

theorem Alike.refl (c : LineController) : c.Alike c := ⟨rfl, fun _ => {}⟩

theorem Alike.trans {c d e : LineController} (h : c.Alike d) (k : d.Alike e) : c.Alike e where
  queue := k.queue.trans h.queue
  line n :=
    { state := (k.line n).state.trans (h.line n).state
      seize := (k.line n).seize.trans (h.line n).seize
      feed := (k.line n).feed.trans (h.line n).feed
      timer := (k.line n).timer.trans (h.line n).timer }

/-- One record replaced by one that shows the same. -/
theorem alike_set (c : LineController) (n : LineId) {r : LineRec} (h : (c.lines.get n).Alike r) :
    c.Alike { c with lines := c.lines.set n r } where
  queue := rfl
  line m := by
    dsimp only
    rw [PerLine_get_set]
    split
    · rename_i same; exact same ▸ h
    · exact {}

/-- A sample period reaches only the conditioning of the lines (R71, R74). -/
theorem alike_tick (c : LineController) (ring loop : PerLine Bool) : c.Alike (c.tick ring loop) where
  queue := rfl
  line n := by
    show (c.lines.get n).Alike ((c.lines.mapWith _).get n)
    rw [PerLine_get_mapWith, LineRec.tick_eq]
    exact { timer := Option.isSome_map }

namespace Sound

section
variable {c : LineController} {alert : Bool} (h : c.Sound alert)
include h

theorem alike {d : LineController} (k : c.Alike d) : d.Sound alert := by
  have count : d.onAirCount ≤ c.onAirCount := onAirCount_le_self fun n airing => (k.line n).state.symm.trans airing
  refine ⟨k.queue ▸ h.nodup, fun n => ?_, fun n => (h.line n).alike (k.line n), count.trans h.room,
    fun active => Nat.le_zero.mp (count.trans_eq (h.silent active))⟩
  rw [k.queue, (k.line n).state]
  exact h.ready n

/-- One line in a new state, with the caller queue that goes with it: READY lines in it, and room on air for one that goes there. -/
theorem set (n : LineId) {r : LineRec} {q : List LineId} (sound : r.sound alert) (nodup : q.Nodup)
    (queue : ∀ m, m ∈ q ↔ if m = n then r.state = .ready else m ∈ c.queue)
    (air : r.state = .onAir → alert = false ∧ c.onAirCount < 2) :
    ({ c with queue := q, lines := c.lines.set n r } : LineController).Sound alert := by
  have line : ∀ m, (c.lines.set n r).get m = if m = n then r else c.lines.get m := fun m => PerLine_get_set ..
  have count : ({ c with queue := q, lines := c.lines.set n r } : LineController).onAirCount ≤
      (if r.state = .onAir then [n] else []).length + c.onAirCount := onAirCount_le _ fun m airing => by
    dsimp only at airing
    rw [line] at airing
    split at airing
    · rename_i same
      rw [if_pos airing]
      exact .inl (List.mem_singleton.mpr same)
    · exact .inr airing
  refine ⟨nodup, fun m => (queue m).trans ?_, fun m => ?_, ?_, fun active => ?_⟩
  · dsimp only
    rw [line]
    split
    · rfl
    · exact h.ready m
  · dsimp only
    rw [line]
    split
    · exact sound
    · exact h.line m
  · have room := h.room
    split at count
    · rename_i airing
      exact count.trans (by have free := (air airing).2; rw [List.length_singleton]; omega)
    · exact count.trans (by rw [List.length_nil]; omega)
  · have silent := h.silent active
    split at count
    · rename_i airing
      exact nomatch active.symm.trans (air airing).1
    · exact Nat.le_zero.mp (count.trans_eq (by rw [silent]; rfl))

/-- A line that passes between two states outside the caller queue and the air. -/
theorem set_outside (n : LineId) {r : LineRec} (sound : r.sound alert) (was : (c.lines.get n).state ≠ .ready) (ready : r.state ≠ .ready)
    (air : r.state ≠ .onAir) : ({ c with lines := c.lines.set n r } : LineController).Sound alert := by
  refine h.set n sound h.nodup (fun m => ?_) fun airing => absurd airing air
  split
  · rename_i same
    exact ⟨fun waits => absurd ((h.ready n).mp (same ▸ waits)) was, fun st => absurd st ready⟩
  · rfl

/-- A line that leaves the caller queue, or was not in it (R78 to R80). -/
theorem set_leaving (n : LineId) {r : LineRec} (sound : r.sound alert) (ready : r.state ≠ .ready)
    (air : r.state = .onAir → alert = false ∧ c.onAirCount < 2) :
    ({ c with queue := c.queue.filter (· ≠ n), lines := c.lines.set n r } : LineController).Sound alert := by
  refine h.set n sound (h.nodup.filter _) (fun m => ?_) air
  rw [List.mem_filter, decide_eq_true_iff]
  split
  · rename_i same
    exact ⟨fun mem => absurd same mem.2, fun st => absurd st ready⟩
  · rename_i other
    exact ⟨And.left, fun mem => ⟨mem, other⟩⟩

/-- A line that joins the caller queue at either end (R77). -/
theorem set_joining (n : LineId) {r : LineRec} (front : Bool) (sound : r.sound alert) (was : (c.lines.get n).state ≠ .ready)
    (ready : r.state = .ready) :
    ({ c with queue := if front then n :: c.queue else c.queue ++ [n], lines := c.lines.set n r } : LineController).Sound alert := by
  have absent : n ∉ c.queue := fun mem => was ((h.ready n).mp mem)
  have perm : (if front then n :: c.queue else c.queue ++ [n]).Perm (n :: c.queue) := by
    split
    · exact .refl _
    · exact List.perm_append_singleton n c.queue
  refine h.set n sound (perm.nodup_iff.mpr (List.nodup_cons.mpr ⟨absent, h.nodup⟩)) (fun m => ?_) fun airing => nomatch ready.symm.trans airing
  rw [perm.mem_iff, List.mem_cons]
  split
  · rename_i same; exact ⟨fun _ => ready, fun _ => .inl same⟩
  · rename_i other; exact or_iff_right other

end

section
variable {c : LineController} {alert : Bool} (h : c.Sound alert) (now : Clock)
include h

/-- A push that takes the lines off the air (R86). -/
theorem forceHold : (c.forceHold alert now).Sound alert ∧ (c.forceHold alert now).onAirCount = 0 := by
  have line : ∀ n, (c.forceHold alert now).lines.get n =
      if (c.lines.get n).state = .onAir then (c.lines.get n).enter .hold alert now else c.lines.get n := fun n => PerLine_get_mapWith ..
  have none : (c.forceHold alert now).onAirCount = 0 := onAirCount_eq_zero fun n => by
    rw [line]
    split
    · nofun
    · assumption
  refine ⟨⟨h.nodup, fun n => (h.ready n).trans ?_, fun n => ?_, by omega, fun _ => none⟩, none⟩
  · rw [line]
    split
    · rename_i airing
      rw [airing]
      exact ⟨nofun, nofun⟩
    · rfl
  · rw [line]
    split
    · exact LineRec.enter_sound _ (st := .hold) nofun alert now
    · exact h.line n

/-- The feeds set anew as an alert phase begins, with no line on air, or ends (R84). -/
theorem refeed {b : Bool} (silent : b = true → c.onAirCount = 0) : (c.refeed b).Sound b := by
  have line : ∀ n, (c.refeed b).lines.get n = { c.lines.get n with feed := (c.lines.get n).state.feedIn b } := fun n =>
    PerLine_get_mapWith ..
  refine ⟨h.nodup, fun n => (h.ready n).trans (by rw [line]), fun n => ?_, (c.refeed_onAirCount b).trans_le h.room,
    fun active => (c.refeed_onAirCount b).trans (silent active)⟩
  obtain ⟨seize, -, timer⟩ := h.line n
  rw [line]
  exact ⟨seize, rfl, timer⟩

end

/-- A sign-off drops every seized line, and with them the caller queue (R89). -/
theorem dropAll {c : LineController} (h : c.Sound false) (now : Clock) : (c.dropAll now).Sound false := by
  have line : ∀ n, (c.dropAll now).lines.get n =
      if (c.lines.get n).seize then (c.lines.get n).enter .idle false now else c.lines.get n := fun n => PerLine_get_mapWith ..
  have free : ∀ n, ((c.dropAll now).lines.get n).state.seized = false := fun n => by
    obtain ⟨seize, -, -⟩ := h.line n
    rw [line]
    split
    · rfl
    · rename_i off; exact (seize.symm.trans (Bool.eq_false_iff.mpr off))
  have none : (c.dropAll now).onAirCount = 0 := onAirCount_eq_zero fun n airing => by
    have off := free n
    rw [airing] at off
    exact nomatch off
  refine ⟨.nil, fun n => ⟨nofun, fun ready => ?_⟩, fun n => ?_, by omega, nofun⟩
  · have off := free n
    rw [ready] at off
    exact nomatch off
  · rw [line]
    split
    · exact LineRec.enter_sound _ (st := .idle) nofun false now
    · exact h.line n

/-- A pop returns lines from HOLD to the air, within the room there (R66, R87). -/
theorem returnToAir {c : LineController} (h : c.Sound false) (saved : List LineId) (gone : PerLine Bool) (now : Clock) :
    (c.returnToAir (c.returned saved gone) false now).Sound false := by
  have held : ∀ n, n ∈ c.returned saved gone → (c.lines.get n).state = .hold := fun n mem => by
    obtain ⟨-, offered⟩ := List.mem_filter.mp (List.mem_of_mem_take mem)
    exact of_decide_eq_true (Bool.and_eq_true_iff.mp offered).1
  have room : (c.returned saved gone).length ≤ 2 - c.onAirCount := List.length_take_le ..
  generalize c.returned saved gone = ns at held room
  have line : ∀ n, (c.returnToAir ns false now).lines.get n =
      if n ∈ ns then (c.lines.get n).enter .onAir false now else c.lines.get n := fun n => PerLine_get_mapWith ..
  refine ⟨h.nodup, fun n => (h.ready n).trans ?_, fun n => ?_, ?_, nofun⟩
  · rw [line]
    split
    · rename_i mem
      rw [held n mem]
      exact ⟨nofun, nofun⟩
    · rfl
  · rw [line]
    split
    · exact LineRec.enter_sound _ (st := .onAir) nofun false now
    · exact h.line n
  · have count : (c.returnToAir ns false now).onAirCount ≤ ns.length + c.onAirCount := onAirCount_le ns fun n airing => by
      rw [line] at airing
      split at airing
      · rename_i mem; exact .inl mem
      · exact .inr airing
    have before := h.room
    omega

theorem initial : LineController.initial.Sound false := ((State.linesSound_iff _).mp reset_linesSound).1

end Sound

/-- The feeds set anew leave nothing of the feeds before (R84). -/
theorem forceHold_refeed (c : LineController) (a b alert : Bool) (now : Clock) :
    (c.forceHold a now).refeed alert = (c.forceHold b now).refeed alert := by
  unfold LineController.forceHold LineController.refeed
  refine congrArg (fun lines => ({ c with lines := lines } : LineController)) (PerLine.ext_get fun n => ?_)
  rw [PerLine_get_mapWith, PerLine_get_mapWith, PerLine_get_mapWith, PerLine_get_mapWith]
  split
  · rfl
  · rfl

end LineController

end Sys2Proof.Machine
end

section
/-! SUPPORT. Which operations leave the lines, the alert phase and the top of the stack as they are. -/

namespace Sys2Proof.Machine

set_option Elab.async false

/-! ### What the sequencer's operations leave alone -/

namespace State.Within

theorem ite {T : Source → Prop} {s t u : State} {c : Prop} [Decidable c] (ht : s.Within T t) (hu : s.Within T u) :
    s.Within T (if c then t else u) := by
  split
  · exact ht
  · exact hu

section
variable {T : Source → Prop} {s t : State} (decks : ∀ d : DeckId, T d.source)
include decks

theorem endItem (h : s.Within T t) (d : DeckId) : s.Within T (t.endItem d) := by
  unfold State.endItem
  split
  · exact h
  · have ended : ∀ r, s.Within T (((t.addDone r).freeDeck d).updEntry d.source Entry.setOff) := fun r =>
      ((h.addDone r).freeDeck decks d).updEntry (decks d) _
    exact .ite ((ended _).setSq _) ((ended _).setSq _)

theorem takeHeadPoint (h : s.Within T t) (d : DeckId) : s.Within T (t.takeHeadPoint d) := by
  rw [State.takeHeadPoint_eq]
  have started : s.Within T (t.pointTaken.takeStart false) := (h.setSq _).takeStart decks false
  exact review decks (.ite (started.endItem decks d) started) false

theorem seguePoint (h : s.Within T t) : s.Within T t.seguePoint := by
  unfold State.seguePoint
  split
  · exact .ite (h.takeHeadPoint decks _) h
  · exact h

theorem itemEnd (h : s.Within T t) (d : DeckId) : s.Within T (t.itemEnd d) :=
  .ite (.ite (h.takeHeadPoint decks d) ((h.endItem decks d).review decks false)) h

theorem fadeOutPoint (h : s.Within T t) (d : DeckId) : s.Within T (t.fadeOutPoint d) := by
  unfold State.fadeOutPoint
  split
  · split
    · exact (h.setDeck d _).updEntry (decks d) _
    · exact h
  · exact h

theorem resumeDeck (h : s.Within T t) (d : DeckId) : s.Within T (t.resumeDeck d) := by
  have resumed := h.setDeck d (t.sq.resumed (t.deck d))
  refine .ite ?_ h
  dsimp only
  split
  · exact .ite (resumed.updEntry (decks d) _) resumed
  · exact resumed

theorem startSequence (h : s.Within T t) : s.Within T t.startSequence :=
  (((h.resumeDeck decks .a).resumeDeck decks .b).setSq _).review decks false

theorem removeItem (h : s.Within T t) (id : Nat) : s.Within T (t.removeItem id) := by
  unfold State.removeItem
  dsimp only
  split
  · exact ((h.setSq _).addDone _).freeDeck decks _
  · exact h.setSq _

theorem recue (h : s.Within T t) (d : Option DeckId) (i : Item) : s.Within T (t.recue d i) := by
  unfold State.recue
  split
  · exact .ite (h.freeDeck decks _) (h.bindDeck decks _ _)
  · exact h

theorem skipPlaying (h : s.Within T t) (d : DeckId) (x : Item) (rest : List Item) : s.Within T (t.skipPlaying d x rest) := by
  have fades : ∀ i k, s.Within T (((t.setSq { t.sq with list := i :: rest }).setDeck d k).updEntry d.source (·.fadeOut x.fadeOut)) :=
    fun i k => ((h.setSq _).setDeck d k).updEntry (decks d) _
  exact .ite h (.ite ((fades _ _).takeHeadPoint decks d) (fades _ _))

theorem skipWaiting (h : s.Within T t) (x : Item) : s.Within T (t.skipWaiting x) := by
  unfold State.skipWaiting
  dsimp only
  split
  · exact (((h.addDone _).freeDeck decks _).setSq _).review decks false
  · exact ((h.addDone _).setSq _).review decks false

theorem continueSequence (h : s.Within T t) : s.Within T t.continueSequence := by
  unfold State.continueSequence
  dsimp only
  split
  · exact (((h.addDone _).setSq _).setSq _).review decks false
  · exact (h.setSq _).review decks false

end

end State.Within

/-! ### Steady changes -/

/-- A change that leaves what the lines show, whether an alert phase is active, and the cause on top of the stack. -/
structure State.Steady (s t : State) : Prop where
  lc : s.lc.Alike t.lc := by exact .refl _
  alert : t.al.onAir.isSome = s.al.onAir.isSome := by rfl
  top : t.ps.records.head?.map (·.cause) = s.ps.records.head?.map (·.cause) := by rfl

theorem State.Steady.refl (s : State) : s.Steady s := {}

theorem State.Steady.trans {s t u : State} (h : s.Steady t) (k : t.Steady u) : s.Steady u :=
  ⟨h.lc.trans k.lc, k.alert.trans h.alert, k.top.trans h.top⟩

theorem State.Steady.ite {s t u : State} {c : Prop} [Decidable c] (ht : s.Steady t) (hu : s.Steady u) :
    s.Steady (if c then t else u) := by
  split
  · exact ht
  · exact hu

theorem State.linesSound.steady {s t : State} (h : s.linesSound) (k : s.Steady t) : t.linesSound := by
  obtain ⟨lc, top⟩ := (State.linesSound_iff s).mp h
  have active : t.alertActive = s.alertActive := k.alert
  have cause : t.topCause = s.topCause := k.top
  refine (State.linesSound_iff t).mpr ?_
  rw [active, cause]
  exact ⟨lc.alike k.lc, top⟩

/-- What reaches the sequencer and the roster alone is steady. -/
theorem State.Within.steady {s t : State} (h : s.Within (fun _ => True) t) : s.Steady t where
  lc := h.lc ▸ .refl _
  alert := by rw [h.al]
  top := by rw [h.ps]

section
variable (s : State)

theorem State.steady_raiseIf (c : Bool) (k : EventKind) : s.Steady (s.raiseIf c k) := by
  cases c
  · exact .refl s
  · exact {}

theorem State.steady_lookChangeover : s.Steady s.lookChangeover := .ite {} (.refl s)

theorem State.steady_announceAir (old : AirState) : s.Steady (s.announceAir old) := by
  unfold State.announceAir
  refine .trans ?_ (State.steady_lookChangeover _)
  split
  · exact {}
  · exact {}

/-- Records written to the log leave the alert on the air (R128). -/
theorem AlertUnit.foldl_writePending_onAir (out : LogOutcome) (ps : List PendingAlert) (a : AlertUnit) :
    (ps.foldl (fun acc p => acc.writePending p out) a).onAir = a.onAir := by
  induction ps generalizing a with
  | nil => rfl
  | cons p ps ih => exact ih _

theorem State.steady_sweep : s.Steady s.sweep :=
  { alert := congrArg Option.isSome (AlertUnit.foldl_writePending_onAir .notAired _ _) }

theorem State.steady_endWake : s.Steady s.endWake := by
  unfold State.endWake
  split
  · split
    · exact .trans {} (State.steady_announceAir _ .alertWake)
    · exact .trans (.trans {} (State.steady_announceAir (s.setAir .offAir) .alertWake)) (State.steady_sweep _)
  · exact .refl s

theorem State.steady_leaveOffers (n : LineId) : s.Steady (s.leaveOffers n) :=
  { top := by rw [State.leaveOffers_ps, List.head?_map, Option.map_map]; rfl }

theorem State.steady_ringArmed (n : LineId) : s.Steady (s.ringArmed n) := .ite { lc := s.lc.alike_set n {} } (.refl s)

theorem State.steady_holdLong (n : LineId) : s.Steady (s.holdLong n) := .ite { lc := s.lc.alike_set n {} } (.refl s)

theorem State.steady_attentionEnd : s.Steady s.attentionEnd := by
  unfold State.attentionEnd
  split
  · rename_i onAir; exact .ite { alert := by rw [onAir]; rfl } (.refl s)
  · exact .refl s

theorem State.steady_messageTruncated : s.Steady s.messageTruncated := by
  unfold State.messageTruncated
  split
  · rename_i onAir; exact .ite { alert := by rw [onAir]; rfl } (.refl s)
  · exact .refl s

theorem State.steady_replyWindowClose : s.Steady s.replyWindowClose := by
  unfold State.replyWindowClose
  split
  · exact .ite (.ite (.trans {} (State.steady_lookChangeover _)) {}) (.refl s)
  · exact .refl s

theorem State.steady_frameBoundary : s.Steady s.frameBoundary := .ite {} (.refl s)

theorem State.steady_pollTimerExpiry : s.Steady s.pollTimerExpiry := .ite {} (.refl s)

theorem State.steady_returnCharacter (w : Waveform) : s.Steady (s.returnCharacter w) := by
  refine .ite (.refl s) ?_
  unfold State.receive
  dsimp only
  split
  · exact {}
  · exact {}
  · exact {}
  · exact {}

theorem State.steady_checkReflect (u : UnitId) (st : UnitStatus) : s.Steady (s.checkReflect u st) :=
  .ite (.ite (.ite {} (.refl s)) {}) (.refl s)

theorem State.steady_heard (l : LaneId) (bytes : List Byte) : s.Steady (s.heard l bytes) := .ite {} (.ite {} (.refl s))

theorem State.steady_transactionStart (l : LaneId) : s.Steady (s.transactionStart l) := .ite {} (.ite {} (.refl s))

theorem State.steady_laneTimeout (l : LaneId) : s.Steady (s.laneTimeout l) := .ite {} (.refl s)

theorem State.steady_profileWriteComplete : s.Steady s.profileWriteComplete := by
  unfold State.profileWriteComplete
  split
  · exact .ite {} (.refl s)
  · exact .refl s

theorem State.steady_profileLoadComplete : s.Steady s.profileLoadComplete := by
  unfold State.profileLoadComplete
  split
  · have loaded := State.Steady.trans (s := s) (t := s.setPf { s.pf with working := s.pf.loaded, load := none }) {}
      (State.steady_raiseIf _ (!s.pf.valid) .profileDefaulted)
    exact loaded.trans {}
  · exact .refl s

theorem AlertUnit.tick_onAir (a : AlertUnit) : a.tick.onAir.isSome = a.onAir.isSome := by
  unfold AlertUnit.tick
  split
  · rename_i onAir
    dsimp only
    rw [onAir]
    split
    · rfl
    · rfl
  · rfl

theorem State.steady_mixPeriod (f : InputFrame) : s.Steady (s.mixPeriod f) where
  lc := s.lc.alike_tick f.ring f.loop
  alert := s.al.tick_onAir
  top := by simp [State.mixPeriod]

end

/-! ### Owners whose requests are steady: each of their branches is a reply, or an update of another block -/

section
variable (s : State)

theorem steady_ownSourceGain (l : LaneId) (body : List Byte) : s.Steady (ownSourceGain l body s).state := by
  unfold ownSourceGain
  repeat' split
  all_goals exact {}

theorem steady_ownSourceTake (body : List Byte) : s.Steady (ownSourceTake body s).state := by
  unfold ownSourceTake
  repeat' split
  all_goals exact {}

theorem steady_ownSourceRelease (body : List Byte) : s.Steady (ownSourceRelease body s).state := by
  unfold ownSourceRelease
  repeat' split
  all_goals exact {}

theorem steady_ownDelayTarget (body : List Byte) : s.Steady (ownDelayTarget body s).state := by
  unfold ownDelayTarget
  repeat' split
  all_goals exact {}

theorem steady_ownDelayDump (body : List Byte) : s.Steady (ownDelayDump body s).state := by
  unfold ownDelayDump
  repeat' split
  all_goals exact {}

theorem steady_ownLogRead (body : List Byte) : s.Steady (ownLogRead body s).state := by
  unfold ownLogRead
  repeat' split
  all_goals exact {}

theorem steady_ownTxSelect (body : List Byte) : s.Steady (ownTxSelect body s).state := by
  unfold ownTxSelect
  unfold State.txSelect
  repeat' split
  all_goals exact {}

theorem steady_ownStatusRead (body : List Byte) : s.Steady (ownStatusRead body s).state := by
  unfold ownStatusRead
  repeat' split
  all_goals exact {}

theorem steady_ownEventEnable (l : LaneId) (body : List Byte) : s.Steady (ownEventEnable l body s).state := by
  unfold ownEventEnable
  repeat' split
  all_goals exact {}

theorem steady_ownEventClear (l : LaneId) (body : List Byte) : s.Steady (ownEventClear l body s).state := by
  unfold ownEventClear
  repeat' split
  all_goals exact {}

theorem steady_ownDoneRead (body : List Byte) : s.Steady (ownDoneRead body s).state := by
  unfold ownDoneRead
  repeat' split
  all_goals exact {}

theorem steady_ownTurn (still : EntryState) (f : Nat → Entry → Entry) (l : LaneId) (body : List Byte) :
    s.Steady (ownTurn still f l body s).state := by
  unfold ownTurn
  repeat' split
  all_goals exact {}

theorem steady_ownProfileRead (body : List Byte) : s.Steady (ownProfileRead body s).state := by
  unfold ownProfileRead
  split
  · rw [State.profileRead_state]; exact .refl s
  · exact .refl s

/-- The end of the message audio leaves the alert on the air (R123). -/
theorem steady_ownAlertAudioEnd (body : List Byte) : s.Steady (ownAlertAudioEnd body s).state := by
  unfold ownAlertAudioEnd
  split
  · unfold State.audioEnd
    split
    · exact .refl s
    · rename_i onAir
      split
      · exact .refl s
      · split
        · exact { alert := by rw [onAir]; rfl }
        · exact .refl s
  · exact .refl s

end

end Sys2Proof.Machine
end

section
/-! SUPPORT. Every command keeps the lines sound, from what changes a line, what pushes and pops, and what is steady (O59). -/

namespace Sys2Proof.Machine

set_option Elab.async false

/-! ### What a push and an alert that takes the air leave of the lines -/

section
variable (s : State)

/-- Every push but a BREAK_IN's takes the lines off the air (R54 to R57, R86). -/
theorem State.push_lc (c : Cause) :
    (s.push c).lc = if c = .breakIn then s.lc else s.lc.forceHold s.alertActive s.ev.clock := by
  rw [State.push_eq]
  cases c with
  | breakIn => rfl
  | alert | failover | remoteFallback => exact congrArg (s.lc.forceHold s.alertActive) (s.pushed_clock _)

theorem State.push_topCause (c : Cause) : (s.push c).topCause = some c := by
  have records : (s.push c).ps.records = s.context c :: s.ps.records.take 7 := by
    rw [State.push_eq]
    show ((s.pushed c).causeChanges c).ps.records = _
    rw [show ((s.pushed c).causeChanges c).ps = s.ps.add (s.context c) by cases c <;> rfl, Stack.add_eq]
  unfold State.topCause
  rw [records]
  rfl

theorem State.wake_lc : s.wake.lc = s.lc := by
  unfold State.wake State.announceAir State.lookChangeover
  dsimp only
  repeat' split
  all_goals rfl

/-- The state in which ATTENTION begins for an alert that takes the air, before its push (R120, R122). -/
def State.attending (p : PendingAlert) (rest : List PendingAlert) : State :=
  (s.wake.setAl { s.wake.al with table := rest }).beginAttention p

section
variable (p : PendingAlert) (rest : List PendingAlert)

theorem State.takeAir_eq : s.takeAir p rest =
    ({ (s.attending p rest).push .alert with lc := ((s.attending p rest).push .alert).lc.refeed true } : State).raise .alertStart := rfl

/-- An alert that takes the air holds the lines on it and gives every seized line the alert feed (R84, R120). -/
theorem State.takeAir_lc : (s.takeAir p rest).lc = (s.lc.forceHold true s.wake.ev.clock).refeed true := by
  rw [State.takeAir_eq, State.raise_lc]
  dsimp only
  rw [State.push_lc, ← s.wake_lc]
  rfl

theorem State.takeAir_alertActive : (s.takeAir p rest).alertActive = true := by
  unfold State.alertActive
  rw [State.takeAir_eq, State.raise_al]
  dsimp only
  rw [State.push_al]
  rfl

theorem State.takeAir_topCause : (s.takeAir p rest).topCause = some .alert := by
  have top := (s.attending p rest).push_topCause .alert
  rw [State.takeAir_eq]
  exact top

end

end

namespace LinesKept

section
variable {s : State} (h : s.linesSound)
include h

/-! ### Operations on one line -/

theorem controller : s.lc.Sound s.alertActive := ((State.linesSound_iff s).mp h).1

/-- New lines that are sound, in a change that leaves the alert phase and the top of the stack. -/
theorem change {t : State} (lc : t.lc.Sound s.alertActive) (alert : t.al.onAir.isSome = s.al.onAir.isSome := by rfl)
    (top : t.ps.records.head?.map (·.cause) = s.ps.records.head?.map (·.cause) := by rfl) : t.linesSound := by
  obtain ⟨-, alertOnTop⟩ := (State.linesSound_iff s).mp h
  have active : t.alertActive = s.alertActive := alert
  have cause : t.topCause = s.topCause := top
  refine (State.linesSound_iff t).mpr ?_
  rw [active, cause]
  exact ⟨lc, alertOnTop⟩

/-- A line that passes between two states outside the caller queue and the air (R75, R76). -/
theorem enterLine (n : LineId) {st : LineState} (was : (s.line n).state ≠ .ready) (into : st = .idle ∨ st = .screen ∨ st = .hold) :
    (s.enterLine n st).linesSound := by
  have sound := LineRec.enter_sound (s.line n) (st := st) (by rcases into with rfl | rfl | rfl <;> nofun) s.alertActive s.ev.clock
  exact change h ((controller h).set_outside n sound was (by rcases into with rfl | rfl | rfl <;> nofun)
    (by rcases into with rfl | rfl | rfl <;> nofun))

/-- A line that leaves the caller queue and the lines a pop offers (R78, R80). -/
theorem leave_enter (n : LineId) {st : LineState} (into : st = .idle ∨ st = .screen) :
    (((s.leaveQueue n).leaveOffers n).enterLine n st).linesSound := by
  have sound := LineRec.enter_sound (s.line n) (st := st) (by rcases into with rfl | rfl <;> nofun) s.alertActive s.ev.clock
  have lc := (controller h).set_leaving n sound (by rcases into with rfl | rfl <;> nofun)
    fun airing => by rcases into with rfl | rfl <;> exact nomatch airing
  rw [h.leave_enter]
  exact change h lc rfl (s.steady_leaveOffers n).top

theorem dropLine (n : LineId) : (s.dropLine n).linesSound := by
  have left := leave_enter h n (.inl rfl)
  unfold State.dropLine
  dsimp only
  split
  · exact left.steady {}
  · exact left

/-- A line put on air while no alert is there and one place is free (R79, R82). -/
theorem putOnAir (n : LineId) (quiet : s.alertActive = false) (room : s.lc.onAirCount < 2) : (s.putOnAir n).linesSound := by
  have sound := LineRec.enter_sound (s.line n) (st := .onAir) nofun s.alertActive s.ev.clock
  rw [h.putOnAir]
  exact change h ((controller h).set_leaving n sound nofun fun _ => ⟨quiet, room⟩)

/-- A line made READY joins the caller queue (R77). -/
theorem ready (n : LineId) (front : Bool) (was : (s.line n).state ≠ .ready) :
    (((s.leaveOffers n).enterLine n .ready).joinQueue n front).linesSound := by
  have sound := LineRec.enter_sound (s.line n) (st := .ready) nofun s.alertActive s.ev.clock
  exact change h ((controller h).set_joining n front sound was rfl) rfl (s.steady_leaveOffers n).top

theorem ringBurst (n : LineId) : (s.ringBurst n).linesSound := by
  by_cases due : (s.line n).ringStage = .countingHigh ∧ 4800 ≤ (s.line n).ringLevel
  · obtain ⟨counting, count⟩ := due
    cases st : (s.line n).state with
    | idle =>
      have was : (s.line n).state ≠ .ready := by rw [st]; nofun
      rw [State.ringBurst_of_idle counting count st]
      exact change h ((controller h).set_outside n ⟨rfl, rfl, ⟨fun _ => rfl, fun _ => rfl⟩⟩ was nofun nofun)
    | ringing =>
      rw [State.ringBurst_of_ringing counting count st]
      exact h.steady { lc := s.lc.alike_set n { timer := Option.isSome_map } }
    | screen | hold | ready | onAir =>
      rw [State.ringBurst_of_seized counting count (by rw [st]; rfl)]
      exact h.steady { lc := s.lc.alike_set n {} }
  · rw [show s.ringBurst n = s from if_neg due]
    exact h

theorem ringExpiry (n : LineId) : (s.ringExpiry n).linesSound := by
  unfold State.ringExpiry
  split
  · rename_i ringing _
    split
    · exact (enterLine h n (by rw [ringing]; nofun) (.inl rfl)).steady { lc := ⟨rfl, fun _ => {}⟩ }
    · exact h
  · exact h

theorem loopLoss (n : LineId) : (s.loopLoss n).linesSound := by
  unfold State.loopLoss
  split
  · exact (dropLine h n).steady {}
  · exact h

theorem settleLine (n : LineId) : (s.settleLine n).linesSound :=
  (loopLoss (ringExpiry ((ringBurst h n).steady (State.steady_ringArmed _ n)) n) n).steady (State.steady_holdLong _ n)

/-! ### Pushes and pops -/

/-- With no alert on the air a push may have any cause (R53). -/
theorem push (quiet : s.alertActive = false) (c : Cause) : (s.push c).linesSound := by
  have inactive : (s.push c).alertActive = false := (congrArg (·.onAir.isSome) (s.push_al c)).trans quiet
  refine (State.linesSound_iff _).mpr ⟨?_, fun active => nomatch active.symm.trans inactive⟩
  rw [State.push_lc, inactive, ← quiet]
  split
  · exact controller h
  · exact ((controller h).forceHold s.ev.clock).1

theorem takeAir (p : PendingAlert) (rest : List PendingAlert) : (s.takeAir p rest).linesSound := by
  refine (State.linesSound_iff _).mpr ⟨?_, fun _ => s.takeAir_topCause p rest⟩
  obtain ⟨held, none⟩ := (controller h).forceHold s.wake.ev.clock
  rw [State.takeAir_lc, State.takeAir_alertActive, LineController.forceHold_refeed s.lc true s.alertActive]
  exact held.refeed fun _ => none

theorem checkAlerts : s.checkAlerts.linesSound := by
  unfold State.checkAlerts
  split
  · exact h
  · split
    · exact takeAir h _ _
    · exact h

theorem breakOpportunity : s.breakOpportunity.linesSound := by
  unfold State.breakOpportunity
  split
  · exact h
  · split
    · exact takeAir h _ _
    · exact h

theorem takeBreak : s.takeBreak.linesSound := by
  unfold State.takeBreak
  split
  · exact breakOpportunity (h.steady {})
  · exact h

/-- What a pop leaves of the lines with no alert on the air: those it offers are on the air again (R66, R87). -/
theorem pop (quiet : s.alertActive = false) (taker : ResumeBy) (k : ResumeKind) : (s.pop taker k).linesSound := by
  unfold State.pop
  split
  · exact h
  · rename_i r rest _
    have lines : (s.linesPopped r).Sound false := by
      have lc := controller h
      rw [quiet] at lc
      unfold State.linesPopped
      rw [quiet]
      split
      · exact lc
      · exact lc.returnToAir _ _ _
    have resumed : ({ s.resumed r rest taker k with lc := s.linesPopped r } : State).linesSound := by
      refine (State.linesSound_iff _).mpr ⟨?_, fun active => nomatch active.symm.trans quiet⟩
      show (s.linesPopped r).Sound s.alertActive
      rw [quiet]
      exact lines
    have delay : ∀ u : State, u.Steady (u.restoreDelay r) := fun u => .ite (.trans {} (State.steady_endWake (u.setDu _))) (.refl u)
    exact ((resumed.steady (s.popped_within r rest taker k).steady).steady (delay _)).steady
      (s.popRecord_after_delay rest taker k).steady

/-! ### The alert unit -/

theorem enterTable (p : PendingAlert) : (s.enterTable p).1.linesSound := by
  unfold State.enterTable
  split
  · exact checkAlerts (h.steady {})
  · split
    · exact h
    · split
      · exact checkAlerts (h.steady {})
      · exact h.steady {}

theorem notice (n : Notice) : (s.notice n).1.linesSound := by
  unfold State.notice
  split
  · exact h
  · dsimp only
    split
    · exact h.steady {}
    · split
      · exact h.steady {}
      · split
        · rename_i onAir
          split
          · exact h.steady { alert := by rw [onAir]; rfl }
          · exact enterTable (h.steady {}) _
        · exact enterTable (h.steady {}) _

theorem windowExpiry (id : Nat) : (s.windowExpiry id).linesSound := by
  unfold State.windowExpiry
  split
  · exact checkAlerts (h.steady {})
  · exact h

/-- The lines of a closed alert have their own feeds again (R84, R124). -/
theorem closed (o : OnAirAlert) : (s.closed o).linesSound :=
  (State.linesSound_iff _).mpr ⟨(controller h).refeed nofun, nofun⟩

theorem endAlert (o : OnAirAlert) : (s.endAlert o).linesSound :=
  takeBreak (checkAlerts ((pop (closed h o) rfl .alertUnit _).steady {}))

theorem alertEnd : s.alertEnd.linesSound := by
  unfold State.alertEnd
  split
  · split
    · exact endAlert h _
    · exact h
  · exact h

theorem cancel (id : Nat) : (s.cancel id).state.linesSound := by
  unfold State.cancel
  split
  · exact checkAlerts (h.steady {})
  · rename_i onAir
    split
    · unfold State.cancelOnAir
      split
      · exact h
      · exact h.steady { alert := by rw [onAir]; rfl }
    · exact h
  · exact h

/-! ### The air state block -/

theorem signOn (enabled : Bool) : (s.signOn enabled).1.linesSound := by
  unfold State.signOn
  split
  · exact h
  · split
    · exact h
    · exact h
  · split
    · exact h.steady {}
    · exact h
  · split
    · exact checkAlerts (h.steady (.trans {} (State.steady_announceAir (s.setAir .onAir) .offAir)))
    · exact h

theorem signOffNow (quiet : s.alertActive = false) : s.signOffNow.linesSound := by
  have lc := controller h
  rw [quiet] at lc
  have dropped : ∀ u : State, u.lc = s.lc → u.al = s.al → u.ps = s.ps → ({ u with lc := u.lc.dropAll u.ev.clock } : State).linesSound :=
    fun u lines al ps => by
      refine change h ?_ (by rw [al]) (by rw [ps])
      show (u.lc.dropAll u.ev.clock).Sound s.alertActive
      rw [lines, quiet]
      exact lc.dropAll _
  have raised : ∀ {u : State} (c : Bool) (du : Delay), u.linesSound → ((u.raiseIf c .queueChange).setDu du).linesSound :=
    fun c du hu => (hu.steady (State.steady_raiseIf _ c .queueChange)).steady {}
  have announced : ∀ {u : State}, u.linesSound → (u.announceAir .onAir).sweep.linesSound := fun hu =>
    hu.steady ((State.steady_announceAir _ .onAir).trans (State.steady_sweep _))
  have monitored : ∀ {u : State} (m : Monitor), u.linesSound → (u.setMonitor m).linesSound := fun m hu => hu.steady {}
  unfold State.signOffNow
  exact monitored _ (takeBreak (checkAlerts (announced (raised _ _ (dropped _ rfl rfl rfl)))))

theorem signOff : s.signOff.1.linesSound := by
  unfold State.signOff
  split
  · exact h
  · split
    · exact h
    · rename_i free
      split
      · exact signOffNow h (Bool.or_eq_false_iff.mp (Bool.eq_false_iff.mpr free)).1
      · exact h

theorem wakeChanged : s.wakeChanged.linesSound := by
  unfold State.wakeChanged
  split
  · exact checkAlerts (h.steady s.steady_sweep)
  · exact h

theorem enterStartState (st : StartState) : (s.enterStartState st).linesSound := by
  have announced : s.Steady ((s.setAir st.air).announceAir .starting) := .trans {} (State.steady_announceAir _ _)
  exact checkAlerts (h.steady (.ite (announced.trans (State.steady_sweep _)) announced))

theorem startDelayExpiry : s.startDelayExpiry.linesSound := by
  unfold State.startDelayExpiry
  split
  · exact enterStartState (h.steady {}) _
  · exact h

theorem judgeBlock (quiet : s.alertActive = false) : s.judgeBlock.linesSound := by
  unfold State.judgeBlock
  dsimp only
  split
  · split
    · exact takeBreak ((push h quiet .failover).steady {})
    · exact h.steady (.trans {} (State.steady_raiseIf (s.setMonitor _) _ _))
  · exact h.steady {}

theorem blockJudged : s.blockJudged.linesSound := by
  unfold State.blockJudged
  split
  · dsimp only
    split
    · rename_i free
      have monitor := (Bool.and_eq_true_iff.mp free).2
      have quiet := (State.onAir_of_monitor_free (by simpa using monitor)).2
      exact (judgeBlock h (congrArg Option.isSome quiet)).steady {}
    · exact h.steady {}
  · exact h

/-! ### The link and the profile store -/

theorem remoteFallback : s.remoteFallback.linesSound := by
  unfold State.remoteFallback
  split
  · exact h.steady {}
  · rename_i free
    have quiet : s.alertActive = false := Bool.eq_false_iff.mpr fun active => free (by rw [active]; simp)
    exact takeBreak (push h quiet .remoteFallback)

omit h in
theorem remoteJudged {r : State × ReplyCode} (h : r.1.linesSound) : (remoteJudged r).linesSound := by
  unfold Machine.remoteJudged
  split
  · exact h.steady {}
  · exact h.steady {}
  · exact h

theorem remoteRequest (code : Byte) : (s.remoteRequest code).linesSound := by
  unfold State.remoteRequest
  split
  · exact remoteFallback h
  · exact remoteJudged (signOff h)
  · exact remoteJudged (signOn h _)
  · exact h.steady {}
  · exact h.steady {}
  · exact h

theorem judgeRequest (u : UnitId) (code : Byte) : (s.judgeRequest u code).linesSound := by
  unfold State.judgeRequest
  dsimp only
  split
  · exact (remoteRequest h code).steady {}
  · exact h.steady {}

theorem judgeMessage (m : Assembly) : (s.judgeMessage m).linesSound := by
  unfold State.judgeMessage
  split
  · exact (judgeRequest (h.steady (.trans {} (State.steady_checkReflect (s.setTl _) m.unit m.status))) m.unit m.status.request).steady
      (State.steady_lookChangeover _)
  · exact h.steady {}

theorem assemblerTake : s.assemblerTake.linesSound := by
  unfold State.assemblerTake
  split
  · exact h
  · split
    · exact h
    · dsimp only
      split
      · exact judgeMessage (h.steady {}) _
      · exact h.steady {}

theorem fieldWritten (f : Field) : (s.fieldWritten f).linesSound := by
  unfold State.fieldWritten
  split
  · exact h.steady (.trans {} (State.steady_lookChangeover (s.setTl _)))
  · exact h.steady s.steady_lookChangeover
  · exact wakeChanged h
  · exact h

theorem profileWrite (l : LaneId) (body : List Byte) : (State.profileWrite l body s).1.linesSound := by
  unfold State.profileWrite
  split
  · split
    · exact h
    · split
      · exact h
      · split
        · exact h
        · rename_i f _
          split
          · have written : ∀ v, ((s.setPf (s.pf.begin f v)).fieldWritten f).linesSound := fun _ => fieldWritten (h.steady {}) f
            exact (written _).steady {}
          · exact h
  · exact h

/-! ### Settling and the mix -/

theorem settleSequencer : s.settleSequencer.linesSound := by
  have faded := h.steady (State.Within.steady
    (.fadeOutPoint (fun _ => trivial) (.fadeOutPoint (fun _ => trivial) (.refl s) .a) .b))
  have ended : ∀ {u : State} (d : DeckId), u.linesSound → (u.itemEndEvent d).linesSound := fun d hu =>
    takeBreak (hu.steady (State.Within.steady (.itemEnd (fun _ => trivial) (.refl _) d)))
  exact ended .b (ended .a (takeBreak (faded.steady (State.Within.steady (.seguePoint (fun _ => trivial) (.refl _))))))

theorem settleAlert : s.settleAlert.linesSound :=
  foldl_preserves (I := State.linesSound) (fun _ id ht => windowExpiry ht id) _
    (alertEnd (h.steady (s.steady_attentionEnd.trans (State.steady_messageTruncated _))))

theorem settleLines : s.settleLines.linesSound := foldl_preserves (I := State.linesSound) (fun _ n ht => settleLine ht n) _ h

theorem settleLink : s.settleLink.linesSound :=
  assemblerTake (h.steady ((s.steady_replyWindowClose.trans (State.steady_pollTimerExpiry _)).trans (State.steady_frameBoundary _)))

theorem settle : s.settle.linesSound := by
  have start := startDelayExpiry (h.steady (s.steady_profileWriteComplete.trans (State.steady_profileLoadComplete _)))
  have judged := blockJudged (settleAlert (settleSequencer (start.steady (t := State.settleRoster _) {})))
  exact (settleLink (settleLines judged)).steady
    (((State.steady_laneTimeout _ .aut).trans (State.steady_laneTimeout _ .con)).trans (State.steady_laneTimeout _ .alr))

theorem mix (f : InputFrame) : (s.mix f).linesSound := by
  unfold State.mix
  split
  · exact h
  · exact (settle h).steady (State.steady_mixPeriod _ f)

end

/-! ### Resets -/

/-- Lines at their reset values, with no alert on the air. -/
theorem of_initial {s : State} (lc : s.lc = .initial) (quiet : s.al.onAir = none) : s.linesSound := by
  have inactive : s.alertActive = false := congrArg Option.isSome quiet
  refine (State.linesSound_iff s).mpr ⟨?_, fun active => nomatch active.symm.trans inactive⟩
  rw [lc, inactive]
  exact .initial

theorem globalReset (s : State) : s.globalReset.linesSound := by
  refine enterStartState (of_initial rfl ?_) _
  show s.resetBlocks.al.onAir = none
  unfold State.resetBlocks
  cases s.pf.valid <;> rfl

/-! ### The owners of the requests -/

section
variable {s : State} (h : s.linesSound)
include h

/-- A request whose owner keeps the lines. -/
theorem request (l : LaneId) (code : Byte) (rest : List Byte) (allowed : Bool) (need : Nat) {own : List Byte → State → Answer}
    (ho : ∀ b t, t.linesSound → (own b t).state.linesSound) : (s.request l code rest allowed need own).linesSound :=
  State.request_preserves (fun _ _ _ ht => ht.steady {}) h l code rest allowed need ho

/-- A request whose owner is steady. -/
theorem steadyRequest (l : LaneId) (code : Byte) (rest : List Byte) (allowed : Bool) (need : Nat)
    {own : List Byte → State → Answer} (ho : ∀ b t, State.Steady t (own b t).state) :
    (s.request l code rest allowed need own).linesSound :=
  request h l code rest allowed need fun b t ht => ht.steady (ho b t)

/-- A request taken by the sequencer, with the break opportunity it gives (R47). -/
theorem doneThenBreak {t : State} (k : s.Within (fun _ => True) t) : t.done.thenBreak.state.linesSound := takeBreak (h.steady k.steady)

theorem seqAppend (body : List Byte) : (ownSeqAppend body s).state.linesSound := by
  unfold ownSeqAppend
  split
  · exact h
  · split
    · exact h
    · exact doneThenBreak h (.review (fun _ => trivial) (.setSq (.refl s) _) false)

theorem seqInsert (body : List Byte) : (ownSeqInsert body s).state.linesSound := by
  unfold ownSeqInsert
  split
  · split
    · exact h
    · split
      · exact h
      · split
        · exact doneThenBreak h (.review (fun _ => trivial) (.recue (fun _ => trivial) (.setSq (.refl s) _) _ _) false)
        · exact h
  · exact h

theorem seqRemove (body : List Byte) : (ownSeqRemove body s).state.linesSound := by
  unfold ownSeqRemove
  split
  · split
    · split
      · exact h
      · exact doneThenBreak h (.review (fun _ => trivial) (.removeItem (fun _ => trivial) (.refl s) _) false)
    · exact h
  · exact h

theorem seqReady (body : List Byte) : (ownSeqReady body s).state.linesSound := by
  unfold ownSeqReady
  split
  · split
    · exact h
    · split
      · split
        · exact doneThenBreak h (.review (fun _ => trivial) (.setDeck (.refl s) _ _) true)
        · exact h
        · exact h
      · exact h
  · exact h

theorem seqStart (body : List Byte) : (ownSeqStart body s).state.linesSound := by
  unfold ownSeqStart
  split
  · exact h
  · split
    · exact h
    · exact doneThenBreak h (.startSequence (fun _ => trivial) (.refl s))

theorem seqStop (body : List Byte) : (ownSeqStop body s).state.linesSound := by
  unfold ownSeqStop
  split
  · exact h
  · split
    · exact h
    · exact doneThenBreak h (.setSq (.refl s) _)

theorem seqSkip (body : List Byte) : (ownSeqSkip body s).state.linesSound := by
  unfold ownSeqSkip
  split
  · exact h
  · split
    · exact h
    · exact doneThenBreak h (.skipPlaying (fun _ => trivial) (.refl s) _ _ _)
    · exact doneThenBreak h (.skipWaiting (fun _ => trivial) (.refl s) _)

theorem seqContinue (body : List Byte) : (ownSeqContinue body s).state.linesSound := by
  unfold ownSeqContinue
  split
  · exact doneThenBreak h (.continueSequence (fun _ => trivial) (.refl s))
  · exact h

theorem breakIn (body : List Byte) : (ownBreakIn body s).state.linesSound := by
  unfold ownBreakIn
  split
  · exact h
  · rename_i free
    exact takeBreak (push h (Bool.eq_false_iff.mpr fun active => free (.inl active)) .breakIn)

/-- No lane pops the record of an alert, which stands on top while the alert is on the air (R58, R88). -/
theorem resume (l : LaneId) (body : List Byte) : (ownResume l body s).state.linesSound := by
  unfold ownResume
  split
  · split
    · exact h
    · exact h
    · rename_i cause _ top
      split
      · rename_i may
        have quiet : s.alertActive = false := Bool.eq_false_iff.mpr fun active => by
          have alert := ((State.linesSound_iff s).mp h).2 active
          cases top.symm.trans alert
          cases l <;> exact nomatch may
        exact takeBreak (pop h quiet _ _)
      · exact h
  · exact h

/-- A line request keeps the lines where its owner does. -/
theorem onLine {own : LineId → State → Answer} (ho : ∀ n, (own n s).state.linesSound) (body : List Byte) :
    (onLine own body s).state.linesSound := by
  unfold Machine.onLine
  split
  · split
    · exact h
    · exact ho _
  · exact h

theorem lineAnswer (n : LineId) : (ownLineAnswer n s).state.linesSound := by
  unfold ownLineAnswer
  split
  · rename_i ringing
    exact enterLine h n (by rw [ringing]; nofun) (.inr (.inl rfl))
  · exact h

theorem lineScreen (n : LineId) : (ownLineScreen n s).state.linesSound := by
  unfold ownLineScreen
  split
  · exact leave_enter h n (.inr rfl)
  · exact h

theorem lineHold (n : LineId) : (ownLineHold n s).state.linesSound := by
  unfold ownLineHold
  split
  · rename_i screen
    exact enterLine h n (by rw [screen]; nofun) (.inr (.inr rfl))
  · split
    · rename_i airing
      exact State.linesSound.steady (enterLine h n (by rw [airing]; nofun) (.inr (.inr rfl))) {}
    · exact h

theorem lineReady (front : Bool) (n : LineId) : (ownLineReady front n s).state.linesSound := by
  unfold ownLineReady
  split
  · rename_i off
    exact ready h n front (by rcases off with st | st <;> rw [st] <;> nofun)
  · exact h

/-- LINE_AIR finds room, and no alert on the air (R79, R88). -/
theorem lineAir (body : List Byte) : (ownLineAir body s).state.linesSound := by
  unfold ownLineAir
  split
  · rename_i c _
    split
    · exact h
    · rename_i n named
      have quiet : s.alertActive = false := Bool.eq_false_iff.mpr fun active => by
        unfold State.airLine at named
        rw [if_pos active] at named
        split at named
        · exact nomatch named
        · split at named <;> exact nomatch named
      split
      · exact h
      · split
        · exact h
        · rename_i room
          exact putOnAir h n quiet (Nat.lt_of_not_le room)
  · exact h

theorem lineDrop (n : LineId) : (ownLineDrop n s).state.linesSound := by
  unfold ownLineDrop
  split
  · exact dropLine h n
  · exact h

theorem alertNotice (body : List Byte) : (ownAlertNotice body s).state.linesSound := by
  unfold ownAlertNotice
  split
  · exact h
  · exact notice h _

theorem alertCancel (body : List Byte) : (ownAlertCancel body s).state.linesSound := by
  unfold ownAlertCancel
  split
  · exact cancel h _
  · exact h

theorem alertRearm (body : List Byte) : (ownAlertRearm body s).state.linesSound := by
  unfold ownAlertRearm
  split
  · exact h
  · exact checkAlerts (h.steady (t := s.setAl { s.al with armed := true }) {})

theorem wakeEnable (body : List Byte) : (ownWakeEnable body s).state.linesSound := by
  unfold ownWakeEnable
  split
  · exact wakeChanged (h.steady (t := s.setPf _) {})
  · exact h

/-! ### The step -/

theorem mixIf (c : Prop) [Decidable c] (f : InputFrame) : (if c then s.mix f else s).linesSound := by
  split
  · exact mix h f
  · exact h

/-- Every command keeps the lines sound. -/
theorem command {t : State} (c : Instr) (e : exec c s = .next t) : t.linesSound := by
  cases c with
  | powerOn rst supply => exact holds_of_next (of_initial (s := s.powerOn rst supply) rfl rfl) e
  | profileLoadComplete => exact holds_of_next (h.steady s.steady_profileLoadComplete) e
  | startDelayExpiry => exact holds_of_next (startDelayExpiry h) e
  | globalReset l rest => exact holds_of_next (request h _ _ _ _ _ fun _ t _ => globalReset t) e
  | mix f => exact holds_of_next (mix h f) e
  | releaseRampEnd src => exact holds_of_next (h.steady (t := s.releaseRampEnd src) {}) e
  | buildStep f => exact holds_of_next (mixIf h _ f) e
  | catchUpStep f => exact holds_of_next (mixIf h _ f) e
  | fadeOutPoint d => exact holds_of_next (h.steady (State.Within.steady (.fadeOutPoint (fun _ => trivial) (.refl s) d))) e
  | seguePoint => exact holds_of_next (takeBreak (h.steady (State.Within.steady (.seguePoint (fun _ => trivial) (.refl s))))) e
  | itemEnd d => exact holds_of_next (takeBreak (h.steady (State.Within.steady (.itemEnd (fun _ => trivial) (.refl s) d)))) e
  | seqAppend l rest => exact holds_of_next (request h _ _ _ _ _ fun b _ ht => seqAppend ht b) e
  | seqInsert l rest => exact holds_of_next (request h _ _ _ _ _ fun b _ ht => seqInsert ht b) e
  | seqRemove l rest => exact holds_of_next (request h _ _ _ _ _ fun b _ ht => seqRemove ht b) e
  | seqReady l rest => exact holds_of_next (request h _ _ _ _ _ fun b _ ht => seqReady ht b) e
  | seqStart l rest => exact holds_of_next (request h _ _ _ _ _ fun b _ ht => seqStart ht b) e
  | seqStop l rest => exact holds_of_next (request h _ _ _ _ _ fun b _ ht => seqStop ht b) e
  | seqSkip l rest => exact holds_of_next (request h _ _ _ _ _ fun b _ ht => seqSkip ht b) e
  | seqContinue l rest => exact holds_of_next (request h _ _ _ _ _ fun b _ ht => seqContinue ht b) e
  | doneRead l rest => exact holds_of_next (steadyRequest h _ _ _ _ _ fun b t => steady_ownDoneRead t b) e
  | sourceGain l rest => exact holds_of_next (steadyRequest h _ _ _ _ _ fun b t => steady_ownSourceGain t l b) e
  | sourceOn l rest => exact holds_of_next (steadyRequest h l _ rest _ _ fun b t => ownSourceOn_eq l ▸ steady_ownTurn t _ _ l b) e
  | sourceOff l rest => exact holds_of_next (steadyRequest h l _ rest _ _ fun b t => ownSourceOff_eq l ▸ steady_ownTurn t _ _ l b) e
  | sourceTake l rest => exact holds_of_next (steadyRequest h _ _ _ _ _ fun b t => steady_ownSourceTake t b) e
  | sourceRelease l rest => exact holds_of_next (steadyRequest h _ _ _ _ _ fun b t => steady_ownSourceRelease t b) e
  | breakIn l rest => exact holds_of_next (request h _ _ _ _ _ fun b _ ht => breakIn ht b) e
  | resume l rest => exact holds_of_next (request h _ _ _ _ _ fun b _ ht => resume ht l b) e
  | lineAnswer l rest => exact holds_of_next (request h _ _ _ _ _ fun b _ ht => onLine ht (lineAnswer ht) b) e
  | lineScreen l rest => exact holds_of_next (request h _ _ _ _ _ fun b _ ht => onLine ht (lineScreen ht) b) e
  | lineHold l rest => exact holds_of_next (request h _ _ _ _ _ fun b _ ht => onLine ht (lineHold ht) b) e
  | lineReady l rest => exact holds_of_next (request h _ _ _ _ _ fun b _ ht => onLine ht (lineReady ht _) b) e
  | lineAir l rest => exact holds_of_next (request h _ _ _ _ _ fun b _ ht => lineAir ht b) e
  | lineDrop l rest => exact holds_of_next (request h _ _ _ _ _ fun b _ ht => onLine ht (lineDrop ht) b) e
  | ringFilterArmed n => exact holds_of_next (h.steady (s.steady_ringArmed n)) e
  | ringBurst n => exact holds_of_next (ringBurst h n) e
  | ringExpiry n => exact holds_of_next (ringExpiry h n) e
  | loopLoss n => exact holds_of_next (loopLoss h n) e
  | holdLong n => exact holds_of_next (h.steady (s.steady_holdLong n)) e
  | delayTarget l rest => exact holds_of_next (steadyRequest h _ _ _ _ _ fun b t => steady_ownDelayTarget t b) e
  | delayDump l rest => exact holds_of_next (steadyRequest h _ _ _ _ _ fun b t => steady_ownDelayDump t b) e
  | alertNotice l rest => exact holds_of_next (request h _ _ _ _ _ fun b _ ht => alertNotice ht b) e
  | windowExpiry id => exact holds_of_next (windowExpiry h id) e
  | attentionEnd => exact holds_of_next (h.steady s.steady_attentionEnd) e
  | messageTruncated => exact holds_of_next (h.steady s.steady_messageTruncated) e
  | alertAudioEnd l rest => exact holds_of_next (steadyRequest h _ _ _ _ _ fun b t => steady_ownAlertAudioEnd t b) e
  | alertCancel l rest => exact holds_of_next (request h _ _ _ _ _ fun b _ ht => alertCancel ht b) e
  | alertRearm l rest => exact holds_of_next (request h _ _ _ _ _ fun b _ ht => alertRearm ht b) e
  | alertEnd => exact holds_of_next (alertEnd h) e
  | logRead l rest => exact holds_of_next (steadyRequest h _ _ _ _ _ fun b t => steady_ownLogRead t b) e
  | signOn l rest => exact holds_of_next (request h _ _ _ _ _ fun _ _ ht => signOn ht _) e
  | signOff l rest => exact holds_of_next (request h _ _ _ _ _ fun _ _ ht => signOff ht) e
  | wakeEnable l rest => exact holds_of_next (request h _ _ _ _ _ fun b _ ht => wakeEnable ht b) e
  | blockJudged => exact holds_of_next (blockJudged h) e
  | frameBoundary => exact holds_of_next (h.steady s.steady_frameBoundary) e
  | pollTimerExpiry => exact holds_of_next (h.steady s.steady_pollTimerExpiry) e
  | replyWindowClose => exact holds_of_next (h.steady s.steady_replyWindowClose) e
  | returnCharacter w => exact holds_of_next (h.steady (s.steady_returnCharacter w)) e
  | assemblerTake => exact holds_of_next (assemblerTake h) e
  | txSelect l rest => exact holds_of_next (steadyRequest h _ _ _ _ _ fun b t => steady_ownTxSelect t b) e
  | ceilingRestore l rest => exact holds_of_next (steadyRequest h _ _ _ _ _ fun _ _ => {}) e
  | transactionStart l => exact holds_of_next (h.steady (s.steady_transactionStart l)) e
  | readOnlyTransaction l bytes => exact holds_of_next (h.steady (s.steady_heard l bytes)) e
  | laneTimeout l => exact holds_of_next (h.steady (s.steady_laneTimeout l)) e
  | nop l rest => exact holds_of_next (request h _ _ _ _ _ fun _ _ ht => ht) e
  | statusRead l rest => exact holds_of_next (steadyRequest h _ _ _ _ _ fun b t => steady_ownStatusRead t b) e
  | eventEnable l rest => exact holds_of_next (steadyRequest h _ _ _ _ _ fun b t => steady_ownEventEnable t l b) e
  | eventClear l rest => exact holds_of_next (steadyRequest h _ _ _ _ _ fun b t => steady_ownEventClear t l b) e
  | clockWrap f => exact holds_of_next (mixIf h _ f) e
  | profileRead l rest => exact holds_of_next (steadyRequest h _ _ _ _ _ fun b t => steady_ownProfileRead t b) e
  | profileWrite l eng rest =>
    exact holds_of_next (State.transact_preserves (fun _ _ _ ht => ht.steady {}) h _ _ _ _ _ _ fun b _ ht => profileWrite ht l b) e
  | profileWriteComplete => exact holds_of_next (h.steady s.steady_profileWriteComplete) e
  | unknownRequestCode l code rest =>
    have e : execUnknownRequestCode l code rest s = .next t := e
    unfold execUnknownRequestCode at e
    split at e
    · exact holds_of_next (h.steady (s.steady_heard l _)) e
    · exact holds_of_next (State.transact_preserves (fun _ _ _ ht => ht.steady {}) h _ _ _ _ _ _ fun _ _ ht => ht) e

end

end LinesKept

/-- Settles O59: a line changes its state with its record and its place in the queue, a push holds the lines on air, a pop returns no more
than there is room for, and while an alert is on the air nothing pops its record and nothing puts a line on the air. -/
theorem everyStepKeepsTheLines : Obligations.EveryStepKeepsTheLines := by
  intro s t h stepped
  unfold step at stepped
  split at stepped
  · exact holds_of_next h stepped
  · exact LinesKept.command (h.steady {}) _ stepped

end Sys2Proof.Machine
end

section
/-! SUPPORT. The sign-on and the sign-off with no alert pending, with the statement about both (O39). -/

namespace Sys2Proof.Machine

set_option Elab.async false

/-! ### SIGN_ON -/

section
variable {s : State}

/-- The sign-on from OFF_AIR with no alert pending and the main transmitter well (R133, R135). -/
theorem State.signOn_of_offAir (off : s.air.state = .offAir) (table : s.al.table = []) (well : s.tl.mainFailed = false) :
    s.signOn true = ({ s with
      air := { s.air with state := .onAir }
      ev := s.ev.raise .airState
      tl := s.tl.commandRole s.tl.active.role .carrierOn }, .done) := by
  have up : ¬ s.tl.mainDown := fun down => Bool.eq_false_iff.mp well (Link.mainFailed_iff.mpr down)
  unfold State.signOn
  rw [off]
  dsimp only
  rw [if_pos rfl, State.announceAir_eq (s := s.setAir .onAir) up rfl, State.checkAlerts_of_empty (by exact table)]
  rfl

/-- During ALERT_WAKE a sign-on waits for the end of the alert (R135). -/
theorem State.signOn_of_alertWake (wakes : s.air.state = .alertWake) :
    s.signOn true = ({ s with air := { s.air with signOnPending := true } }, .done) := by
  unfold State.signOn; rw [wakes]; rfl

theorem State.signOn_of_onAir (onAir : s.air.state = .onAir) : s.signOn true = (s, .done) := by
  unfold State.signOn; rw [onAir]; rfl

theorem State.signOn_of_starting (starting : s.air.state = .starting) (enabled : Bool) : s.signOn enabled = (s, .badState) := by
  unfold State.signOn; rw [starting]

/-- Without its enable a sign-on is refused in every air state but STARTING (R135). -/
theorem State.signOn_of_disabled (up : s.air.state ≠ .starting) : s.signOn false = (s, .refused) := by
  unfold State.signOn
  cases state : s.air.state with
  | starting => exact absurd state up
  | offAir | onAir | alertWake => rfl

end

/-! ### SIGN_OFF -/

section
variable {s : State}

/-- Where the station is OFF_AIR no changeover follows its announcement, for its carrier is down (R133, R161). -/
theorem State.announceAir_of_offAir (off : s.air.state = .offAir) (old : AirState) :
    s.announceAir old = (s.raise .airState).carrier .carrierOff := by
  have command : carrierFor old s.air.state = some .carrierOff := by rw [off]; cases old <;> rfl
  unfold State.announceAir
  simp only [command]
  refine State.lookChangeover_of_not fun holds => ?_
  obtain ⟨-, -, up, -⟩ := (State.changeoverHolds_iff _).mp holds
  rw [show ((s.raise .airState).carrier .carrierOff).air.state = .offAir from off] at up
  exact up.elim nofun nofun

/-- The whole sign-off with no alert pending, block by block (R138). -/
theorem State.signOffNow_eq (table : s.al.table = []) : s.signOffNow = { s with
    air := { s.air with state := .offAir, monitor := { s.air.monitor with run := 0 } }
    pb := { s.pb with roster := s.pb.roster.mapWith fun _ e => e.setOff }
    sq := { s.sq.stop with breakSignal := false }
    lc := s.lc.dropAll s.ev.clock
    du := s.du.flush
    tl := s.tl.commandRole s.tl.active.role .carrierOff
    ev := (if s.lc.queue = [] then s.ev else s.ev.raise .queueChange).raise .airState } := by
  unfold State.signOffNow
  dsimp only
  cases queue : s.lc.queue <;>
  · simp only [State.setSq_lc, State.updRoster_lc, State.setAir_lc, queue]
    rw [State.announceAir_of_offAir (by rfl), State.sweep_of_empty (by exact table), State.checkAlerts_of_empty (by exact table),
      State.takeBreak_of_empty (by exact table)]
    rfl

/-- What a line is after every seized one has been dropped (R89). -/
theorem LineController.dropAll_line (c : LineController) (now : Clock) (n : LineId) :
    (c.dropAll now).lines.get n = if (c.lines.get n).seize then (c.lines.get n).enter .idle false now else c.lines.get n :=
  PerLine_get_mapWith ..

/-- The delay flushed begins to build toward its target, if it has one (R105). -/
theorem Delay.flush_eq (d : Delay) : d.flush = { d with
    store := [], lastOut := { l := 0, r := 0 }, step := 0, mode := if 0 < d.target then .building else .idle } := by
  unfold Delay.flush Delay.modeOf
  by_cases none : d.target = 0 <;> simp [none, Nat.pos_iff_ne_zero]

/-- The sign-off with no alert pending and no break opportunity signalled does what R138 says. -/
theorem State.signOffNow_signsOffTo (quiet : s.noBreakTaken) (c : PerLane Lane) : s.signsOffTo { s.signOffNow with cl := c } := by
  obtain ⟨table, silent⟩ := quiet
  unfold State.signsOffTo
  rw [State.signOffNow_eq table, Sequencer.stop_eq, Deck.pause_ite, Deck.pause_ite, Delay.flush_eq]
  refine ⟨rfl, fun src => ?entry, rfl, rfl, rfl, rfl, ?sequencer, fun n off => ?kept, fun n seized => ?dropped, rfl, rfl, rfl, rfl, rfl,
    rfl, rfl, rfl, rfl⟩
  case entry => exact PerSource_get_mapWith ..
  case sequencer => rw [← silent]; rfl
  case kept => exact (s.lc.dropAll_line s.ev.clock n).trans (if_neg (Bool.eq_false_iff.mp off))
  case dropped => exact (s.lc.dropAll_line s.ev.clock n).trans (if_pos seized)

theorem State.signOff_of_starting (starting : s.air.state = .starting) : s.signOff = (s, .badState) := if_pos starting

/-- During an alert phase, or with a record on the stack, a sign-off is turned away (R137). -/
theorem State.signOff_of_held (held : s.al.onAir ≠ none ∨ s.ps.records ≠ []) : s.signOff = (s, .badState) := by
  have holds : (s.alertActive || !s.ps.records.isEmpty) = true := by
    simpa [State.alertActive, Option.isSome_iff_ne_none] using held
  unfold State.signOff
  rw [if_pos holds, ite_self]

/-- With neither, a sign-off judges the air state alone (R137). -/
theorem State.signOff_of_free (quiet : s.al.onAir = none) (records : s.ps.records = []) (up : s.air.state ≠ .starting) :
    s.signOff = if s.air.state = .onAir then (s.signOffNow, .done) else (s, .done) := by
  have free : ¬ (s.alertActive || !s.ps.records.isEmpty) = true := by simp [State.alertActive, quiet, records]
  unfold State.signOff
  rw [if_neg up, if_neg free]

theorem State.signOff_of_offAir (quiet : s.al.onAir = none) (records : s.ps.records = []) (off : s.air.state = .offAir) :
    s.signOff = (s, .done) := by
  rw [State.signOff_of_free quiet records (by rw [off]; nofun), if_neg (by rw [off]; nofun)]

theorem State.signOff_of_onAir (quiet : s.al.onAir = none) (records : s.ps.records = []) (onAir : s.air.state = .onAir) :
    s.signOff = (s.signOffNow, .done) := by
  rw [State.signOff_of_free quiet records (by rw [onAir]; nofun), if_pos onAir]

end

/-! ### The statement -/

section
variable {s : State} {l : LaneId} {rest body : List Byte}

/-- A sign-on on a lane that asks completes in what its judgement leaves, with the code it gives. -/
theorem completes_signOn {u : State} {c : ReplyCode} (asks : s.asks l rest body) (lane : l ≠ .alr)
    (judged : (s.hearing l (0x48#8 :: rest)).signOn (l = .con || s.pf.working.wake.autSignOn) = (u, c))
    (heard : u.cl = s.lanesHeard l (0x48#8 :: rest)) :
    completes (.signOn l rest) s { u with cl := s.replied l (0x48#8 :: rest) c [] } :=
  completes_of_own asks rfl (autOrCon_of_ne_alr lane) (Nat.zero_le _) (congrArg answer judged) heard

/-- A sign-off likewise. -/
theorem completes_signOff {u : State} {c : ReplyCode} (asks : s.asks l rest body) (lane : l ≠ .alr)
    (judged : (s.hearing l (0x49#8 :: rest)).signOff = (u, c)) (heard : u.cl = s.lanesHeard l (0x49#8 :: rest)) :
    completes (.signOff l rest) s { u with cl := s.replied l (0x49#8 :: rest) c [] } :=
  completes_of_own asks rfl (autOrCon_of_ne_alr lane) (Nat.zero_le _) (congrArg answer judged) heard

/-- A sign-on judged with a code alone is turned away. -/
theorem turnedAway_signOn {c : ReplyCode} (asks : s.asks l rest body) (lane : l ≠ .alr)
    (judged : (s.hearing l (0x48#8 :: rest)).signOn (l = .con || s.pf.working.wake.autSignOn) = (s.hearing l (0x48#8 :: rest), c)) :
    turnedAway (.signOn l rest) s l (0x48#8 :: rest) c :=
  completes_signOn (u := s.hearing l (0x48#8 :: rest)) asks lane judged rfl

/-- A sign-off likewise. -/
theorem turnedAway_signOff {c : ReplyCode} (asks : s.asks l rest body) (lane : l ≠ .alr)
    (judged : (s.hearing l (0x49#8 :: rest)).signOff = (s.hearing l (0x49#8 :: rest), c)) :
    turnedAway (.signOff l rest) s l (0x49#8 :: rest) c :=
  completes_signOff (u := s.hearing l (0x49#8 :: rest)) asks lane judged rfl

end

/-- Settles O39, by the checks of `State.signOn` and of `State.signOff` in their order. -/
theorem signOnAndSignOff : Obligations.SignOnAndSignOff := by
  refine ⟨fun s l rest body asks lane => ?signOn, fun s l rest body asks lane => ?signOff⟩
  case signOn =>
    refine ⟨fun starting => ?_, fun up aut disabled => ?_, fun enabled => ?_⟩
    · exact turnedAway_signOn asks lane (State.signOn_of_starting (by exact starting) _)
    · have refused : (l = .con || s.pf.working.wake.autSignOn : Bool) = false := by simp [aut, disabled]
      exact turnedAway_signOn asks lane (by rw [refused]; exact State.signOn_of_disabled (by exact up))
    · have may : (l = .con || s.pf.working.wake.autSignOn : Bool) = true := by simpa using enabled
      have done {u : State} (judged : (s.hearing l (0x48#8 :: rest)).signOn true = (u, .done)) :=
        completes_signOn (u := u) asks lane (by rw [may]; exact judged)
      exact ⟨fun onAir => turnedAway_signOn asks lane (by rw [may]; exact State.signOn_of_onAir (by exact onAir)),
        fun wakes => done (State.signOn_of_alertWake (by exact wakes)) rfl,
        fun off table well => done (State.signOn_of_offAir (by exact off) (by exact table) (by exact well)) rfl⟩
  case signOff =>
    refine ⟨fun starting => ?_, fun held => ?_, fun quiet records off => ?_, fun quiet records onAir none => ?_⟩
    · exact turnedAway_signOff asks lane (State.signOff_of_starting (by exact starting))
    · exact turnedAway_signOff asks lane (State.signOff_of_held (by exact held))
    · exact turnedAway_signOff asks lane (State.signOff_of_offAir (by exact quiet) (by exact records) (by exact off))
    · have left : (s.hearing l (0x49#8 :: rest)).signOffNow.cl = s.lanesHeard l (0x49#8 :: rest) := by
        rw [State.signOffNow_eq (by exact none.1)]; rfl
      exact ⟨_, completes_signOff asks lane (State.signOff_of_onAir (by exact quiet) (by exact records) (by exact onAir)) left,
        State.signOffNow_signsOffTo (s := s.hearing l (0x49#8 :: rest)) none _, rfl⟩

end Sys2Proof.Machine
end

section
/-! SUPPORT. The limits of the delay (R91, R92, R96): what the operations of the unit keep of them, and which operations of the part leave
the unit alone. -/

namespace Sys2Proof.Machine

set_option Elab.async false

/-! ### A delay within its limits -/

/-- T and the pending target within 4,000 blocks, the store within its capacity, and while BUILDING fewer pairs than T. -/
structure Delay.Sound (d : Delay) : Prop where
  target : d.target ≤ 1920000
  pending : ∀ t, d.pendingTarget = some t → t ≤ 1920000
  store : d.store.length ≤ 1920000
  building : d.mode = .building → d.store.length < d.target

/-- The limits of a state are those of its delay and of its profile copies. -/
theorem State.delaySound_iff (s : State) : s.delaySound ↔ s.pf.targetsInRange ∧ s.du.Sound :=
  ⟨fun ⟨copies, target, pending, store, building⟩ => ⟨copies, target, pending, store, building⟩,
    fun ⟨copies, target, pending, store, building⟩ => ⟨copies, target, pending, store, building⟩⟩

/-- A re-evaluation makes the mode BUILDING exactly with fewer pairs held than T (R93). -/
theorem Delay.modeOf_building {held target : Nat} : Delay.modeOf held target = .building ↔ held < target := by
  rw [Delay.modeOf_eq]
  split_ifs with less <;> simp [less]

/-- A delay in a profile's range of targets, in samples (R92). -/
theorem Profile.targetInRange.samples {p : Profile} (h : p.targetInRange) : p.startTarget * 480 ≤ 1920000 :=
  Nat.mul_le_mul_right 480 h

namespace Delay.Sound

variable {d : Delay}

theorem initial {p : Profile} (h : p.targetInRange) : (Delay.initial p).Sound where
  target := h.samples
  pending := nofun
  store := Nat.zero_le _
  building := fun mode => by
    have some : p.startTarget ≠ 0 := fun none => by simp [Delay.initial, none] at mode
    show 0 < p.startTarget * 480
    omega

/-- What a re-evaluation needs of a delay that it leaves sound: all but the mode (R93). -/
theorem reevaluate (target : d.target ≤ 1920000) (pending : ∀ t, d.pendingTarget = some t → t ≤ 1920000)
    (store : d.store.length ≤ 1920000) : d.reevaluate.Sound := by
  unfold Delay.reevaluate
  split
  · rename_i frozen
    exact ⟨target, pending, store, fun mode => nomatch frozen.symm.trans mode⟩
  · dsimp only
    split
    · rename_i same
      exact ⟨target, pending, store, fun mode => Delay.modeOf_building.mp (same.trans mode)⟩
    · exact ⟨target, pending, store, Delay.modeOf_building.mp⟩

section
variable (h : d.Sound)
include h

theorem setTarget (blocks : Nat) : (d.setTarget blocks).Sound := by
  have inRange : min blocks 4000 * 480 ≤ 1920000 := Nat.mul_le_mul_right 480 (Nat.min_le_right _ _)
  unfold Delay.setTarget
  dsimp only
  split
  · exact ⟨h.target, fun t some => Option.some.inj some ▸ inRange, h.store, h.building⟩
  · exact reevaluate (d := { d with target := min blocks 4000 * 480 }) inRange h.pending h.store

theorem load {p : Profile} (inRange : p.targetInRange) : (d.load p.startTarget).Sound :=
  reevaluate (d := { d with target := p.startTarget * 480 }) inRange.samples h.pending h.store

theorem dump (amount : Nat) : (d.dump amount).Sound :=
  reevaluate (d := { d with store := d.store.drop amount, dumps := countUp d.dumps }) h.target h.pending
    (by simpa using (Nat.sub_le ..).trans h.store)

theorem freeze : d.freeze.Sound := ⟨h.target, h.pending, h.store, nofun⟩

theorem unfreeze : d.unfreeze.Sound where
  target := by
    show d.pendingTarget.getD d.target ≤ 1920000
    cases some : d.pendingTarget with
    | none => exact h.target
    | some t => exact h.pending t some
  pending := nofun
  store := h.store
  building := Delay.modeOf_building.mp

theorem flush : d.flush.Sound := ⟨h.target, h.pending, Nat.zero_le _, Delay.modeOf_building.mp⟩

/-- An exchange takes as many pairs as it brings, or more, but at a build step, which finds fewer than T (R95, R96). -/
theorem run (divisor : Nat) (p : Pair) : (d.run divisor p).Sound := by
  refine reevaluate h.target h.pending ?_
  show ((d.store ++ [p]).drop (d.removed divisor)).length ≤ 1920000
  rw [List.length_drop, List.length_append, List.length_singleton]
  have store := h.store
  by_cases building : d.mode = .building
  · have room := h.building building
    have target := h.target
    omega
  · have removed : 1 ≤ d.removed divisor := by
      unfold Delay.removed
      rw [if_neg building]
      split <;> omega
    omega

theorem exchange (air : AirState) (divisor : Nat) (p : Pair) : (d.exchange air divisor p).Sound := by
  unfold Delay.exchange
  split
  · exact ⟨h.target, h.pending, h.store, h.building⟩
  · split
    · exact ⟨h.target, h.pending, h.store, h.building⟩
    · exact h.run divisor p

end

end Delay.Sound

/-! ### Operations that leave the delay alone -/

section
variable (s : State)

@[simp] theorem State.lookChangeover_du : s.lookChangeover.du = s.du := by unfold State.lookChangeover; split <;> rfl

@[simp] theorem State.announceAir_du (old : AirState) : (s.announceAir old).du = s.du := by
  unfold State.announceAir
  rw [State.lookChangeover_du]
  split <;> rfl

@[simp] theorem State.wake_du : s.wake.du = s.du := by
  unfold State.wake
  split
  · exact State.announceAir_du _ _
  · rfl

@[simp] theorem State.endWake_du : s.endWake.du = s.du := by
  unfold State.endWake
  split
  · split
    · exact State.announceAir_du _ _
    · exact State.announceAir_du (s.setAir .offAir) _
  · rfl

@[simp] theorem State.attentionEnd_du : s.attentionEnd.du = s.du := by
  unfold State.attentionEnd; (repeat' split) <;> rfl

@[simp] theorem State.messageTruncated_du : s.messageTruncated.du = s.du := by
  unfold State.messageTruncated; (repeat' split) <;> rfl

@[simp] theorem State.leaveQueue_du (n : LineId) : (s.leaveQueue n).du = s.du := by unfold State.leaveQueue; split <;> rfl

@[simp] theorem State.dropLine_du (n : LineId) : (s.dropLine n).du = s.du := by
  unfold State.dropLine
  dsimp only
  split <;> simp

@[simp] theorem State.ringArmed_du (n : LineId) : (s.ringArmed n).du = s.du := by unfold State.ringArmed; dsimp only; split <;> rfl

@[simp] theorem State.ringBurst_du (n : LineId) : (s.ringBurst n).du = s.du := by
  unfold State.ringBurst; dsimp only; (repeat' split) <;> rfl

@[simp] theorem State.ringExpiry_du (n : LineId) : (s.ringExpiry n).du = s.du := by
  unfold State.ringExpiry; (repeat' split) <;> rfl

@[simp] theorem State.loopLoss_du (n : LineId) : (s.loopLoss n).du = s.du := by unfold State.loopLoss; split <;> simp

@[simp] theorem State.holdLong_du (n : LineId) : (s.holdLong n).du = s.du := by unfold State.holdLong; split <;> rfl

@[simp] theorem State.settleLines_du : s.settleLines.du = s.du :=
  foldl_state_keeps (·.du) _ (fun t n => by simp [State.settleLine]) _ s

@[simp] theorem State.replyWindowClose_du : s.replyWindowClose.du = s.du := by
  unfold State.replyWindowClose
  split
  · split
    · dsimp only
      split <;> simp
    · rfl
  · rfl

@[simp] theorem State.pollTimerExpiry_du : s.pollTimerExpiry.du = s.du := by unfold State.pollTimerExpiry; split <;> rfl

@[simp] theorem State.frameBoundary_du : s.frameBoundary.du = s.du := by unfold State.frameBoundary; split <;> rfl

@[simp] theorem State.returnCharacter_du (w : Waveform) : (s.returnCharacter w).du = s.du := by
  unfold State.returnCharacter State.receive; dsimp only; (repeat' split) <;> rfl

@[simp] theorem State.checkReflect_du (u : UnitId) (st : UnitStatus) : (s.checkReflect u st).du = s.du := by
  unfold State.checkReflect; (repeat' split) <;> rfl

@[simp] theorem State.transactionStart_du (l : LaneId) : (s.transactionStart l).du = s.du := by
  unfold State.transactionStart; (repeat' split) <;> rfl

@[simp] theorem State.laneTimeout_du (l : LaneId) : (s.laneTimeout l).du = s.du := by unfold State.laneTimeout; split <;> rfl

@[simp] theorem State.profileWriteComplete_du : s.profileWriteComplete.du = s.du := by
  unfold State.profileWriteComplete; (repeat' split) <;> rfl

end

end Sys2Proof.Machine
end

section
/-! SUPPORT. Every command keeps the delay within its limits (O58): what freezes, unfreezes, flushes or loads it, and what reaches it not
at all. -/

namespace Sys2Proof.Machine

set_option Elab.async false

/-! ### What the owners of the sequencer's requests do -/

/-- An owner answers from the state as it is, or once it has changed the sequencer and the roster entries and taken the break opportunity
that this gives (R47). -/
def Answer.Sequences (a : Answer) (s : State) : Prop := a.state = s ∨ ∃ t, s.Within (fun _ => True) t ∧ a.state = t.takeBreak

section
variable (s : State) (body : List Byte)

theorem Answer.sequences_reply (c : ReplyCode) : (s.reply c).Sequences s := .inl rfl

theorem Answer.sequences_doneThenBreak {s t : State} (k : s.Within (fun _ => True) t) : t.done.thenBreak.Sequences s :=
  .inr ⟨t, k, rfl⟩

theorem ownSeqAppend_sequences : (ownSeqAppend body s).Sequences s := by
  unfold ownSeqAppend
  split
  · exact .inl rfl
  · split
    · exact .inl rfl
    · exact Answer.sequences_doneThenBreak (.review (fun _ => trivial) (.setSq (.refl s) _) false)

theorem ownSeqInsert_sequences : (ownSeqInsert body s).Sequences s := by
  unfold ownSeqInsert
  split
  · split
    · exact .inl rfl
    · split
      · exact .inl rfl
      · split
        · exact Answer.sequences_doneThenBreak
            (.review (fun _ => trivial) (.recue (fun _ => trivial) (.setSq (.refl s) _) _ _) false)
        · exact .inl rfl
  · exact .inl rfl

theorem ownSeqRemove_sequences : (ownSeqRemove body s).Sequences s := by
  unfold ownSeqRemove
  split
  · split
    · split
      · exact .inl rfl
      · exact Answer.sequences_doneThenBreak (.review (fun _ => trivial) (.removeItem (fun _ => trivial) (.refl s) _) false)
    · exact .inl rfl
  · exact .inl rfl

theorem ownSeqReady_sequences : (ownSeqReady body s).Sequences s := by
  unfold ownSeqReady
  split
  · split
    · exact .inl rfl
    · split
      · split
        · exact Answer.sequences_doneThenBreak (.review (fun _ => trivial) (.setDeck (.refl s) _ _) true)
        · exact .inl rfl
        · exact .inl rfl
      · exact .inl rfl
  · exact .inl rfl

theorem ownSeqStart_sequences : (ownSeqStart body s).Sequences s := by
  unfold ownSeqStart
  split
  · exact .inl rfl
  · split
    · exact .inl rfl
    · exact Answer.sequences_doneThenBreak (.startSequence (fun _ => trivial) (.refl s))

theorem ownSeqStop_sequences : (ownSeqStop body s).Sequences s := by
  unfold ownSeqStop
  split
  · exact .inl rfl
  · split
    · exact .inl rfl
    · exact Answer.sequences_doneThenBreak (.setSq (.refl s) _)

theorem ownSeqSkip_sequences : (ownSeqSkip body s).Sequences s := by
  unfold ownSeqSkip
  split
  · exact .inl rfl
  · split
    · exact .inl rfl
    · exact Answer.sequences_doneThenBreak (.skipPlaying (fun _ => trivial) (.refl s) _ _ _)
    · exact Answer.sequences_doneThenBreak (.skipWaiting (fun _ => trivial) (.refl s) _)

theorem ownSeqContinue_sequences : (ownSeqContinue body s).Sequences s := by
  unfold ownSeqContinue
  split
  · exact Answer.sequences_doneThenBreak (.continueSequence (fun _ => trivial) (.refl s))
  · exact .inl rfl

end

/-! ### Owners that leave the delay alone -/

section
variable (s : State) (l : LaneId) (body : List Byte)

theorem ownDoneRead_du : (ownDoneRead body s).state.du = s.du := by unfold ownDoneRead; split <;> rfl

theorem ownSourceGain_du : (ownSourceGain l body s).state.du = s.du := by unfold ownSourceGain; (repeat' split) <;> rfl

theorem ownTurn_du (still : EntryState) (f : Nat → Entry → Entry) : (ownTurn still f l body s).state.du = s.du := by
  unfold ownTurn; (repeat' split) <;> rfl

theorem ownSourceTake_du : (ownSourceTake body s).state.du = s.du := by unfold ownSourceTake; (repeat' split) <;> rfl

theorem ownSourceRelease_du : (ownSourceRelease body s).state.du = s.du := by unfold ownSourceRelease; (repeat' split) <;> rfl

/-- A line request leaves what its owner leaves of every line. -/
theorem onLine_keeps {β : Type} (P : State → β) {own : LineId → State → Answer} (ho : ∀ n, P (own n s).state = P s) :
    P (onLine own body s).state = P s := by
  unfold onLine
  split
  · split
    · rfl
    · exact ho _
  · rfl

theorem ownLineAnswer_du (n : LineId) : (ownLineAnswer n s).state.du = s.du := by unfold ownLineAnswer; split <;> rfl

theorem ownLineScreen_du (n : LineId) : (ownLineScreen n s).state.du = s.du := by unfold ownLineScreen; split <;> simp

theorem ownLineHold_du (n : LineId) : (ownLineHold n s).state.du = s.du := by unfold ownLineHold; (repeat' split) <;> rfl

theorem ownLineReady_du (front : Bool) (n : LineId) : (ownLineReady front n s).state.du = s.du := by
  unfold ownLineReady; split <;> rfl

theorem ownLineAir_du : (ownLineAir body s).state.du = s.du := by
  unfold ownLineAir State.putOnAir; (repeat' split) <;> simp

theorem ownLineDrop_du (n : LineId) : (ownLineDrop n s).state.du = s.du := by unfold ownLineDrop; split <;> simp

theorem ownAlertAudioEnd_du : (ownAlertAudioEnd body s).state.du = s.du := by
  unfold ownAlertAudioEnd State.audioEnd; (repeat' split) <;> rfl

theorem ownLogRead_du : (ownLogRead body s).state.du = s.du := by unfold ownLogRead; (repeat' split) <;> rfl

theorem ownTxSelect_du : (ownTxSelect body s).state.du = s.du := by
  unfold ownTxSelect State.txSelect; (repeat' split) <;> rfl

theorem ownStatusRead_du : (ownStatusRead body s).state.du = s.du := by unfold ownStatusRead; (repeat' split) <;> rfl

theorem ownEventEnable_du : (ownEventEnable l body s).state.du = s.du := by unfold ownEventEnable; split <;> rfl

theorem ownEventClear_du : (ownEventClear l body s).state.du = s.du := by unfold ownEventClear; split <;> rfl

theorem ownProfileRead_du : (ownProfileRead body s).state.du = s.du := by unfold ownProfileRead; split <;> simp

end

/-! ### Pushes, pops and what follows them -/

namespace DelayKept

section
variable {s : State} (h : s.du.Sound)
include h

/-- The push of an ALERT freezes the delay, and no other reaches it (R55, R102). -/
theorem push (c : Cause) : (s.push c).du.Sound := by
  rw [State.push_eq]
  cases c with
  | alert => exact h.freeze
  | breakIn | failover | remoteFallback => exact h

/-- The pop of an ALERT's record unfreezes the delay, and no other reaches it (R67, R104). -/
theorem pop (taker : ResumeBy) (k : ResumeKind) : (s.pop taker k).du.Sound := by
  unfold State.pop
  split
  · exact h
  · rename_i r rest _
    have popped : (s.popped r rest taker k).du = s.du := (s.popped_within r rest taker k).du
    rw [(s.popRecord_after_delay rest taker k).du]
    unfold State.restoreDelay
    rw [popped]
    split
    · rw [State.endWake_du]
      exact h.unfreeze
    · exact popped ▸ h

theorem takeAir (p : PendingAlert) (rest : List PendingAlert) : (s.takeAir p rest).du.Sound := by
  have attending : (s.attending p rest).du.Sound := (congrArg Delay.Sound s.wake_du).mpr h
  exact push attending .alert

theorem checkAlerts : s.checkAlerts.du.Sound := by
  unfold State.checkAlerts
  split
  · exact h
  · split
    · exact takeAir h _ _
    · exact h

theorem breakOpportunity : s.breakOpportunity.du.Sound := by
  unfold State.breakOpportunity
  split
  · exact h
  · split
    · exact takeAir h _ _
    · exact h

theorem takeBreak : s.takeBreak.du.Sound := by
  unfold State.takeBreak
  split
  · exact breakOpportunity (s := s.setSq _) h
  · exact h

/-- What the sequencer makes of a state, with the break opportunity it gives (R47). -/
theorem takeBreak_within {t : State} (k : s.Within (fun _ => True) t) : t.takeBreak.du.Sound := takeBreak (k.du ▸ h)

/-! ### The alert unit -/

theorem enterTable (p : PendingAlert) : (s.enterTable p).1.du.Sound := by
  unfold State.enterTable
  split
  · exact checkAlerts (s := State.raise _ .alertPending) h
  · split
    · exact h
    · split
      · exact checkAlerts (s := State.raise _ .alertPending) h
      · exact h

theorem notice (n : Notice) : (s.notice n).1.du.Sound := by
  have entered := enterTable (s := s.setAl { s.al with noticeCounter := s.al.noticeCounter + 1#32 }) h
  unfold State.notice
  split
  · exact h
  · dsimp only
    split
    · exact h
    · split
      · exact h
      · split
        · split
          · exact h
          · exact entered _
        · exact entered _

theorem windowExpiry (id : Nat) : (s.windowExpiry id).du.Sound := by
  unfold State.windowExpiry
  split
  · exact checkAlerts (s := s.setAl _) h
  · exact h

theorem endAlert (o : OnAirAlert) : (s.endAlert o).du.Sound := by
  have popped : ((s.closed o).pop .alertUnit s.pf.working.afterAlert).du.Sound := pop (s := s.closed o) h _ _
  exact takeBreak (checkAlerts (s := State.raise _ .alertDone) popped)

theorem alertEnd : s.alertEnd.du.Sound := by
  unfold State.alertEnd
  split
  · split
    · exact endAlert h _
    · exact h
  · exact h

theorem cancel (id : Nat) : (s.cancel id).state.du.Sound := by
  unfold State.cancel
  split
  · exact checkAlerts (s := s.setAl _) h
  · split
    · unfold State.cancelOnAir
      split
      · exact h
      · exact h
    · exact h
  · exact h

/-! ### The air state block -/

theorem signOn (enabled : Bool) : (s.signOn enabled).1.du.Sound := by
  unfold State.signOn
  split
  · exact h
  · split <;> exact h
  · split <;> exact h
  · split
    · exact checkAlerts ((congrArg Delay.Sound ((s.setAir .onAir).announceAir_du .offAir)).mpr h)
    · exact h

/-- A sign-off flushes the delay (R105, R138). -/
theorem signOffNow : s.signOffNow.du.Sound := by
  unfold State.signOffNow
  refine takeBreak (checkAlerts ?_)
  rw [State.sweep_du, State.announceAir_du, State.setDu_du, State.raiseIf_du]
  exact h.flush

theorem signOff : s.signOff.1.du.Sound := by
  unfold State.signOff
  split
  · exact h
  · split
    · exact h
    · split
      · exact signOffNow h
      · exact h

theorem wakeChanged : s.wakeChanged.du.Sound := by
  unfold State.wakeChanged
  split
  · exact checkAlerts (s := s.sweep) h
  · exact h

theorem enterStartState (st : StartState) : (s.enterStartState st).du.Sound := by
  have announced : ((s.setAir st.air).announceAir .starting).du.Sound :=
    (congrArg Delay.Sound ((s.setAir st.air).announceAir_du .starting)).mpr h
  unfold State.enterStartState
  dsimp only
  split
  · exact checkAlerts (s := State.sweep _) announced
  · exact checkAlerts announced

theorem startDelayExpiry : s.startDelayExpiry.du.Sound := by
  unfold State.startDelayExpiry
  split
  · exact enterStartState (s := { s with air := { s.air with startTimer := none } }) h _
  · exact h

theorem judgeBlock : s.judgeBlock.du.Sound := by
  unfold State.judgeBlock
  dsimp only
  split
  · split
    · exact takeBreak (s := State.raise _ .failover) (push h .failover)
    · rw [State.raiseIf_du]; exact h
  · exact h

theorem blockJudged : s.blockJudged.du.Sound := by
  unfold State.blockJudged
  split
  · dsimp only
    split
    · exact judgeBlock h
    · exact h
  · exact h

/-! ### The link and the profile store -/

theorem remoteFallback : s.remoteFallback.du.Sound := by
  unfold State.remoteFallback
  split
  · exact h
  · exact takeBreak (push h .remoteFallback)

omit h in
theorem remoteJudged {r : State × ReplyCode} (h : r.1.du.Sound) : (remoteJudged r).du.Sound := by
  unfold Machine.remoteJudged
  split <;> exact h

theorem remoteRequest (code : Byte) : (s.remoteRequest code).du.Sound := by
  unfold State.remoteRequest
  split
  · exact remoteFallback h
  · exact remoteJudged (signOff h)
  · exact remoteJudged (signOn h _)
  · exact h
  · exact h
  · exact h

theorem judgeRequest (u : UnitId) (code : Byte) : (s.judgeRequest u code).du.Sound := by
  unfold State.judgeRequest
  dsimp only
  split
  · exact remoteRequest h code
  · exact h

theorem judgeMessage (m : Assembly) : (s.judgeMessage m).du.Sound := by
  unfold State.judgeMessage
  split
  · have reflected : ∀ l, ((s.setTl l).checkReflect m.unit m.status).du.Sound := fun l =>
      (congrArg Delay.Sound ((s.setTl l).checkReflect_du m.unit m.status)).mpr h
    unfold State.acceptMessage
    rw [State.lookChangeover_du]
    exact judgeRequest (reflected _) _ _
  · exact h

theorem assemblerTake : s.assemblerTake.du.Sound := by
  have linked : ∀ l, (s.setTl l).du.Sound := fun _ => h
  unfold State.assemblerTake
  split
  · exact h
  · split
    · exact h
    · dsimp only
      split
      · exact judgeMessage (linked _) _
      · exact h

theorem fieldWritten (f : Field) : (s.fieldWritten f).du.Sound := by
  unfold State.fieldWritten
  split
  · rw [State.lookChangeover_du]; exact h
  · rw [State.lookChangeover_du]; exact h
  · exact wakeChanged h
  · exact h

/-! ### Settling -/

theorem settleSequencer : s.settleSequencer.du.Sound := by
  have fades : s.Within (fun _ => True) ((s.fadeOutPoint .a).fadeOutPoint .b) :=
    .fadeOutPoint (fun _ => trivial) (.fadeOutPoint (fun _ => trivial) (.refl s) .a) .b
  have faded : ((s.fadeOutPoint .a).fadeOutPoint .b).du.Sound := fades.du ▸ h
  have segued := takeBreak_within faded (.seguePoint (fun _ => trivial) (.refl _))
  have ended : ∀ {u : State} (d : DeckId), u.du.Sound → (u.itemEndEvent d).du.Sound := fun d hu =>
    takeBreak_within hu (.itemEnd (fun _ => trivial) (.refl _) d)
  exact ended .b (ended .a segued)

theorem settleAlert : s.settleAlert.du.Sound := by
  have phases : s.attentionEnd.messageTruncated.du.Sound := by simpa using h
  exact foldl_preserves (I := fun t => t.du.Sound) (fun _ id ht => windowExpiry ht id) _ (alertEnd phases)

end

end DelayKept

end Sys2Proof.Machine
end

section
/-! SUPPORT. The step of the delay's limits (O58): the profile copies, whose start target a load gives to the delay, and every command. -/

namespace Sys2Proof.Machine

set_option Elab.async false

/-! ### Profile copies in range (R185, R187) -/

theorem factory_targetInRange : factory.targetInRange := Nat.zero_le _

/-- A value written is clamped, and only the start target's field is written there (R187). -/
theorem Profile.targetInRange.write {p : Profile} (h : p.targetInRange) (v : List Byte) (f : Field) :
    (f.write v p).targetInRange := by
  cases f with
  | startTarget =>
    show max 0 (min 4000 (numberOf v)) ≤ 4000
    omega
  | _ => exact h

namespace ProfileStore.targetsInRange

variable {p : ProfileStore} (h : p.targetsInRange)
include h

theorem loaded : p.loaded.targetInRange := by
  unfold ProfileStore.loaded
  split
  · exact h.2.1
  · exact factory_targetInRange

theorem tick : p.tick.targetsInRange := by
  obtain ⟨working, stored, image⟩ := h
  refine ⟨working, stored, fun w some => ?_⟩
  obtain ⟨w, writing, rfl⟩ := Option.map_eq_some_iff.mp some
  exact image w writing

theorem begin (f : Field) (v : List Byte) : (p.begin f v).targetsInRange := by
  obtain ⟨working, stored, -⟩ := h
  refine ⟨working.write v f, stored, fun w some => ?_⟩
  cases some
  show (if p.valid then f.write v p.stored else f.write v p.working).targetInRange
  split
  · exact stored.write v f
  · exact working.write v f

end ProfileStore.targetsInRange

/-! ### Changes of the store and of the delay -/

namespace State.delaySound

variable {s t : State}

theorem profile (h : s.delaySound) : s.pf.targetsInRange := h.1

theorem unit (h : s.delaySound) : s.du.Sound := ((State.delaySound_iff s).mp h).2

/-- A change that leaves the profile store and keeps the delay within its limits. -/
theorem of_du (h : s.delaySound) (du : s.du.Sound → t.du.Sound) (pf : t.pf = s.pf := by simp) : t.delaySound :=
  (State.delaySound_iff t).mpr ⟨pf ▸ h.profile, du h.unit⟩

/-- A change that reaches neither. -/
theorem frame (h : s.delaySound) (du : t.du = s.du := by simp) (pf : t.pf = s.pf := by simp) : t.delaySound :=
  h.of_du (fun sound => du ▸ sound) pf

/-- A profile store replaced. -/
theorem setPf (h : s.delaySound) {p : ProfileStore} (copies : p.targetsInRange) : (s.setPf p).delaySound :=
  (State.delaySound_iff _).mpr ⟨copies, h.unit⟩

section
variable (h : s.delaySound)
include h

/-- The image written is one of the copies in range (R187). -/
theorem profileWriteComplete : s.profileWriteComplete.delaySound := by
  unfold State.profileWriteComplete
  split
  · rename_i w writing
    obtain ⟨working, -, image⟩ := h.profile
    have copies : ({ s.pf with stored := w.image, valid := true, write := none } : ProfileStore).targetsInRange :=
      ⟨working, image w writing, fun _ none => (Option.some_ne_none _ none.symm).elim⟩
    split
    · exact frame (h.setPf copies)
    · exact h
  · exact h

/-- The delay takes its target from the copy loaded (R188). -/
theorem profileLoadComplete : s.profileLoadComplete.delaySound := by
  unfold State.profileLoadComplete
  split
  · have loaded := h.profile.loaded
    obtain ⟨-, stored, image⟩ := h.profile
    have copies : (s.setPf { s.pf with working := s.pf.loaded, load := none }).delaySound := h.setPf ⟨loaded, stored, image⟩
    have raised : ((s.setPf { s.pf with working := s.pf.loaded, load := none }).raiseIf (!s.pf.valid) .profileDefaulted).delaySound :=
      copies.frame
    exact raised.of_du (·.load loaded) rfl
  · exact h

theorem profileWrite (l : LaneId) (body : List Byte) : (State.profileWrite l body s).1.delaySound := by
  unfold State.profileWrite
  split
  · split
    · exact h
    · split
      · exact h
      · split
        · exact h
        · rename_i f _
          split
          · have begun : ∀ v, (s.setPf (s.pf.begin f v)).delaySound := fun v => h.setPf (h.profile.begin f v)
            exact (begun _).of_du (DelayKept.fieldWritten · f)
          · exact h
  · exact h

theorem wakeEnable (body : List Byte) : (ownWakeEnable body s).state.delaySound := by
  have written : ∀ w, (s.setPf { s.pf with working := { s.pf.working with wake := w } }).delaySound := fun _ => h.setPf h.profile
  unfold ownWakeEnable
  split
  · exact (written _).of_du DelayKept.wakeChanged
  · exact h

/-- Every block anew; the delay from the copy that the reset loads (R189). -/
theorem globalReset : s.globalReset.delaySound := by
  have loaded := h.profile.loaded
  obtain ⟨-, stored, image⟩ := h.profile
  have blocks : s.resetBlocks.delaySound := by
    refine (State.delaySound_iff _).mpr ⟨?_, .initial loaded⟩
    have store : s.resetBlocks.pf = s.pf.globalReset := by unfold State.resetBlocks; exact State.raiseIf_pf ..
    rw [store]
    exact ⟨loaded, stored, image⟩
  exact (blocks.frame (t := s.resetBlocks.setTl (s.resetBlocks.tl.returnToMain s.tl.active))).of_du
    (DelayKept.enterStartState · _) (State.enterStartState_pf _ _)

theorem powerOn (rst supply : Bool) : (s.powerOn rst supply).delaySound :=
  (State.delaySound_iff _).mpr ⟨⟨factory_targetInRange, h.profile.2.1, fun _ none => (Option.some_ne_none _ none.symm).elim⟩,
    .initial factory_targetInRange⟩

/-! ### The mix -/

theorem settleStart : s.settleStart.delaySound :=
  h.profileWriteComplete.profileLoadComplete.of_du DelayKept.startDelayExpiry (State.startDelayExpiry_pf _)

theorem settleLink : s.settleLink.delaySound :=
  (h.frame (t := s.replyWindowClose.pollTimerExpiry.frameBoundary)).of_du DelayKept.assemblerTake (State.assemblerTake_pf _)

theorem settle : s.settle.delaySound := by
  have released : s.settleStart.settleRoster.delaySound := h.settleStart.frame rfl
  have judged := ((released.of_du DelayKept.settleSequencer).of_du DelayKept.settleAlert).of_du DelayKept.blockJudged
  have lines := judged.frame (State.settleLines_du _) (State.settleLines_pf _)
  exact lines.settleLink.frame (by simp [State.settle, State.settleLanes]) (State.settleLanes_pf _)

/-- A sample period is one exchange of the delay, and one period less of a write in progress (R17, R95, R187). -/
theorem mixPeriod (f : InputFrame) : (s.mixPeriod f).delaySound :=
  (State.delaySound_iff _).mpr ⟨h.profile.tick, s.mixPeriod_du f ▸ h.unit.exchange ..⟩

theorem mix (f : InputFrame) : (s.mix f).delaySound := by
  unfold State.mix
  split
  · exact h
  · exact h.settle.mixPeriod f

theorem mixIf (c : Prop) [Decidable c] (f : InputFrame) : (if c then s.mix f else s).delaySound := by
  split
  · exact h.mix f
  · exact h

/-! ### Requests -/

section
variable (l : LaneId) (code : Byte) (rest : List Byte) (allowed : Bool) (need : Nat) {own : List Byte → State → Answer}

theorem requestKept (ho : ∀ b t, State.delaySound t → (own b t).state.delaySound) :
    (s.request l code rest allowed need own).delaySound :=
  State.request_preserves (fun _ _ _ ht => ht.frame) h l code rest allowed need ho

/-- A request whose owner leaves the profile store and keeps the delay within its limits. -/
theorem request (du : ∀ b (t : State), t.du.Sound → (own b t).state.du.Sound) (pf : ∀ b t, (own b t).state.pf = t.pf := by simp) :
    (s.request l code rest allowed need own).delaySound :=
  h.requestKept l code rest allowed need fun b t ht => ht.of_du (du b t) (pf b t)

/-- A request whose owner reaches neither. -/
theorem requestAside (du : ∀ b t, (own b t).state.du = t.du) (pf : ∀ b t, (own b t).state.pf = t.pf := by simp) :
    (s.request l code rest allowed need own).delaySound :=
  h.request l code rest allowed need (fun b t sound => du b t ▸ sound) pf

/-- A line request whose owner reaches neither. -/
theorem requestLine {own : List Byte → LineId → State → Answer} (du : ∀ b n t, (own b n t).state.du = t.du)
    (pf : ∀ b n t, (own b n t).state.pf = t.pf := by simp) :
    (s.request l code rest allowed need fun b => onLine (own b) b).delaySound :=
  h.requestAside l code rest allowed need (fun b t => onLine_keeps t b (·.du) (du b · t)) fun b t => onLine_keeps t b (·.pf) (pf b · t)

/-- A request taken by the sequencer (R47). -/
theorem requestSequencer (sequences : ∀ b t, (own b t).Sequences t) (pf : ∀ b t, (own b t).state.pf = t.pf := by simp) :
    (s.request l code rest allowed need own).delaySound := by
  refine h.request l code rest allowed need (fun b t sound => ?_) pf
  rcases sequences b t with same | ⟨u, within, taken⟩
  · rw [same]; exact sound
  · rw [taken]; exact DelayKept.takeBreak_within sound within

end

end

end State.delaySound

/-! ### The owners that may reach the delay -/

section
variable {s : State} (h : s.du.Sound) (body : List Byte)
include h

theorem DelayKept.delayTarget : (ownDelayTarget body s).state.du.Sound := by
  unfold ownDelayTarget
  split
  · exact h.setTarget _
  · exact h

theorem DelayKept.delayDump : (ownDelayDump body s).state.du.Sound := by
  unfold ownDelayDump
  split
  · exact h
  · exact h.dump _

theorem DelayKept.breakIn : (ownBreakIn body s).state.du.Sound := by
  unfold ownBreakIn
  split
  · exact h
  · exact DelayKept.takeBreak (DelayKept.push h .breakIn)

theorem DelayKept.resume (l : LaneId) : (ownResume l body s).state.du.Sound := by
  unfold ownResume
  split
  · split
    · exact h
    · exact h
    · split
      · exact DelayKept.takeBreak (DelayKept.pop h _ _)
      · exact h
  · exact h

theorem DelayKept.alertNotice : (ownAlertNotice body s).state.du.Sound := by
  unfold ownAlertNotice
  split
  · exact h
  · exact DelayKept.notice h _

theorem DelayKept.alertCancel : (ownAlertCancel body s).state.du.Sound := by
  unfold ownAlertCancel
  split
  · exact DelayKept.cancel h _
  · exact h

theorem DelayKept.alertRearm : (ownAlertRearm body s).state.du.Sound := by
  unfold ownAlertRearm
  split
  · exact h
  · exact DelayKept.checkAlerts (s := s.setAl _) h

end

/-! ### The step -/

/-- Every command keeps the delay within its limits. -/
theorem State.delaySound.command {s t : State} (h : s.delaySound) (c : Instr) (e : exec c s = .next t) : t.delaySound := by
  cases c with
  | powerOn rst supply => exact holds_of_next (h.powerOn rst supply) e
  | profileLoadComplete => exact holds_of_next h.profileLoadComplete e
  | startDelayExpiry => exact holds_of_next (h.of_du DelayKept.startDelayExpiry) e
  | globalReset l rest => exact holds_of_next (h.requestKept l _ rest _ _ fun _ _ ht => ht.globalReset) e
  | mix f => exact holds_of_next (h.mix f) e
  | releaseRampEnd src => exact holds_of_next (h.frame (t := s.releaseRampEnd src) rfl) e
  | buildStep f => exact holds_of_next (h.mixIf _ f) e
  | catchUpStep f => exact holds_of_next (h.mixIf _ f) e
  | fadeOutPoint d =>
    exact holds_of_next (h.frame (State.Within.fadeOutPoint (T := fun _ => True) (fun _ => trivial) (.refl s) d).du) e
  | seguePoint =>
    exact holds_of_next (h.of_du fun sound => DelayKept.takeBreak_within sound (.seguePoint (fun _ => trivial) (.refl s))) e
  | itemEnd d =>
    exact holds_of_next (h.of_du fun sound => DelayKept.takeBreak_within sound (.itemEnd (fun _ => trivial) (.refl s) d)) e
  | seqAppend l rest => exact holds_of_next (h.requestSequencer l _ rest _ _ fun b t => ownSeqAppend_sequences t b) e
  | seqInsert l rest => exact holds_of_next (h.requestSequencer l _ rest _ _ fun b t => ownSeqInsert_sequences t b) e
  | seqRemove l rest => exact holds_of_next (h.requestSequencer l _ rest _ _ fun b t => ownSeqRemove_sequences t b) e
  | seqReady l rest => exact holds_of_next (h.requestSequencer l _ rest _ _ fun b t => ownSeqReady_sequences t b) e
  | seqStart l rest => exact holds_of_next (h.requestSequencer l _ rest _ _ fun b t => ownSeqStart_sequences t b) e
  | seqStop l rest => exact holds_of_next (h.requestSequencer l _ rest _ _ fun b t => ownSeqStop_sequences t b) e
  | seqSkip l rest => exact holds_of_next (h.requestSequencer l _ rest _ _ fun b t => ownSeqSkip_sequences t b) e
  | seqContinue l rest => exact holds_of_next (h.requestSequencer l _ rest _ _ fun b t => ownSeqContinue_sequences t b) e
  | doneRead l rest => exact holds_of_next (h.requestAside l _ rest _ _ fun b t => ownDoneRead_du t b) e
  | sourceGain l rest => exact holds_of_next (h.requestAside l _ rest _ _ fun b t => ownSourceGain_du t l b) e
  | sourceOn l rest => exact holds_of_next (h.requestAside l _ rest _ _ fun b t => ownSourceOn_eq l ▸ ownTurn_du t l b _ _) e
  | sourceOff l rest => exact holds_of_next (h.requestAside l _ rest _ _ fun b t => ownSourceOff_eq l ▸ ownTurn_du t l b _ _) e
  | sourceTake l rest => exact holds_of_next (h.requestAside l _ rest _ _ fun b t => ownSourceTake_du t b) e
  | sourceRelease l rest => exact holds_of_next (h.requestAside l _ rest _ _ fun b t => ownSourceRelease_du t b) e
  | breakIn l rest => exact holds_of_next (h.request l _ rest _ _ fun b _ sound => DelayKept.breakIn sound b) e
  | resume l rest => exact holds_of_next (h.request l _ rest _ _ fun b _ sound => DelayKept.resume sound b l) e
  | lineAnswer l rest => exact holds_of_next (h.requestLine l _ rest _ _ fun _ n t => ownLineAnswer_du t n) e
  | lineScreen l rest => exact holds_of_next (h.requestLine l _ rest _ _ fun _ n t => ownLineScreen_du t n) e
  | lineHold l rest => exact holds_of_next (h.requestLine l _ rest _ _ fun _ n t => ownLineHold_du t n) e
  | lineReady l rest => exact holds_of_next (h.requestLine l _ rest _ _ fun _ n t => ownLineReady_du t _ n) e
  | lineAir l rest => exact holds_of_next (h.requestAside l _ rest _ _ fun b t => ownLineAir_du t b) e
  | lineDrop l rest => exact holds_of_next (h.requestLine l _ rest _ _ fun _ n t => ownLineDrop_du t n) e
  | ringFilterArmed n => exact holds_of_next (h.frame (t := s.ringArmed n)) e
  | ringBurst n => exact holds_of_next (h.frame (t := s.ringBurst n)) e
  | ringExpiry n => exact holds_of_next (h.frame (t := s.ringExpiry n)) e
  | loopLoss n => exact holds_of_next (h.frame (t := s.loopLoss n)) e
  | holdLong n => exact holds_of_next (h.frame (t := s.holdLong n)) e
  | delayTarget l rest => exact holds_of_next (h.request l _ rest _ _ fun b _ sound => DelayKept.delayTarget sound b) e
  | delayDump l rest => exact holds_of_next (h.request l _ rest _ _ fun b _ sound => DelayKept.delayDump sound b) e
  | alertNotice l rest => exact holds_of_next (h.request l _ rest _ _ fun b _ sound => DelayKept.alertNotice sound b) e
  | windowExpiry id => exact holds_of_next (h.of_du (DelayKept.windowExpiry · id)) e
  | attentionEnd => exact holds_of_next (h.frame (t := s.attentionEnd)) e
  | messageTruncated => exact holds_of_next (h.frame (t := s.messageTruncated)) e
  | alertAudioEnd l rest => exact holds_of_next (h.requestAside l _ rest _ _ fun b t => ownAlertAudioEnd_du t b) e
  | alertCancel l rest => exact holds_of_next (h.request l _ rest _ _ fun b _ sound => DelayKept.alertCancel sound b) e
  | alertRearm l rest => exact holds_of_next (h.request l _ rest _ _ fun b _ sound => DelayKept.alertRearm sound b) e
  | alertEnd => exact holds_of_next (h.of_du DelayKept.alertEnd) e
  | logRead l rest => exact holds_of_next (h.requestAside l _ rest _ _ fun b t => ownLogRead_du t b) e
  | signOn l rest => exact holds_of_next (h.request l _ rest _ _ fun _ _ sound => DelayKept.signOn sound _) e
  | signOff l rest => exact holds_of_next (h.request l _ rest _ _ fun _ _ sound => DelayKept.signOff sound) e
  | wakeEnable l rest => exact holds_of_next (h.requestKept l _ rest _ _ fun b _ ht => ht.wakeEnable b) e
  | blockJudged => exact holds_of_next (h.of_du DelayKept.blockJudged) e
  | frameBoundary => exact holds_of_next (h.frame (t := s.frameBoundary)) e
  | pollTimerExpiry => exact holds_of_next (h.frame (t := s.pollTimerExpiry)) e
  | replyWindowClose => exact holds_of_next (h.frame (t := s.replyWindowClose)) e
  | returnCharacter w => exact holds_of_next (h.frame (t := s.returnCharacter w)) e
  | assemblerTake => exact holds_of_next (h.of_du DelayKept.assemblerTake) e
  | txSelect l rest => exact holds_of_next (h.requestAside l _ rest _ _ fun b t => ownTxSelect_du t b) e
  | ceilingRestore l rest => exact holds_of_next (h.requestAside l _ rest _ _ fun _ _ => rfl) e
  | transactionStart l => exact holds_of_next (h.frame (t := s.transactionStart l)) e
  | readOnlyTransaction l bytes => exact holds_of_next (h.frame (t := s.heard l bytes)) e
  | laneTimeout l => exact holds_of_next (h.frame (t := s.laneTimeout l)) e
  | nop l rest => exact holds_of_next (h.requestAside l _ rest _ _ fun _ _ => rfl) e
  | statusRead l rest => exact holds_of_next (h.requestAside l _ rest _ _ fun b t => ownStatusRead_du t b) e
  | eventEnable l rest => exact holds_of_next (h.requestAside l _ rest _ _ fun b t => ownEventEnable_du t l b) e
  | eventClear l rest => exact holds_of_next (h.requestAside l _ rest _ _ fun b t => ownEventClear_du t l b) e
  | clockWrap f => exact holds_of_next (h.mixIf _ f) e
  | profileRead l rest => exact holds_of_next (h.requestAside l _ rest _ _ fun b t => ownProfileRead_du t b) e
  | profileWrite l eng rest =>
    exact holds_of_next (State.transact_preserves (fun _ _ _ ht => ht.frame) h _ _ _ _ _ _ fun b _ ht => ht.profileWrite l b) e
  | profileWriteComplete => exact holds_of_next h.profileWriteComplete e
  | unknownRequestCode l code rest =>
    have e : execUnknownRequestCode l code rest s = .next t := e
    unfold execUnknownRequestCode at e
    split at e
    · exact holds_of_next (h.frame (t := s.heard l (code :: rest))) e
    · exact holds_of_next (State.transact_preserves (fun _ _ _ ht => ht.frame) h _ _ _ _ _ _ fun _ _ ht => ht) e

/-- Settles O58: a re-evaluation makes the mode BUILDING only below T, an exchange brings more pairs than it takes only then, and every
target comes from a request or a profile copy, both clamped. -/
theorem everyStepKeepsTheDelay : Obligations.EveryStepKeepsTheDelay := by
  intro s t h stepped
  have waiting : ∀ queue, ({ s with pending := queue } : State).delaySound := fun _ => h
  unfold step at stepped
  split at stepped
  · exact holds_of_next h stepped
  · exact (waiting _).command _ stepped

end Sys2Proof.Machine
end

section
/-! SUPPORT. The requests on the delay, DELAY_TARGET and DELAY_DUMP, by what a re-evaluation leaves (O33). -/

namespace Sys2Proof.Machine

set_option Elab.async false

/-! ### What a re-evaluation leaves (R93, R94) -/

section
variable {d : Delay} {m : DelayMode}

/-- The step counter is kept with the mode, which a FROZEN unit keeps. -/
theorem Delay.reevaluate_eq (next : m = if d.mode = .frozen then .frozen else Delay.modeOf d.store.length d.target) :
    d.reevaluate = { d with mode := m, step := if d.mode = m then d.step else 0 } := by
  subst next
  unfold Delay.reevaluate Delay.held
  split
  · rename_i frozen
    rw [← frozen]
  · dsimp only
    split
    · rename_i same
      rw [if_pos same.symm, same]
    · rename_i other
      rw [if_neg (Ne.symm other)]

theorem Delay.setTarget_of_frozen (frozen : d.mode = .frozen) (blocks : Nat) :
    d.setTarget blocks = { d with pendingTarget := some (min blocks 4000 * 480) } := if_pos frozen

theorem Delay.setTarget_of_unfrozen (unfrozen : d.mode ≠ .frozen) {blocks t : Nat} (target : t = min blocks 4000 * 480)
    (next : m = Delay.modeOf d.store.length t) :
    d.setTarget blocks = { d with target := t, mode := m, step := if d.mode = m then d.step else 0 } := by
  subst target
  refine (if_neg unfrozen).trans ((Delay.reevaluate_eq (m := m) ?_).trans rfl)
  rw [if_neg (by exact unfrozen)]
  exact next

/-- A dump leaves the mode of what it leaves in the store (R100, R101). -/
theorem Delay.dump_eq (amount : Nat)
    (next : m = if d.mode = .frozen then .frozen else Delay.modeOf (d.store.length - amount) d.target) :
    d.dump amount = { d with
      store := d.store.drop amount, dumps := countUp d.dumps, mode := m, step := if d.mode = m then d.step else 0 } := by
  refine (Delay.reevaluate_eq (m := m) ?_).trans rfl
  rw [List.length_drop]
  exact next

end

/-! ### DELAY_TARGET and DELAY_DUMP -/

/-- A delay replaced by the owner of a request on CON, and DONE. -/
theorem completes_of_delay {s : State} {rest body : List Byte} {i : Instr} {code : Byte} {need : Nat} {own : List Byte → State → Answer}
    (asks : s.asks .con rest body) (hi : exec i s = .next (s.request .con code rest true need own)) (hn : need ≤ body.length)
    {d : Delay} {e : EventUnit}
    (ho : own body (s.hearing .con (code :: rest)) = ({ s.hearing .con (code :: rest) with du := d, ev := e } : State).done) :
    completes i s { s with du := d, ev := e, cl := s.replied .con (code :: rest) .done [] } :=
  completes_of_own (u := { s.hearing .con (code :: rest) with du := d, ev := e }) asks hi rfl hn ho rfl

/-- Settles O33: the owners' answers, by the mode a re-evaluation leaves. -/
theorem delayTargetAndDump : Obligations.DelayTargetAndDump := by
  refine ⟨fun s rest more b1 b0 t m asks target next => ⟨fun frozen => ?_, fun unfrozen => ?_⟩,
    fun s rest body k m asks amount next => ⟨fun none => ?_, fun some => ?_⟩⟩
  · rw [target, ← Delay.setTarget_of_frozen frozen]
    exact completes_of_delay (own := ownDelayTarget) asks rfl (by simp) rfl
  · rw [← Delay.setTarget_of_unfrozen unfrozen target next]
    exact completes_of_delay (own := ownDelayTarget) asks rfl (by simp) rfl
  · exact turnedAway_of_reply (own := ownDelayDump) asks rfl rfl (Nat.zero_le _) (if_pos (by exact amount.symm.trans none))
  · have taken : s.du.dumpAmount s.pf.working.dumpSize = k := amount.symm
    have counted : (if s.du.dumps < 65535 then s.du.dumps + 1 else s.du.dumps) = countUp s.du.dumps := rfl
    rw [counted, ← Delay.dump_eq k next, ← taken]
    exact completes_of_delay (own := ownDelayDump) asks rfl (Nat.zero_le _) (if_neg (by exact taken ▸ some.ne'))

end Sys2Proof.Machine
end

section
/-! SUPPORT. The fields of the profile by code, and the values a PROFILE_WRITE stores, clamped (R185, R187). -/

namespace Sys2Proof.Machine

set_option Elab.async false

/-! ### Field codes (R185) -/

/-- The code of a field: its place in the code order. -/
def Field.code (x : Field) : Byte := BitVec.ofNat 8 (Field.all.idxOf x + 1)

theorem Field.all_nodup : Field.all.Nodup := by decide

section
variable {c : Byte} {x : Field}

/-- The code that names a field is the field's own. -/
theorem eq_code_of_fieldOf (named : fieldOf c = some x) : c = x.code := by
  unfold fieldOf at named
  split at named
  · exact nomatch named
  · rename_i nonzero
    obtain ⟨place, at_⟩ := List.getElem?_eq_some_iff.mp named
    have index : Field.all.idxOf x = c.toNat - 1 := by rw [← at_]; exact Field.all_nodup.idxOf_getElem _ place
    have positive : c.toNat ≠ 0 := fun zero => nonzero (BitVec.eq_of_toNat_eq zero)
    unfold Field.code
    rw [index, Nat.sub_add_cancel (Nat.one_le_iff_ne_zero.mpr positive), BitVec.ofNat_toNat, BitVec.setWidth_eq]

theorem fieldOf_code (x : Field) : fieldOf x.code = some x := by cases x <;> rfl

/-- Codes outside 0x01 to 0x20 name no field (R186, R187). -/
theorem fieldOf_eq_none (out : c = 0#8 ∨ 0x20 < c.toNat) : fieldOf c = none := by
  unfold fieldOf
  split
  · rfl
  · rename_i nonzero
    have above := out.resolve_left nonzero
    exact List.getElem?_eq_none (by show 32 ≤ c.toNat - 1; omega)

/-- Every code from 0x01 to 0x20 names a field. -/
theorem exists_fieldOf (low : 1 ≤ c.toNat) (high : c.toNat ≤ 0x20) : ∃ x, fieldOf c = some x := by
  have nonzero : c ≠ 0#8 := fun zero => by rw [zero] at low; exact absurd low (by decide)
  have place : c.toNat - 1 < Field.all.length := by show c.toNat - 1 < 32; omega
  exact ⟨_, (if_neg nonzero).trans (List.getElem?_eq_getElem place)⟩

end

/-! ### Fields that are numbers -/

/-- The fields that are numbers, in code order (R185). -/
def Field.numbers : List Field :=
  [.stationCode, .duckDepth, .duckAttack, .duckRelease, .holdGain, .takeFade, .preemptFade, .reprise, .silenceThreshold, .silenceLimit,
   .ceiling, .dumpSize, .startTarget, .attention, .toneLevel, .alertGain, .startDelay, .returnN, .returnF, .pollPeriod, .holdLimit,
   .ringTimeout]

/-- A row of the table of numbers says of a field its code, its size, and what a value of that size stores. -/
structure NumberField.Describes (e : NumberField) (x : Field) : Prop where
  code : x.code = e.code
  size : x.size = some e.size
  write : ∀ v p, x.write v p = e.put p (max e.low (min e.high (numberOf v)))

theorem numberFields_describe (k : Nat) (place : k < 22) : (numberFields[k]'place).Describes (Field.numbers[k]'place) := by
  interval_cases k <;> exact ⟨rfl, rfl, fun _ _ => rfl⟩

theorem exists_describes {e : NumberField} (mem : e ∈ numberFields) : ∃ x, e.Describes x := by
  obtain ⟨k, place, rfl⟩ := List.getElem_of_mem mem
  exact ⟨_, numberFields_describe k place⟩

theorem exists_described {x : Field} (mem : x ∈ Field.numbers) : ∃ e ∈ numberFields, e.Describes x := by
  obtain ⟨k, place, rfl⟩ := List.getElem_of_mem mem
  exact ⟨_, List.getElem_mem _, numberFields_describe k place⟩

/-- The length of a field with one size (R187 check 3). -/
theorem Field.fits_iff {x : Field} {n : Nat} (size : x.size = some n) (v : List Byte) : x.fits v = true ↔ v.length = n := by
  unfold Field.fits
  rw [size]
  exact decide_eq_true_iff

/-! ### The region list -/

theorem bytesOf_two (n : Nat) : bytesOf 2 n = [BitVec.ofNat 8 (n / 256), BitVec.ofNat 8 n] := by simp [bytesOf]

theorem word16_bytes {n : Nat} (small : n < 65536) : word16 (BitVec.ofNat 8 (n / 256)) (BitVec.ofNat 8 n) = n := by
  simp only [word16, BitVec.toNat_ofNat]
  omega

theorem bytesOf_word16 (b1 b0 : Byte) : bytesOf 2 (word16 b1 b0) = [b1, b0] := by
  have high : (b1.toNat * 256 + b0.toNat) / 256 = b1.toNat := by omega
  rw [bytesOf_two, word16, high]
  refine List.cons_eq_cons.mpr ⟨by simp, List.cons_eq_cons.mpr ⟨?_, rfl⟩⟩
  apply BitVec.eq_of_toNat_eq
  simp only [BitVec.toNat_ofNat]
  omega

/-- Codes sent in two bytes each are read back (R173, R185). -/
theorem words16_flatMap {rs : List Nat} (small : ∀ r ∈ rs, r < 65536) : words16 rs.length (rs.flatMap (bytesOf 2)) = rs := by
  induction rs with
  | nil => rfl
  | cons r rs ih =>
    obtain ⟨first, others⟩ := List.forall_mem_cons.mp small
    rw [List.flatMap_cons, bytesOf_two]
    exact List.cons_eq_cons.mpr ⟨word16_bytes first, ih others⟩

/-- Bytes of an even length are codes in two bytes each. -/
theorem exists_codes (n : Nat) {v : List Byte} (length : v.length = 2 * n) :
    ∃ rs : List Nat, rs.length = n ∧ (∀ r ∈ rs, r < 65536) ∧ v = rs.flatMap (bytesOf 2) := by
  induction n generalizing v with
  | zero => exact ⟨[], rfl, nofun, List.length_eq_zero_iff.mp length⟩
  | succ n ih =>
    match v, length with
    | b1 :: b0 :: v, length =>
      obtain ⟨rs, count, small, rfl⟩ := ih (v := v) (by simp only [List.length_cons] at length; omega)
      refine ⟨word16 b1 b0 :: rs, by rw [List.length_cons, count], List.forall_mem_cons.mpr ⟨?_, small⟩, ?_⟩
      · unfold word16; omega
      · rw [List.flatMap_cons, bytesOf_word16]; rfl

/-- The region list's length is that of its count, up to 8 codes (R187 check 3). -/
theorem Field.fits_regionList (n : Byte) (codes : List Byte) :
    Field.regionList.fits (n :: codes) = true ↔ n.toNat ≤ 8 ∧ codes.length = 2 * n.toNat := by
  show (decide (n.toNat ≤ 8) && decide (codes.length = 2 * n.toNat)) = true ↔ _
  simp

/-! ### Fields of one byte -/

theorem numberOf_byte (b : Byte) : numberOf [b] = b.toNat := by simp [numberOf]

theorem toNat_eq_iff {b : Byte} {n : Nat} (small : n < 256) : b.toNat = n ↔ b = BitVec.ofNat 8 n :=
  ⟨fun same => BitVec.eq_of_toNat_eq (by rw [same, BitVec.toNat_ofNat]; omega), fun same => by rw [same, BitVec.toNat_ofNat]; omega⟩

theorem storeResume_byte (b : Byte) : storeResume (numberOf [b]) = if b = 0#8 then .goOn else if b = 1#8 then .next else .reprise := by
  rw [numberOf_byte, storeResume]
  exact if_congr (toNat_eq_iff (by decide)) rfl (if_congr (toNat_eq_iff (by decide)) rfl rfl)

theorem storeStart_byte (b : Byte) : storeStart (numberOf [b]) = if b = 0#8 then .offAir else .onAir := by
  rw [numberOf_byte, storeStart]
  exact if_congr (toNat_eq_iff (by decide)) rfl rfl

/-- The largest of the four divisors not above the value, or 16 (R106). -/
theorem storeDivisor_eq (n : Nat) : storeDivisor n = if 128 ≤ n then 128 else if 64 ≤ n then 64 else if 32 ≤ n then 32 else 16 := by
  unfold storeDivisor
  split_ifs <;> omega

/-! ### Values of the right length -/

section
variable {c : Byte} {v : List Byte}

/-- What a value of the right length makes of a copy is what its field's write makes of it. -/
theorem field_of_fieldWrites {f : Profile → Profile} (h : fieldWrites c v f) :
    ∃ x, fieldOf c = some x ∧ x.fits v = true ∧ ∀ p, x.write v p = f p := by
  rcases h with ⟨e, mem, rfl, length, rfl⟩ | ⟨n, rs, rfl, rfl, count, few, small, rfl⟩ | ⟨b, rfl, one⟩ |
    ⟨b0, b1, b2, b3, rfl, rfl, rfl⟩ | ⟨b0, b1, b2, b3, b4, b5, b6, b7, rfl, rfl, rfl⟩
  · obtain ⟨x, describes⟩ := exists_describes mem
    exact ⟨x, describes.code ▸ fieldOf_code x, (Field.fits_iff describes.size v).mpr length, describes.write v⟩
  · have length : ∀ rs : List Nat, (rs.flatMap (bytesOf 2)).length = 2 * rs.length := fun rs => by
      simp [List.length_flatMap, bytesOf_two, Nat.mul_comm]
    refine ⟨.regionList, rfl, (Field.fits_regionList _ _).mpr ⟨count ▸ few, count ▸ length rs⟩, fun p => ?_⟩
    show { p with regions := words16 n.toNat (rs.flatMap (bytesOf 2)) } = _
    rw [count, words16_flatMap small]
  · rcases one with ⟨rfl, rfl⟩ | ⟨rfl, rfl⟩ | ⟨rfl, rfl⟩ | ⟨rfl, rfl⟩ | ⟨rfl, rfl⟩ | ⟨rfl, rfl⟩ | ⟨rfl, rfl⟩
    · exact ⟨.afterAlert, rfl, rfl, fun p => congrArg (fun y => { p with afterAlert := y }) (storeResume_byte b)⟩
    · exact ⟨.ceilingOnReflect, rfl, rfl, fun _ => rfl⟩
    · refine ⟨.buildDivisor, rfl, rfl, fun p => congrArg (fun y => { p with buildDivisor := y }) ?_⟩
      rw [numberOf_byte, storeDivisor_eq]
    · exact ⟨.airTests, rfl, rfl, fun _ => rfl⟩
    · exact ⟨.wake, rfl, rfl, fun _ => rfl⟩
    · exact ⟨.startState, rfl, rfl, fun p => congrArg (fun y => { p with startState := y }) (storeStart_byte b)⟩
    · exact ⟨.autoChangeover, rfl, rfl, fun _ => rfl⟩
  · exact ⟨.roles, rfl, rfl, fun _ => rfl⟩
  · exact ⟨.duckClasses, rfl, rfl, fun _ => rfl⟩

/-- A value that fits its field is one of the right length for it. -/
theorem exists_fieldWrites {x : Field} (fits : x.fits v = true) : ∃ f, fieldWrites x.code v f := by
  by_cases number : x ∈ Field.numbers
  · obtain ⟨e, mem, describes⟩ := exists_described number
    exact ⟨_, .inl ⟨e, mem, describes.code, (Field.fits_iff describes.size v).mp fits, rfl⟩⟩
  have length : ∀ {n}, x.size = some n → v.length = n := fun size => (Field.fits_iff size v).mp fits
  have byte : x.size = some 1 → ∃ b, v = [b] := fun size => List.length_eq_one_iff.mp (length size)
  cases x with
  | regionList =>
    match v, fits with
    | n :: codes, fits =>
      obtain ⟨few, even⟩ := (Field.fits_regionList n codes).mp fits
      obtain ⟨rs, count, small, rfl⟩ := exists_codes n.toNat even
      exact ⟨_, .inr (.inl ⟨n, rs, rfl, rfl, count.symm, count ▸ few, small, rfl⟩)⟩
  | afterAlert =>
    obtain ⟨b, rfl⟩ := byte rfl
    exact ⟨_, .inr (.inr (.inl ⟨b, rfl, .inl ⟨rfl, rfl⟩⟩))⟩
  | ceilingOnReflect =>
    obtain ⟨b, rfl⟩ := byte rfl
    exact ⟨_, .inr (.inr (.inl ⟨b, rfl, .inr (.inl ⟨rfl, rfl⟩)⟩))⟩
  | buildDivisor =>
    obtain ⟨b, rfl⟩ := byte rfl
    exact ⟨_, .inr (.inr (.inl ⟨b, rfl, .inr (.inr (.inl ⟨rfl, rfl⟩))⟩))⟩
  | airTests =>
    obtain ⟨b, rfl⟩ := byte rfl
    exact ⟨_, .inr (.inr (.inl ⟨b, rfl, .inr (.inr (.inr (.inl ⟨rfl, rfl⟩)))⟩))⟩
  | wake =>
    obtain ⟨b, rfl⟩ := byte rfl
    exact ⟨_, .inr (.inr (.inl ⟨b, rfl, .inr (.inr (.inr (.inr (.inl ⟨rfl, rfl⟩))))⟩))⟩
  | startState =>
    obtain ⟨b, rfl⟩ := byte rfl
    exact ⟨_, .inr (.inr (.inl ⟨b, rfl, .inr (.inr (.inr (.inr (.inr (.inl ⟨rfl, rfl⟩)))))⟩))⟩
  | autoChangeover =>
    obtain ⟨b, rfl⟩ := byte rfl
    exact ⟨_, .inr (.inr (.inl ⟨b, rfl, .inr (.inr (.inr (.inr (.inr (.inr ⟨rfl, rfl⟩)))))⟩))⟩
  | roles =>
    match v, length (n := 4) rfl with
    | [b0, b1, b2, b3], _ => exact ⟨_, .inr (.inr (.inr (.inl ⟨b0, b1, b2, b3, rfl, rfl, rfl⟩)))⟩
  | duckClasses =>
    match v, length (n := 8) rfl with
    | [b0, b1, b2, b3, b4, b5, b6, b7], _ =>
      exact ⟨_, .inr (.inr (.inr (.inr ⟨b0, b1, b2, b3, b4, b5, b6, b7, rfl, rfl, rfl⟩)))⟩
  | _ => exact absurd (by decide) number

end

end Sys2Proof.Machine
end

section
/-! SUPPORT. PROFILE_WRITE and PROFILE_WRITE_COMPLETE (O54). -/

namespace Sys2Proof.Machine

set_option Elab.async false

/-! ### The checks of R187 -/

section
variable {t : State} {l : LaneId} {c : Byte} {value more : List Byte} {x : Field}

theorem length_byte (short : value.length ≤ 58) : (BitVec.ofNat 8 value.length).toNat = value.length := by
  rw [BitVec.toNat_ofNat]
  omega

/-- The bytes a request carries hold the whole value its length byte announces. -/
theorem value_whole (short : value.length ≤ 58) : ¬ (value ++ more).length < (BitVec.ofNat 8 value.length).toNat := by
  rw [length_byte short, List.length_append]
  omega

theorem take_value (short : value.length ≤ 58) : (value ++ more).take (BitVec.ofNat 8 value.length).toNat = value := by
  rw [length_byte short, List.take_left]

/-- The body of a PROFILE_WRITE: the field code, the length, the value, and bytes that are ignored (R174, R187). -/
def writeBody (c : Byte) (value more : List Byte) : List Byte := c :: BitVec.ofNat 8 value.length :: (value ++ more)

theorem State.profileWrite_of_loading (short : value.length ≤ 58) (loading : t.pf.load ≠ none) :
    State.profileWrite l (writeBody c value more) t = (t, some (.busy, [])) :=
  (if_neg (value_whole short)).trans (if_pos (Option.isSome_iff_ne_none.mpr loading))

variable (short : value.length ≤ 58) (loaded : t.pf.load = none)
include short loaded

theorem State.profileWrite_of_unnamed (unnamed : fieldOf c = none) :
    State.profileWrite l (writeBody c value more) t = (t, some (.unknown, [])) := by
  refine (if_neg (value_whole short)).trans ((if_neg (by simp [loaded])).trans ?_)
  rw [unnamed]

variable (named : fieldOf c = some x)
include named

theorem State.profileWrite_of_not_fits (other : ¬ x.fits value = true) :
    State.profileWrite l (writeBody c value more) t = (t, some (.badLength, [])) := by
  refine (if_neg (value_whole short)).trans ((if_neg (by simp [loaded])).trans ?_)
  rw [named]
  exact if_neg (by rwa [take_value short])

/-- A write that passes the checks: the field's owner is told, and the lane waits for its reply (R165, R187). -/
theorem State.profileWrite_of_fits {u : State} (fits : x.fits value = true)
    (told : u = (t.setPf (t.pf.begin x value)).fieldWritten x) :
    State.profileWrite l (writeBody c value more) t = (u.setLane l { u.lane l with inFlight := true }, none) := by
  subst told
  refine (if_neg (value_whole short)).trans ((if_neg (by simp [loaded])).trans ?_)
  rw [named]
  dsimp only
  rw [take_value short]
  exact if_pos fits

end

/-! ### The request -/

/-- A write begun: its store stands, and the lane waits for its reply (R165, R187). -/
def State.writing (s : State) (rest : List Byte) (store : ProfileStore) : State :=
  { s with pf := store, cl := s.cl.set .con { (s.lane .con).finish (0x5A#8 :: rest) with inFlight := true } }

section
variable {s : State} {rest value more : List Byte} {c : Byte} (asks : s.asks .con rest (writeBody c value more))
include asks

/-- A PROFILE_WRITE on CON is judged by its owner in the state that has heard it. -/
theorem exec_profileWrite {u : State} {reply : Option (ReplyCode × List Byte)}
    (own : State.profileWrite .con (writeBody c value more) (s.hearing .con (0x5A#8 :: rest)) = (u, reply)) :
    completes (.profileWrite .con true rest) s (reply.elim u fun answer => u.place .con answer.1 answer.2) := by
  have judged := State.transact_asks asks 0x5A#8 (allowed := true) rfl (need := 2) (by simp [writeBody]) (State.profileWrite .con)
  have own : State.profileWrite .con (writeBody c value more) (s.setLane .con ((s.cl.get .con).finish (0x5A#8 :: rest))) = (u, reply) :=
    own
  rw [own] at judged
  refine congrArg Host.Outcome.next (judged.trans ?_)
  cases reply with
  | none => rfl
  | some answer => rfl

/-- A PROFILE_WRITE whose owner answers at once and changes nothing is turned away. -/
theorem profileWrite_turnedAway {code : ReplyCode}
    (own : State.profileWrite .con (writeBody c value more) (s.hearing .con (0x5A#8 :: rest)) =
      (s.hearing .con (0x5A#8 :: rest), some (code, []))) :
    turnedAway (.profileWrite .con true rest) s .con (0x5A#8 :: rest) code := exec_profileWrite asks own

/-- A PROFILE_WRITE begun, and what the field's owner makes of its own block (R165, R187). -/
theorem profileWrite_begun {x : Field} {a : AlertUnit} {k : Link} {e : EventUnit} {store : ProfileStore} (short : value.length ≤ 58)
    (loaded : s.pf.load = none) (named : fieldOf c = some x) (fits : x.fits value = true) (begun : s.pf.begin x value = store)
    (told : ((s.hearing .con (0x5A#8 :: rest)).setPf store).fieldWritten x =
      { (s.hearing .con (0x5A#8 :: rest)).setPf store with al := a, tl := k, ev := e }) :
    completes (.profileWrite .con true rest) s { s.writing rest store with al := a, tl := k, ev := e } := by
  subst begun
  exact exec_profileWrite asks
    (State.profileWrite_of_fits (t := s.hearing .con (0x5A#8 :: rest)) short loaded named fits told.symm)

end

/-! ### What the store and the fields' owners do -/

/-- The store as a write begins (R187; log 26). -/
theorem ProfileStore.begin_eq {store : ProfileStore} {x : Field} {value : List Byte} {f : Profile → Profile} {p : Profile}
    (write : ∀ q, x.write value q = f q) (next : p = f store.working) : store.begin x value =
      { store with
        working := p
        valid := false
        write := some { left := 576, image := if store.valid then f store.stored else p } } := by
  unfold ProfileStore.begin
  dsimp only
  rw [write, write, ← next]
  rfl

section
variable {t : State} {x : Field} {c : Byte} (named : fieldOf c = some x)
include named

/-- Only the wake enables, the roles and auto-changeover are told to a block (R134, R158, R161). -/
theorem State.fieldWritten_of_unheard (wake : c ≠ 0x16#8) (roles : c ≠ 0x1C#8) (auto : c ≠ 0x1D#8) : t.fieldWritten x = t := by
  have own := eq_code_of_fieldOf named
  cases x with
  | wake => exact absurd own wake
  | roles => exact absurd own roles
  | autoChangeover => exact absurd own auto
  | _ => rfl

/-- The roles start the records of changed units anew; they and auto-changeover look at the changeover (R158, R161). -/
theorem State.fieldWritten_of_link {l : Link} (link : c = 0x1C#8 ∨ c = 0x1D#8)
    (records : l = if c = 0x1C#8 then t.tl.withRoles t.pf.working.roles else t.tl) :
    t.fieldWritten x = (t.setTl l).lookChangeover := by
  subst records
  rcases link with rfl | rfl
  · obtain rfl : Field.roles = x := Option.some.inj named
    rfl
  · obtain rfl : Field.autoChangeover = x := Option.some.inj named
    rfl

end

/-- What keeps the changeover condition from holding (R161). -/
theorem State.not_changeoverHolds {t : State} (clear : t.pf.working.autoChangeover = false ∨ t.tl.active = .standby ∨
    t.air.state = .offAir ∨ t.air.state = .starting ∨ ¬ t.tl.mainDown) : ¬ t.changeoverHolds = true := by
  intro holds
  obtain ⟨auto, main, up, down⟩ := (State.changeoverHolds_iff t).mp holds
  rcases clear with manual | standby | offAir | starting | well
  · exact Bool.false_ne_true (manual.symm.trans auto)
  · exact nomatch standby.symm.trans main
  · exact up.elim (fun on => nomatch offAir.symm.trans on) fun on => nomatch offAir.symm.trans on
  · exact up.elim (fun on => nomatch starting.symm.trans on) fun on => nomatch starting.symm.trans on
  · exact well down

/-- A changeover with an empty holder and room in the queue: its three commands enter the queue whole (R150, R161). -/
theorem Link.changeover_eq {l : Link} (empty : l.holder = none) (room : l.sendQueue.length ≤ 10) : l.changeover = { l with
    active := .standby
    reflectSeen := false
    sendQueue := l.sendQueue ++
      (l.charsTo .mainTx .carrierOff ++ l.charsTo .standbyTx .carrierOn ++ l.charsTo .siteControl .goStandby) } := by
  have off := l.charsTo_length_le .mainTx .carrierOff
  have on := l.charsTo_length_le .standbyTx .carrierOn
  have go := l.charsTo_length_le .siteControl .goStandby
  have queued : ∀ (cs : List SiteChar) (r : Role) (op : SiteOp), cs.length + (l.charsTo r op).length ≤ 6 →
      (l.queue cs).commandRole r op = l.queue (cs ++ l.charsTo r op) := fun cs r op fits => by
    rw [Link.commandRole_eq (l := l.queue cs) empty (by simp only [Link.queue_sendQueue, List.length_append, Link.charsTo_queue]; omega),
      Link.charsTo_queue, Link.queue_queue]
  unfold Link.changeover
  rw [Link.commandRole_eq empty (by omega), queued _ _ _ (by omega), queued _ _ _ (by rw [List.length_append]; omega)]
  rfl

/-- The changeover taken at a look, with an empty holder and room in the queue (R161). -/
theorem State.lookChangeover_of_holds {t : State} (holds : t.changeoverHolds = true) (empty : t.tl.holder = none)
    (room : t.tl.sendQueue.length ≤ 10) : t.lookChangeover = { t with
      tl := { t.tl with
        active := .standby
        reflectSeen := false
        sendQueue := t.tl.sendQueue ++
          (t.tl.charsTo .mainTx .carrierOff ++ t.tl.charsTo .standbyTx .carrierOn ++ t.tl.charsTo .siteControl .goStandby) }
      ev := t.ev.raise .txChangeover } := by
  rw [← Link.changeover_eq empty room]
  exact if_pos holds

/-- Changed wake enables sweep off air, where no alert then takes the air (R119, R134). -/
theorem State.wakeChanged_of_offAir {t : State} (off : t.air.state = .offAir) (room : t.al.log.length ≤ 32)
    {stops : PendingAlert → Bool} {al : AlertUnit}
    (stopped : ∀ a, stops a = !(t.pf.working.wake.alertWake && (a.cls = .warning || a.cls = .emergency)))
    (swept : al = { t.al.logged ((t.al.table.filter stops).map (·.record .notAired)) with
      table := t.al.table.filter fun a => !stops a })
    (kept : t.al.armed = false ∨ t.al.onAir ≠ none ∨ ∀ a, al.table.head? = some a → a.due = false) :
    t.wakeChanged = { t with al := al } := by
  have sweep : t.sweep = { t with al := al } := by
    rw [swept, ← AlertUnit.sweep_eq room fun a => (stopped a).trans (offAirStops_eq _ _).symm]
    rfl
  refine (if_pos off).trans ?_
  rw [sweep]
  subst swept
  refine State.checkAlerts_of_not ?_
  rcases kept with disarmed | busy | waits
  · exact .inl disarmed
  · exact .inr (.inl busy)
  · exact .inr (.inr (.inr (.inr waits)))

/-! ### PROFILE_WRITE_COMPLETE -/

theorem State.profileWriteComplete_of_unwritten {s : State} (h : s.pf.write = none ∨ ∃ w, s.pf.write = some w ∧ w.left ≠ 0) :
    s.profileWriteComplete = s := by
  unfold State.profileWriteComplete
  rcases h with idle | ⟨w, running, left⟩
  · rw [idle]
  · rw [running]
    exact if_neg left

theorem State.profileWriteComplete_of_written {s : State} {w : StoreWrite} (running : s.pf.write = some w) (ended : w.left = 0) :
    s.profileWriteComplete = (s.setPf { s.pf with stored := w.image, valid := true, write := none }).place .con .done [] := by
  unfold State.profileWriteComplete
  rw [running]
  exact if_pos ended

/-- Settles O54: the checks in their order, and a write begun by what its field's owner does with it. -/
theorem profileWriteBeginsAndCompletes : Obligations.ProfileWriteBeginsAndCompletes := by
  refine ⟨fun s rest more value c short asks => ⟨fun loading => ?_, fun loaded out => ?_, fun loaded low high wrong => ?_,
      fun f p b l loaded writes next records begun => ?_⟩,
    fun s => ⟨fun idle => congrArg Host.Outcome.next (State.profileWriteComplete_of_unwritten idle),
      fun w running ended => congrArg Host.Outcome.next (State.profileWriteComplete_of_written running ended)⟩⟩
  · exact profileWrite_turnedAway asks (State.profileWrite_of_loading short loading)
  · exact profileWrite_turnedAway asks (State.profileWrite_of_unnamed short loaded (fieldOf_eq_none out))
  · obtain ⟨x, named⟩ := exists_fieldOf low high
    refine profileWrite_turnedAway asks (State.profileWrite_of_not_fits short loaded named fun fits => ?_)
    obtain ⟨f, writes⟩ := exists_fieldWrites fits
    exact wrong f (eq_code_of_fieldOf named ▸ writes)
  · obtain ⟨x, named, fits, write⟩ := field_of_fieldWrites writes
    obtain ⟨store, written, working, rfl⟩ : ∃ store, s.pf.begin x value = store ∧ store.working = p ∧ s.writing rest store = b :=
      ⟨_, ProfileStore.begin_eq write next, rfl, begun.symm⟩
    refine ⟨fun wake roles auto => ?_, fun link => ?_, fun wake up => ?_, fun wake off room stops al stopped swept kept => ?_⟩
    · exact profileWrite_begun asks short loaded named fits written (State.fieldWritten_of_unheard named wake roles auto)
    · have look : ((s.hearing .con (0x5A#8 :: rest)).setPf store).fieldWritten x =
          (((s.hearing .con (0x5A#8 :: rest)).setPf store).setTl l).lookChangeover := by
        refine State.fieldWritten_of_link named link ?_
        subst working
        by_cases code : c = 0x1C#8
        · rw [records, if_pos code, if_pos code]
          rfl
        · rw [records, if_neg code, if_neg code]
          rfl
      have active : l.active = s.tl.active := by rw [records]
      have holder : l.holder = s.tl.holder := by rw [records]
      have queue : l.sendQueue = s.tl.sendQueue := by rw [records]
      subst working
      refine ⟨fun clear => ?_, fun auto main up down empty room => ?_⟩
      · rw [← active] at clear
        exact profileWrite_begun asks short loaded named fits written
          (look.trans (State.lookChangeover_of_not (State.not_changeoverHolds clear)))
      · have holds := (State.changeoverHolds_iff (((s.hearing .con (0x5A#8 :: rest)).setPf store).setTl l)).mpr
          ⟨auto, active.trans main, up, down⟩
        rw [← queue] at room ⊢
        exact profileWrite_begun asks short loaded named fits written
          (look.trans (State.lookChangeover_of_holds holds (holder.trans empty) room))
    · subst wake
      obtain rfl : Field.wake = x := Option.some.inj named
      exact profileWrite_begun asks short loaded named fits written (if_neg up)
    · subst wake working
      obtain rfl : Field.wake = x := Option.some.inj named
      obtain ⟨-, -, -, log, -, -⟩ := room
      exact profileWrite_begun asks short loaded named fits written
        (State.wakeChanged_of_offAir (t := (s.hearing .con (0x5A#8 :: rest)).setPf store) off log stopped swept kept)

end Sys2Proof.Machine
end

section
/-! SUPPORT. The notices counted, beside the records written and the alerts that stand pending or on the air, through the operations of
the alert unit (R128, R130; O55). -/

namespace Sys2Proof.Machine

set_option Elab.async false

/-! ### Notices counted and not logged -/

/-- All notices counted but `n` are logged, modulo 2^32. -/
def AlertUnit.ahead (a : AlertUnit) (n : Nat) : Prop := a.noticeCounter = a.recordCounter + BitVec.ofNat 32 n

/-- The alerts that stand pending or on the air. -/
def AlertUnit.standing (a : AlertUnit) : Nat := a.table.length + a.onAir.toList.length

theorem AlertUnit.standing_congr {a b : AlertUnit} (table : b.table.length = a.table.length)
    (onAir : b.onAir.isSome = a.onAir.isSome) : b.standing = a.standing := by
  unfold AlertUnit.standing
  rw [table]
  cases ha : a.onAir <;> cases hb : b.onAir <;> simp_all

theorem AlertUnit.standing_of_onAir {a : AlertUnit} {o : OnAirAlert} (onAir : a.onAir = some o) : a.standing = a.table.length + 1 := by
  unfold AlertUnit.standing; rw [onAir]; rfl

/-- The identity of R130: the notices not logged are those of the alerts that stand. -/
theorem AlertUnit.balanced_iff (a : AlertUnit) : a.balanced ↔ a.ahead a.standing := Iff.rfl

@[simp] theorem AlertUnit.foldl_writePending_table (out : LogOutcome) (ps : List PendingAlert) (a : AlertUnit) :
    (ps.foldl (fun acc p => acc.writePending p out) a).table = a.table := by
  induction ps generalizing a with
  | nil => rfl
  | cons p ps ih => exact ih _

namespace AlertUnit.ahead

variable {a b : AlertUnit} {n : Nat}

theorem count (h : a.ahead n) : ({ a with noticeCounter := a.noticeCounter + 1#32 } : AlertUnit).ahead (n + 1) := by
  show a.noticeCounter + 1#32 = a.recordCounter + BitVec.ofNat 32 (n + 1)
  rw [h, BitVec.ofNat_add n 1, BitVec.add_assoc]

/-- A record written logs one notice (R128). -/
theorem logged (h : a.ahead (n + 1)) (notices : b.noticeCounter = a.noticeCounter := by rfl)
    (records : b.recordCounter = a.recordCounter + 1#32 := by rfl) : b.ahead n := by
  show b.noticeCounter = b.recordCounter + BitVec.ofNat 32 n
  rw [notices, records, h, BitVec.ofNat_add n 1, BitVec.add_assoc, BitVec.add_comm 1#32]

theorem writeAll (out : LogOutcome) (ps : List PendingAlert) (h : a.ahead (n + ps.length)) :
    (ps.foldl (fun acc p => acc.writePending p out) a).ahead n := by
  induction ps generalizing a with
  | nil => exact h
  | cons p ps ih => exact ih (AlertUnit.ahead.logged (n := n + ps.length) h)

end AlertUnit.ahead

/-! ### The alert unit -/

namespace AlertUnit.balanced

variable {a b : AlertUnit}

/-- The counters of an alert unit, and the number of alerts that stand in one with the same counters. -/
theorem of_ahead {n : Nat} (h : a.ahead n) (standing : b.standing = n) (notices : b.noticeCounter = a.noticeCounter := by rfl)
    (records : b.recordCounter = a.recordCounter := by rfl) : b.balanced := by
  show b.noticeCounter = b.recordCounter + BitVec.ofNat 32 b.standing
  rw [notices, records, standing]
  exact h

/-- A record is written, and one notice fewer is not logged. -/
theorem of_logged {n : Nat} (h : a.ahead (n + 1)) (standing : b.standing = n) (notices : b.noticeCounter = a.noticeCounter := by rfl)
    (records : b.recordCounter = a.recordCounter + 1#32 := by rfl) : b.balanced :=
  of_ahead (h.logged notices records) standing

section
variable (h : a.balanced)
include h

/-- What a sweep stops is logged, and the rest stays pending (R119). -/
theorem sweep (alertWake : Bool) : (a.sweep alertWake).balanced := by
  have parts := List.length_eq_length_filter_add (l := a.table) fun p => offAirStops alertWake p.cls
  have standing : (a.sweep alertWake).standing + (a.table.filter fun p => offAirStops alertWake p.cls).length = a.standing := by
    unfold AlertUnit.sweep AlertUnit.standing
    rw [AlertUnit.foldl_writePending_table, AlertUnit.foldl_writePending_onAir]
    dsimp only
    omega
  exact AlertUnit.ahead.writeAll .notAired _ (standing ▸ h)

theorem tick : a.tick.balanced := by
  have standing : a.tick.standing = a.standing := AlertUnit.standing_congr
    (by unfold AlertUnit.tick; (repeat' split) <;> rfl) a.tick_onAir
  exact of_ahead h standing (by unfold AlertUnit.tick; (repeat' split) <;> rfl) (by unfold AlertUnit.tick; (repeat' split) <;> rfl)

/-- A global reset logs whatever is on the air or pending (R131). -/
theorem globalReset (now : Clock) : (a.globalReset now).balanced := by
  have pending : ∀ {b : AlertUnit}, b.ahead a.table.length → (a.table.foldl (fun acc p => acc.writePending p .aborted) b).ahead 0 :=
    fun counted => AlertUnit.ahead.writeAll .aborted a.table (by rwa [Nat.zero_add])
  unfold AlertUnit.globalReset
  cases onAir : a.onAir with
  | none =>
    have counted : a.ahead a.table.length := by simpa [AlertUnit.balanced_iff, AlertUnit.standing, onAir] using h
    exact pending counted
  | some o =>
    have counted : a.ahead (a.table.length + 1) := by simpa [AlertUnit.balanced_iff, AlertUnit.standing, onAir] using h
    exact pending counted.logged

end

end AlertUnit.balanced

/-! ### Changes of the state -/

/-- The unit takes an alert only where none is on the air (R117). -/
theorem State.onAir_of_mayTake {s : State} {p : PendingAlert} (may : s.mayTake p = true) : s.al.onAir = none := by
  by_contra busy
  exact Bool.false_ne_true ((State.not_mayTake (.inr (.inl busy)) p).symm.trans may)

/-- A change that keeps the notice count identity. -/
structure State.Tallies (s t : State) : Prop where
  al : s.al.balanced → t.al.balanced := by exact fun h => h

namespace State.Tallies

variable {s t u : State}

theorem refl (s : State) : s.Tallies s := {}

theorem trans (h : s.Tallies t) (k : t.Tallies u) : s.Tallies u := ⟨k.al ∘ h.al⟩

theorem of_al (al : t.al = s.al) : s.Tallies t := ⟨fun h => al ▸ h⟩

theorem ite {c : Prop} [Decidable c] (ht : s.Tallies t) (hu : s.Tallies u) : s.Tallies (if c then t else u) := by
  split
  · exact ht
  · exact hu

/-- A fold of operations that keep the identity keeps it. -/
theorem foldl {α : Type} {f : State → α → State} (hf : ∀ t a, State.Tallies t (f t a)) (xs : List α) : s.Tallies (xs.foldl f s) :=
  foldl_preserves (I := s.Tallies) (fun t a h => h.trans (hf t a)) xs (.refl s)

end State.Tallies

/-- What reaches the sequencer and the roster alone keeps it. -/
theorem State.Within.tallies {s t : State} (h : s.Within (fun _ => True) t) : s.Tallies t := .of_al h.al

section
variable (s : State)

theorem State.lookChangeover_al : s.lookChangeover.al = s.al := by unfold State.lookChangeover; split <;> rfl

theorem State.announceAir_al (old : AirState) : (s.announceAir old).al = s.al := by
  unfold State.announceAir
  rw [State.lookChangeover_al]
  split <;> rfl

theorem State.wake_al : s.wake.al = s.al := by
  unfold State.wake
  split
  · exact State.announceAir_al _ _
  · rfl

theorem State.tallies_lookChangeover : s.Tallies s.lookChangeover := .of_al s.lookChangeover_al

theorem State.tallies_announceAir (old : AirState) : s.Tallies (s.announceAir old) := .of_al (s.announceAir_al old)

theorem State.tallies_sweep : s.Tallies s.sweep := ⟨(·.sweep _)⟩

theorem State.tallies_push (c : Cause) : s.Tallies (s.push c) := .of_al (s.push_al c)

theorem State.tallies_endWake : s.Tallies s.endWake := by
  unfold State.endWake
  split
  · split
    · exact .trans {} (State.tallies_announceAir _ .alertWake)
    · exact .trans (.trans {} (State.tallies_announceAir (s.setAir .offAir) .alertWake)) (State.tallies_sweep _)
  · exact .refl s

/-- A pop reaches the alert unit with the end of a wake alone (R60, R67). -/
theorem State.tallies_pop (taker : ResumeBy) (k : ResumeKind) : s.Tallies (s.pop taker k) := by
  unfold State.pop
  split
  · exact .refl s
  · rename_i r rest _
    have popped : s.Tallies (s.popped r rest taker k) := .of_al (s.popped_within r rest taker k).al
    have delay : ∀ u : State, u.Tallies (u.restoreDelay r) := fun u => .ite (.trans {} (State.tallies_endWake (u.setDu _))) (.refl u)
    exact (popped.trans (delay _)).trans (s.popRecord_after_delay rest taker k).tallies

/-- A pending alert that takes the air stands there, where none did (R117, R120). -/
theorem State.tallies_takeAir {p : PendingAlert} {rest : List PendingAlert} (table : s.al.table = p :: rest) (quiet : s.al.onAir = none) :
    s.Tallies (s.takeAir p rest) where
  al h := by
    rw [State.takeAir_eq, State.raise_al]
    show ((s.attending p rest).push .alert).al.balanced
    rw [State.push_al]
    have wake := s.wake_al
    have notices : s.wake.al.noticeCounter = s.al.noticeCounter := by rw [wake]
    have records : s.wake.al.recordCounter = s.al.recordCounter := by rw [wake]
    refine .of_ahead h ?_ notices records
    unfold AlertUnit.standing
    rw [table, quiet]
    rfl

theorem State.tallies_checkAlerts : s.Tallies s.checkAlerts := by
  unfold State.checkAlerts
  split
  · exact .refl s
  · rename_i table
    split
    · rename_i may
      exact s.tallies_takeAir table (State.onAir_of_mayTake (Bool.and_eq_true_iff.mp may).2)
    · exact .refl s

theorem State.tallies_takeBreak : s.Tallies s.takeBreak := by
  unfold State.takeBreak State.breakOpportunity
  split
  · split
    · exact {}
    · rename_i table
      split
      · rename_i may
        exact .trans {} (State.tallies_takeAir (s.setSq { s.sq with breakSignal := false }) table
          (State.onAir_of_mayTake (Bool.and_eq_true_iff.mp may).2))
      · exact {}
  · exact .refl s

/-! ### The alert unit's events and requests -/

/-- A notice counted that stands nowhere yet enters the table, or it or the last alert of a full table is logged (R113). -/
theorem State.enterTable_balanced {s : State} (counted : s.al.ahead (s.al.standing + 1)) (p : PendingAlert) :
    (s.enterTable p).1.al.balanced := by
  have entered : ∀ {a : AlertUnit} {ps : List PendingAlert}, a.ahead (ps.length + 1 + a.onAir.toList.length) →
      (State.checkAlerts ((s.setAl { a with table := placePending p ps }).raise .alertPending)).al.balanced := fun {a ps} ahead =>
    (State.tallies_checkAlerts _).al (.of_ahead ahead (by unfold AlertUnit.standing; rw [← placePending_length p ps]; rfl))
  unfold State.enterTable
  split
  · refine entered ?_
    rw [Nat.add_right_comm]
    exact counted
  · rename_i full
    split
    · rename_i none
      exact absurd (by rw [List.getLast?_eq_none_iff.mp none]; decide) full
    · rename_i low last
      split
      · have nonempty : s.al.table ≠ [] := fun none => by simp [none] at last
        have length : s.al.table.dropLast.length + 1 = s.al.table.length := by
          rw [List.length_dropLast]
          exact Nat.sub_add_cancel (List.length_pos_iff.mpr nonempty)
        refine entered (ps := s.al.table.dropLast) (AlertUnit.ahead.logged (a := s.al) ?_)
        rw [length]
        exact counted
      · exact .of_logged counted rfl

theorem State.tallies_notice (n : Notice) : s.Tallies (s.notice n).1 where
  al h := by
    have counted : ({ s.al with noticeCounter := s.al.noticeCounter + 1#32 } : AlertUnit).ahead (s.al.standing + 1) :=
      AlertUnit.ahead.count h
    unfold State.notice
    split
    · exact h
    · dsimp only
      split
      · exact .of_logged counted rfl
      · split
        · exact .of_logged counted rfl
        · split
          · rename_i onAir
            split
            · exact .of_logged counted (AlertUnit.standing_congr rfl (by rw [onAir]; rfl))
            · exact State.enterTable_balanced (s := s.setAl _) counted _
          · exact State.enterTable_balanced (s := s.setAl _) counted _

theorem State.tallies_windowExpiry (id : Nat) : s.Tallies (s.windowExpiry id) := by
  refine .ite (.trans (t := s.setAl _) ⟨fun h => ?_⟩ (State.tallies_checkAlerts _)) (.refl s)
  exact .of_ahead h (AlertUnit.standing_congr (List.length_map ..) rfl)

theorem State.tallies_attentionEnd : s.Tallies s.attentionEnd := by
  unfold State.attentionEnd
  split
  · rename_i onAir
    exact .ite ⟨fun h => .of_ahead h (AlertUnit.standing_congr rfl (by rw [onAir]; rfl))⟩ (.refl s)
  · exact .refl s

theorem State.tallies_messageTruncated : s.Tallies s.messageTruncated := by
  unfold State.messageTruncated
  split
  · rename_i onAir
    exact .ite ⟨fun h => .of_ahead h (AlertUnit.standing_congr rfl (by rw [onAir]; rfl))⟩ (.refl s)
  · exact .refl s

/-- An alert that ends is logged and leaves the air (R124). -/
theorem State.tallies_endAlert {o : OnAirAlert} (onAir : s.al.onAir = some o) : s.Tallies (s.endAlert o) := by
  have closed : s.Tallies (s.closed o) :=
    ⟨fun h => .of_logged (a := s.al) (n := s.al.table.length) (AlertUnit.standing_of_onAir onAir ▸ h) rfl⟩
  have popped := closed.trans (State.tallies_pop _ .alertUnit s.pf.working.afterAlert)
  exact (popped.trans (.trans {} (State.tallies_checkAlerts (State.raise _ .alertDone)))).trans (State.tallies_takeBreak _)

theorem State.tallies_alertEnd : s.Tallies s.alertEnd := by
  unfold State.alertEnd
  split
  · rename_i onAir
    exact .ite (s.tallies_endAlert onAir) (.refl s)
  · exact .refl s

theorem State.tallies_audioEnd (id : Nat) : s.Tallies (s.audioEnd id).state := by
  unfold State.audioEnd
  split
  · exact .refl s
  · rename_i onAir
    split
    · exact .refl s
    · split
      · exact ⟨fun h => .of_ahead h (AlertUnit.standing_congr rfl (by rw [onAir]; rfl))⟩
      · exact .refl s

/-- A pending alert cancelled is logged and leaves the table; one on the air stays there (R127). -/
theorem State.tallies_cancel (id : Nat) : s.Tallies (s.cancel id).state := by
  unfold State.cancel
  split
  · rename_i p found
    have mem := List.mem_of_find?_eq_some found
    have length := List.length_eraseP_of_mem (p := fun q => decide (q.id = p.id)) mem (decide_eq_true rfl)
    have pos := List.length_pos_of_mem mem
    refine .trans (t := s.setAl _) ⟨fun h => ?_⟩ (State.tallies_checkAlerts _)
    refine .of_logged (a := s.al) (n := (s.al.table.eraseP fun q => decide (q.id = p.id)).length + s.al.onAir.toList.length) ?_ rfl
    have standing : s.al.standing = s.al.table.length + s.al.onAir.toList.length := rfl
    rw [length, show s.al.table.length - 1 + s.al.onAir.toList.length + 1 = s.al.standing by omega]
    exact h
  · rename_i onAir
    split
    · unfold State.cancelOnAir
      split
      · exact .refl s
      · exact ⟨fun h => .of_ahead h (AlertUnit.standing_congr rfl (by rw [onAir]; rfl))⟩
    · exact .refl s
  · exact .refl s

/-! ### The air state block -/

theorem State.tallies_signOn (enabled : Bool) : s.Tallies (s.signOn enabled).1 := by
  unfold State.signOn
  split
  · exact .refl s
  · split <;> exact .refl s
  · split
    · exact {}
    · exact .refl s
  · split
    · exact .trans (.trans {} (State.tallies_announceAir (s.setAir .onAir) .offAir)) (State.tallies_checkAlerts _)
    · exact .refl s

theorem State.tallies_signOff : s.Tallies s.signOff.1 := by
  have looked : ∀ u : State, u.Tallies u.sweep.checkAlerts.takeBreak := fun u =>
    (u.tallies_sweep.trans (State.tallies_checkAlerts _)).trans (State.tallies_takeBreak _)
  have now : s.Tallies s.signOffNow := by
    have dropped : ∀ {u : State} (lc : LineController) (c : Bool) (du : Delay),
        u.Tallies ((({ u with lc := lc } : State).raiseIf c .queueChange).setDu du) := fun lc c du =>
      .of_al (State.raiseIf_al _ c .queueChange)
    have stopped : s.Tallies (((s.setAir .offAir).updRoster fun _ e => e.setOff).setSq
      ((s.setAir .offAir).updRoster fun _ e => e.setOff).sq.stop) := {}
    exact (((stopped.trans (dropped _ _ _)).trans (State.tallies_announceAir _ .onAir)).trans (looked _)).trans {}
  unfold State.signOff
  split
  · exact .refl s
  · split
    · exact .refl s
    · split
      · exact now
      · exact .refl s
end

end Sys2Proof.Machine
end

section
/-! SUPPORT. Every command keeps the notice count identity (O55): what reaches the alert unit from the other blocks, and what reaches it
not at all. -/

namespace Sys2Proof.Machine

set_option Elab.async false

section
variable (s : State)

/-! ### The air state block -/

theorem State.tallies_wakeChanged : s.Tallies s.wakeChanged := .ite (s.tallies_sweep.trans (State.tallies_checkAlerts _)) (.refl s)

theorem State.tallies_enterStartState (st : StartState) : s.Tallies (s.enterStartState st) := by
  have announced : s.Tallies ((s.setAir st.air).announceAir .starting) := .trans {} (State.tallies_announceAir _ _)
  exact .trans (.ite (announced.trans (State.tallies_sweep _)) announced) (State.tallies_checkAlerts _)

theorem State.tallies_startDelayExpiry : s.Tallies s.startDelayExpiry :=
  .ite (.trans {} (State.tallies_enterStartState _ _)) (.refl s)

theorem State.tallies_judgeBlock : s.Tallies s.judgeBlock := by
  unfold State.judgeBlock
  dsimp only
  split
  · split
    · exact ((s.tallies_push .failover).trans {}).trans (State.tallies_takeBreak _)
    · exact .of_al (State.raiseIf_al _ _ _)
  · exact {}

theorem State.tallies_blockJudged : s.Tallies s.blockJudged := by
  unfold State.blockJudged
  split
  · dsimp only
    split
    · exact s.tallies_judgeBlock.trans {}
    · exact {}
  · exact .refl s

/-! ### Lines -/

theorem State.tallies_leaveQueue (n : LineId) : s.Tallies (s.leaveQueue n) := .ite {} (.refl s)

theorem State.tallies_dropLine (n : LineId) : s.Tallies (s.dropLine n) := by
  have dropped : s.Tallies (((s.leaveQueue n).leaveOffers n).enterLine n .idle) := (s.tallies_leaveQueue n).trans {}
  exact .ite (dropped.trans {}) dropped

theorem State.tallies_ringArmed (n : LineId) : s.Tallies (s.ringArmed n) := .ite {} (.refl s)

theorem State.tallies_ringBurst (n : LineId) : s.Tallies (s.ringBurst n) := by
  refine .ite ?_ (.refl s)
  dsimp only
  split
  · exact {}
  · exact {}
  · exact {}

theorem State.tallies_ringExpiry (n : LineId) : s.Tallies (s.ringExpiry n) := by
  unfold State.ringExpiry
  split
  · exact .ite {} (.refl s)
  · exact .refl s

theorem State.tallies_loopLoss (n : LineId) : s.Tallies (s.loopLoss n) := .ite ((s.tallies_dropLine n).trans {}) (.refl s)

theorem State.tallies_holdLong (n : LineId) : s.Tallies (s.holdLong n) := .ite {} (.refl s)

theorem State.tallies_settleLine (n : LineId) : s.Tallies (s.settleLine n) :=
  ((((s.tallies_ringBurst n).trans (State.tallies_ringArmed _ n)).trans (State.tallies_ringExpiry _ n)).trans
    (State.tallies_loopLoss _ n)).trans (State.tallies_holdLong _ n)

/-! ### The link and the lanes -/

theorem State.tallies_replyWindowClose : s.Tallies s.replyWindowClose := by
  unfold State.replyWindowClose
  split
  · exact .ite (.ite (.trans {} (State.tallies_lookChangeover _)) {}) (.refl s)
  · exact .refl s

theorem State.tallies_pollTimerExpiry : s.Tallies s.pollTimerExpiry := .ite {} (.refl s)

theorem State.tallies_frameBoundary : s.Tallies s.frameBoundary := .ite {} (.refl s)

theorem State.tallies_returnCharacter (w : Waveform) : s.Tallies (s.returnCharacter w) := by
  refine .ite (.refl s) ?_
  unfold State.receive
  dsimp only
  split
  · exact {}
  · exact {}
  · exact {}
  · exact {}

theorem State.tallies_checkReflect (u : UnitId) (st : UnitStatus) : s.Tallies (s.checkReflect u st) :=
  .ite (.ite (.ite {} (.refl s)) {}) (.refl s)

theorem State.tallies_remoteFallback : s.Tallies s.remoteFallback :=
  .ite {} ((s.tallies_push .remoteFallback).trans (State.tallies_takeBreak _))

theorem State.tallies_remoteJudged (r : State × ReplyCode) : r.1.Tallies (remoteJudged r) := by
  unfold remoteJudged
  split
  · exact {}
  · exact {}
  · exact .refl _

theorem State.tallies_remoteRequest (code : Byte) : s.Tallies (s.remoteRequest code) := by
  unfold State.remoteRequest
  split
  · exact s.tallies_remoteFallback
  · exact s.tallies_signOff.trans (State.tallies_remoteJudged _)
  · exact (s.tallies_signOn _).trans (State.tallies_remoteJudged _)
  · exact {}
  · exact {}
  · exact .refl s

theorem State.tallies_judgeRequest (u : UnitId) (code : Byte) : s.Tallies (s.judgeRequest u code) :=
  .trans (.ite (s.tallies_remoteRequest code) (.refl s)) {}

theorem State.tallies_judgeMessage (m : Assembly) : s.Tallies (s.judgeMessage m) := by
  refine .ite ?_ {}
  have reflected : ∀ l, s.Tallies ((s.setTl l).checkReflect m.unit m.status) := fun l =>
    .trans {} ((s.setTl l).tallies_checkReflect m.unit m.status)
  exact ((reflected _).trans (State.tallies_judgeRequest _ m.unit m.status.request)).trans (State.tallies_lookChangeover _)

theorem State.tallies_assemblerTake : s.Tallies s.assemblerTake := by
  unfold State.assemblerTake
  split
  · exact .refl s
  · split
    · exact .refl s
    · dsimp only
      split
      · exact .trans {} (State.tallies_judgeMessage (s.setTl _) _)
      · exact {}

theorem State.tallies_heard (l : LaneId) (bytes : List Byte) : s.Tallies (s.heard l bytes) := .ite {} (.ite {} (.refl s))

theorem State.tallies_transactionStart (l : LaneId) : s.Tallies (s.transactionStart l) := .ite {} (.ite {} (.refl s))

theorem State.tallies_laneTimeout (l : LaneId) : s.Tallies (s.laneTimeout l) := .ite {} (.refl s)

/-! ### The profile store and the resets -/

theorem State.tallies_fieldWritten (f : Field) : s.Tallies (s.fieldWritten f) := by
  unfold State.fieldWritten
  split
  · exact .trans {} (State.tallies_lookChangeover (s.setTl _))
  · exact s.tallies_lookChangeover
  · exact s.tallies_wakeChanged
  · exact .refl s

theorem State.tallies_profileWrite (l : LaneId) (body : List Byte) : s.Tallies (State.profileWrite l body s).1 := by
  unfold State.profileWrite
  split
  · split
    · exact .refl s
    · split
      · exact .refl s
      · split
        · exact .refl s
        · rename_i f _
          split
          · have written : ∀ v, s.Tallies ((s.setPf (s.pf.begin f v)).fieldWritten f) := fun v =>
              .trans {} ((s.setPf (s.pf.begin f v)).tallies_fieldWritten f)
            exact (written _).trans {}
          · exact .refl s
  · exact .refl s

theorem State.tallies_profileWriteComplete : s.Tallies s.profileWriteComplete := by
  unfold State.profileWriteComplete
  split
  · exact .ite {} (.refl s)
  · exact .refl s

theorem State.tallies_profileLoadComplete : s.Tallies s.profileLoadComplete :=
  .ite (.of_al (State.raiseIf_al _ (!s.pf.valid) .profileDefaulted)) (.refl s)

theorem State.tallies_globalReset : s.Tallies s.globalReset := by
  have reset : s.resetBlocks.al = s.al.globalReset s.ev.clock := by
    unfold State.resetBlocks
    exact State.raiseIf_al ..
  have blocks : s.Tallies s.resetBlocks := ⟨fun h => reset ▸ h.globalReset s.ev.clock⟩
  exact (blocks.trans {}).trans (State.tallies_enterStartState (s.resetBlocks.setTl (s.resetBlocks.tl.returnToMain s.tl.active)) _)

theorem State.tallies_powerOn (rst supply : Bool) : s.Tallies (s.powerOn rst supply) := ⟨fun _ => rfl⟩

/-! ### Settling and the mix -/

theorem State.tallies_settleStart : s.Tallies s.settleStart :=
  (s.tallies_profileWriteComplete.trans (State.tallies_profileLoadComplete _)).trans (State.tallies_startDelayExpiry _)

theorem State.tallies_itemEndEvent (d : DeckId) : s.Tallies (s.itemEndEvent d) :=
  (State.Within.tallies (.itemEnd (fun _ => trivial) (.refl s) d)).trans (State.tallies_takeBreak _)

theorem State.tallies_seguePointEvent : s.Tallies s.seguePointEvent :=
  (State.Within.tallies (.seguePoint (fun _ => trivial) (.refl s))).trans (State.tallies_takeBreak _)

theorem State.tallies_fadeOutPoint (d : DeckId) : s.Tallies (s.fadeOutPoint d) :=
  State.Within.tallies (.fadeOutPoint (fun _ => trivial) (.refl s) d)

theorem State.tallies_settleSequencer : s.Tallies s.settleSequencer :=
  ((((s.tallies_fadeOutPoint .a).trans (State.tallies_fadeOutPoint _ .b)).trans (State.tallies_seguePointEvent _)).trans
    (State.tallies_itemEndEvent _ .a)).trans (State.tallies_itemEndEvent _ .b)

theorem State.tallies_settleAlert : s.Tallies s.settleAlert :=
  ((s.tallies_attentionEnd.trans (State.tallies_messageTruncated _)).trans (State.tallies_alertEnd _)).trans
    (.foldl (fun t id => t.tallies_windowExpiry id) _)

theorem State.tallies_settleLink : s.Tallies s.settleLink :=
  ((s.tallies_replyWindowClose.trans (State.tallies_pollTimerExpiry _)).trans (State.tallies_frameBoundary _)).trans
    (State.tallies_assemblerTake _)

theorem State.tallies_settle : s.Tallies s.settle := by
  have released : s.Tallies s.settleStart.settleRoster := s.tallies_settleStart.trans {}
  have judged := ((released.trans (State.tallies_settleSequencer _)).trans (State.tallies_settleAlert _)).trans
    (State.tallies_blockJudged _)
  have linked := (judged.trans (.foldl State.tallies_settleLine LineId.all)).trans (State.tallies_settleLink _)
  exact ((linked.trans (State.tallies_laneTimeout _ .aut)).trans (State.tallies_laneTimeout _ .con)).trans
    (State.tallies_laneTimeout _ .alr)

theorem State.tallies_mixPeriod (f : InputFrame) : s.Tallies (s.mixPeriod f) where
  al h := by
    show s.al.tick.balanced
    exact h.tick

theorem State.tallies_mix (f : InputFrame) : s.Tallies (s.mix f) :=
  .ite (.refl s) (s.tallies_settle.trans (State.tallies_mixPeriod _ f))

theorem State.tallies_mixIf (c : Prop) [Decidable c] (f : InputFrame) : s.Tallies (if c then s.mix f else s) :=
  .ite (s.tallies_mix f) (.refl s)

end

/-! ### The owners of the requests -/

section
variable {s : State} (body : List Byte)

/-- A request taken by the sequencer, with the break opportunity it gives (R47). -/
theorem Answer.Sequences.tallies {a : Answer} (h : a.Sequences s) : s.Tallies a.state := by
  rcases h with same | ⟨t, within, taken⟩
  · rw [same]; exact .refl s
  · rw [taken]; exact within.tallies.trans (State.tallies_takeBreak t)

variable (s)

/-- A line request keeps the identity where its owner does. -/
theorem tallies_onLine {own : LineId → State → Answer} (ho : ∀ n, s.Tallies (own n s).state) :
    s.Tallies (onLine own body s).state := by
  unfold onLine
  split
  · split
    · exact .refl s
    · exact ho _
  · exact .refl s

theorem tallies_ownLineScreen (n : LineId) : s.Tallies (ownLineScreen n s).state := by
  unfold ownLineScreen
  split
  · exact (s.tallies_leaveQueue n).trans {}
  · exact .refl s

theorem tallies_ownLineDrop (n : LineId) : s.Tallies (ownLineDrop n s).state := by
  unfold ownLineDrop
  split
  · exact s.tallies_dropLine n
  · exact .refl s

theorem tallies_ownLineAir : s.Tallies (ownLineAir body s).state := by
  unfold ownLineAir
  split
  · split
    · exact .refl s
    · split
      · exact .refl s
      · split
        · exact .refl s
        · exact (s.tallies_leaveQueue _).trans {}
  · exact .refl s

theorem tallies_ownBreakIn : s.Tallies (ownBreakIn body s).state := by
  unfold ownBreakIn
  split
  · exact .refl s
  · exact (s.tallies_push .breakIn).trans (State.tallies_takeBreak _)

theorem tallies_ownResume (l : LaneId) : s.Tallies (ownResume l body s).state := by
  unfold ownResume
  split
  · split
    · exact .refl s
    · exact .refl s
    · split
      · exact (s.tallies_pop _ _).trans (State.tallies_takeBreak _)
      · exact .refl s
  · exact .refl s

theorem tallies_ownAlertNotice : s.Tallies (ownAlertNotice body s).state := by
  unfold ownAlertNotice
  split
  · exact .refl s
  · exact s.tallies_notice _

theorem tallies_ownAlertAudioEnd : s.Tallies (ownAlertAudioEnd body s).state := by
  unfold ownAlertAudioEnd
  split
  · exact s.tallies_audioEnd _
  · exact .refl s

theorem tallies_ownAlertCancel : s.Tallies (ownAlertCancel body s).state := by
  unfold ownAlertCancel
  split
  · exact s.tallies_cancel _
  · exact .refl s

theorem tallies_ownAlertRearm : s.Tallies (ownAlertRearm body s).state := by
  unfold ownAlertRearm
  split
  · exact .refl s
  · exact .trans (t := s.setAl { s.al with armed := true }) {} (State.tallies_checkAlerts _)

theorem tallies_ownWakeEnable : s.Tallies (ownWakeEnable body s).state := by
  unfold ownWakeEnable
  split
  · exact .trans {} (State.tallies_wakeChanged (s.setPf _))
  · exact .refl s

/-! Owners of other blocks: each of their branches is a reply, or an update that leaves the alert unit -/

theorem tallies_ownDoneRead : s.Tallies (ownDoneRead body s).state := by unfold ownDoneRead; split <;> exact {}

theorem tallies_ownSourceGain (l : LaneId) : s.Tallies (ownSourceGain l body s).state := by
  unfold ownSourceGain; (repeat' split) <;> exact {}

theorem tallies_ownTurn (still : EntryState) (f : Nat → Entry → Entry) (l : LaneId) : s.Tallies (ownTurn still f l body s).state := by
  unfold ownTurn; (repeat' split) <;> exact {}

theorem tallies_ownSourceTake : s.Tallies (ownSourceTake body s).state := by unfold ownSourceTake; (repeat' split) <;> exact {}

theorem tallies_ownSourceRelease : s.Tallies (ownSourceRelease body s).state := by
  unfold ownSourceRelease; (repeat' split) <;> exact {}

theorem tallies_ownLineAnswer (n : LineId) : s.Tallies (ownLineAnswer n s).state := by unfold ownLineAnswer; split <;> exact {}

theorem tallies_ownLineHold (n : LineId) : s.Tallies (ownLineHold n s).state := by
  unfold ownLineHold; (repeat' split) <;> exact {}

theorem tallies_ownLineReady (front : Bool) (n : LineId) : s.Tallies (ownLineReady front n s).state := by
  unfold ownLineReady; split <;> exact {}

theorem tallies_ownDelayTarget : s.Tallies (ownDelayTarget body s).state := by unfold ownDelayTarget; split <;> exact {}

theorem tallies_ownDelayDump : s.Tallies (ownDelayDump body s).state := by unfold ownDelayDump; split <;> exact {}

theorem tallies_ownLogRead : s.Tallies (ownLogRead body s).state := by unfold ownLogRead; (repeat' split) <;> exact {}

theorem tallies_ownTxSelect : s.Tallies (ownTxSelect body s).state := by
  unfold ownTxSelect State.txSelect; (repeat' split) <;> exact {}

theorem tallies_ownStatusRead : s.Tallies (ownStatusRead body s).state := by unfold ownStatusRead; (repeat' split) <;> exact {}

theorem tallies_ownEventEnable (l : LaneId) : s.Tallies (ownEventEnable l body s).state := by unfold ownEventEnable; split <;> exact {}

theorem tallies_ownEventClear (l : LaneId) : s.Tallies (ownEventClear l body s).state := by unfold ownEventClear; split <;> exact {}

theorem tallies_ownProfileRead : s.Tallies (ownProfileRead body s).state := by
  unfold ownProfileRead
  split
  · rw [State.profileRead_state]; exact .refl s
  · exact .refl s

end

/-! ### The step -/

section
variable {s : State} (l : LaneId) (code : Byte) (rest : List Byte) (allowed : Bool) (need : Nat)

theorem State.Tallies.request {own : List Byte → State → Answer} (ho : ∀ b t, State.Tallies t (own b t).state) :
    s.Tallies (s.request l code rest allowed need own) where
  al h := State.request_preserves (I := State.noticesBalance) (fun _ _ _ ht => ht) h l code rest allowed need fun b t ht => (ho b t).al ht

theorem State.Tallies.transact {known : Bool} {own : List Byte → State → State × Option (ReplyCode × List Byte)}
    (ho : ∀ b t, State.Tallies t (own b t).1) : s.Tallies (s.transact l code rest known allowed need own) where
  al h := State.transact_preserves (I := State.noticesBalance) (fun _ _ _ ht => ht) h l code rest known allowed need fun b t ht =>
    (ho b t).al ht

end

/-- Every command keeps the notice count identity. -/
theorem tallies_exec {s t : State} (c : Instr) (e : exec c s = .next t) : s.Tallies t := by
  cases c with
  | powerOn rst supply => exact holds_of_next (s.tallies_powerOn rst supply) e
  | profileLoadComplete => exact holds_of_next s.tallies_profileLoadComplete e
  | startDelayExpiry => exact holds_of_next s.tallies_startDelayExpiry e
  | globalReset l rest => exact holds_of_next (.request l _ rest _ _ fun _ t => t.tallies_globalReset) e
  | mix f => exact holds_of_next (s.tallies_mix f) e
  | releaseRampEnd src => exact holds_of_next (I := s.Tallies) (s := s.releaseRampEnd src) {} e
  | buildStep f => exact holds_of_next (s.tallies_mixIf _ f) e
  | catchUpStep f => exact holds_of_next (s.tallies_mixIf _ f) e
  | fadeOutPoint d => exact holds_of_next (s.tallies_fadeOutPoint d) e
  | seguePoint => exact holds_of_next s.tallies_seguePointEvent e
  | itemEnd d => exact holds_of_next (s.tallies_itemEndEvent d) e
  | seqAppend l rest => exact holds_of_next (.request l _ rest _ _ fun b t => (ownSeqAppend_sequences t b).tallies) e
  | seqInsert l rest => exact holds_of_next (.request l _ rest _ _ fun b t => (ownSeqInsert_sequences t b).tallies) e
  | seqRemove l rest => exact holds_of_next (.request l _ rest _ _ fun b t => (ownSeqRemove_sequences t b).tallies) e
  | seqReady l rest => exact holds_of_next (.request l _ rest _ _ fun b t => (ownSeqReady_sequences t b).tallies) e
  | seqStart l rest => exact holds_of_next (.request l _ rest _ _ fun b t => (ownSeqStart_sequences t b).tallies) e
  | seqStop l rest => exact holds_of_next (.request l _ rest _ _ fun b t => (ownSeqStop_sequences t b).tallies) e
  | seqSkip l rest => exact holds_of_next (.request l _ rest _ _ fun b t => (ownSeqSkip_sequences t b).tallies) e
  | seqContinue l rest => exact holds_of_next (.request l _ rest _ _ fun b t => (ownSeqContinue_sequences t b).tallies) e
  | doneRead l rest => exact holds_of_next (.request l _ rest _ _ fun b t => tallies_ownDoneRead t b) e
  | sourceGain l rest => exact holds_of_next (.request l _ rest _ _ fun b t => tallies_ownSourceGain t b l) e
  | sourceOn l rest => exact holds_of_next (.request l _ rest _ _ fun b t => ownSourceOn_eq l ▸ tallies_ownTurn t b _ _ l) e
  | sourceOff l rest => exact holds_of_next (.request l _ rest _ _ fun b t => ownSourceOff_eq l ▸ tallies_ownTurn t b _ _ l) e
  | sourceTake l rest => exact holds_of_next (.request l _ rest _ _ fun b t => tallies_ownSourceTake t b) e
  | sourceRelease l rest => exact holds_of_next (.request l _ rest _ _ fun b t => tallies_ownSourceRelease t b) e
  | breakIn l rest => exact holds_of_next (.request l _ rest _ _ fun b t => tallies_ownBreakIn t b) e
  | resume l rest => exact holds_of_next (.request l _ rest _ _ fun b t => tallies_ownResume t b l) e
  | lineAnswer l rest => exact holds_of_next (.request l _ rest _ _ fun b t => tallies_onLine t b (tallies_ownLineAnswer t)) e
  | lineScreen l rest => exact holds_of_next (.request l _ rest _ _ fun b t => tallies_onLine t b (tallies_ownLineScreen t)) e
  | lineHold l rest => exact holds_of_next (.request l _ rest _ _ fun b t => tallies_onLine t b (tallies_ownLineHold t)) e
  | lineReady l rest => exact holds_of_next (.request l _ rest _ _ fun b t => tallies_onLine t b (tallies_ownLineReady t _)) e
  | lineAir l rest => exact holds_of_next (.request l _ rest _ _ fun b t => tallies_ownLineAir t b) e
  | lineDrop l rest => exact holds_of_next (.request l _ rest _ _ fun b t => tallies_onLine t b (tallies_ownLineDrop t)) e
  | ringFilterArmed n => exact holds_of_next (s.tallies_ringArmed n) e
  | ringBurst n => exact holds_of_next (s.tallies_ringBurst n) e
  | ringExpiry n => exact holds_of_next (s.tallies_ringExpiry n) e
  | loopLoss n => exact holds_of_next (s.tallies_loopLoss n) e
  | holdLong n => exact holds_of_next (s.tallies_holdLong n) e
  | delayTarget l rest => exact holds_of_next (.request l _ rest _ _ fun b t => tallies_ownDelayTarget t b) e
  | delayDump l rest => exact holds_of_next (.request l _ rest _ _ fun b t => tallies_ownDelayDump t b) e
  | alertNotice l rest => exact holds_of_next (.request l _ rest _ _ fun b t => tallies_ownAlertNotice t b) e
  | windowExpiry id => exact holds_of_next (s.tallies_windowExpiry id) e
  | attentionEnd => exact holds_of_next s.tallies_attentionEnd e
  | messageTruncated => exact holds_of_next s.tallies_messageTruncated e
  | alertAudioEnd l rest => exact holds_of_next (.request l _ rest _ _ fun b t => tallies_ownAlertAudioEnd t b) e
  | alertCancel l rest => exact holds_of_next (.request l _ rest _ _ fun b t => tallies_ownAlertCancel t b) e
  | alertRearm l rest => exact holds_of_next (.request l _ rest _ _ fun b t => tallies_ownAlertRearm t b) e
  | alertEnd => exact holds_of_next s.tallies_alertEnd e
  | logRead l rest => exact holds_of_next (.request l _ rest _ _ fun b t => tallies_ownLogRead t b) e
  | signOn l rest => exact holds_of_next (.request l _ rest _ _ fun _ t => t.tallies_signOn _) e
  | signOff l rest => exact holds_of_next (.request l _ rest _ _ fun _ t => t.tallies_signOff) e
  | wakeEnable l rest => exact holds_of_next (.request l _ rest _ _ fun b t => tallies_ownWakeEnable t b) e
  | blockJudged => exact holds_of_next s.tallies_blockJudged e
  | frameBoundary => exact holds_of_next s.tallies_frameBoundary e
  | pollTimerExpiry => exact holds_of_next s.tallies_pollTimerExpiry e
  | replyWindowClose => exact holds_of_next s.tallies_replyWindowClose e
  | returnCharacter w => exact holds_of_next (s.tallies_returnCharacter w) e
  | assemblerTake => exact holds_of_next s.tallies_assemblerTake e
  | txSelect l rest => exact holds_of_next (.request l _ rest _ _ fun b t => tallies_ownTxSelect t b) e
  | ceilingRestore l rest => exact holds_of_next (.request l _ rest _ _ fun _ _ => {}) e
  | transactionStart l => exact holds_of_next (s.tallies_transactionStart l) e
  | readOnlyTransaction l bytes => exact holds_of_next (s.tallies_heard l bytes) e
  | laneTimeout l => exact holds_of_next (s.tallies_laneTimeout l) e
  | nop l rest => exact holds_of_next (.request l _ rest _ _ fun _ t => .refl t) e
  | statusRead l rest => exact holds_of_next (.request l _ rest _ _ fun b t => tallies_ownStatusRead t b) e
  | eventEnable l rest => exact holds_of_next (.request l _ rest _ _ fun b t => tallies_ownEventEnable t b l) e
  | eventClear l rest => exact holds_of_next (.request l _ rest _ _ fun b t => tallies_ownEventClear t b l) e
  | clockWrap f => exact holds_of_next (s.tallies_mixIf _ f) e
  | profileRead l rest => exact holds_of_next (.request l _ rest _ _ fun b t => tallies_ownProfileRead t b) e
  | profileWrite l eng rest => exact holds_of_next (.transact l _ rest _ _ fun b t => t.tallies_profileWrite l b) e
  | profileWriteComplete => exact holds_of_next s.tallies_profileWriteComplete e
  | unknownRequestCode l code rest =>
    have e : execUnknownRequestCode l code rest s = .next t := e
    unfold execUnknownRequestCode at e
    split at e
    · exact holds_of_next (s.tallies_heard l _) e
    · exact holds_of_next (.transact l _ rest _ _ fun _ t => .refl t) e

/-- Settles O55: a notice counted is logged or stands, an alert that stands no more is logged, and nothing else reaches either count. -/
theorem everyStepKeepsTheNoticeCount : Obligations.EveryStepKeepsTheNoticeCount := by
  intro s t h stepped
  unfold step at stepped
  split at stepped
  · exact holds_of_next h stepped
  · exact (tallies_exec _ stepped).al h

end Sys2Proof.Machine
end

section
/-! SUPPORT. The done records and the log records read out (R49, R129, R184; O27). -/

namespace Sys2Proof.Machine

set_option Elab.async false

/-! ### The bytes of a record -/

theorem DoneRecord.bytes_eq (r : DoneRecord) :
    r.bytes = bytesOf 2 r.item ++ bytesOf 1 ((if r.start.isSome then 1 else 0) + 2 * r.outcome.code) ++
      bytesOf 4 (r.start.getD 0#32).toNat ++ bytesOf 4 r.aired ++ [0#8] := by
  obtain ⟨item, start, aired, outcome⟩ := r
  unfold DoneRecord.bytes
  rw [Nat.mul_comm outcome.code]
  cases start with
  | none => rfl
  | some at_ => rfl

theorem airingBytes_eq (a : Option Airing) :
    airingBytes a = bytesOf 4 ((a.map (·.start)).getD 0#32).toNat ++ bytesOf 4 ((a.map (·.ms)).getD 0) := by
  cases a with
  | none => decide
  | some a => rfl

theorem LogRecord.bytes_eq (r : LogRecord) :
    r.bytes = bytesOf 2 r.number ++ bytesOf 4 r.id ++ bytesOf 1 r.cls.code ++ bytesOf 1 r.originator ++
      bytesOf 1 r.outcome.code ++ bytesOf 1 (if r.airing.isSome then 1 else 0) ++ bytesOf 4 r.arrival.toNat ++
      bytesOf 4 ((r.airing.map (·.start)).getD 0#32).toNat ++ bytesOf 4 ((r.airing.map (·.ms)).getD 0) := by
  unfold LogRecord.bytes
  rw [airingBytes_eq, List.append_assoc _ (bytesOf 4 _) (bytesOf 4 _)]
  rfl

section
variable {s : State} {body : List Byte}

/-! ### The done records -/

theorem ownDoneRead_nil (none : s.sq.done = []) : ownDoneRead body s = s.reply .nothing := by
  unfold ownDoneRead
  rw [none]

theorem ownDoneRead_cons {r : DoneRecord} {rs : List DoneRecord} (some : s.sq.done = r :: rs) :
    ownDoneRead body s = { state := s.setSq { s.sq with done := rs }, code := .done, body := r.bytes } := by
  unfold ownDoneRead
  rw [some]

/-! ### The log -/

variable {i : Byte} {more : List Byte}

theorem ownLogRead_past (past : 31 < i.toNat) : ownLogRead (i :: more) s = s.reply .unknown := if_pos past

theorem ownLogRead_none (within : i.toNat ≤ 31) (none : s.al.log[i.toNat]? = none) :
    ownLogRead (i :: more) s = s.reply .nothing := by
  simp only [ownLogRead, if_neg (Nat.not_lt.mpr within), none]

theorem ownLogRead_some (within : i.toNat ≤ 31) {r : LogRecord} (some : s.al.log[i.toNat]? = some r) :
    ownLogRead (i :: more) s = { state := s, code := .done, body := r.bytes } := by
  simp only [ownLogRead, if_neg (Nat.not_lt.mpr within), some]

end

/-- Settles O27: a list that holds a record gives it, one that does not answers NOTHING, and no other part is written. -/
theorem recordsAreReadOut : Obligations.RecordsAreReadOut := by
  refine ⟨fun s rest body asks => ⟨fun empty => ?_, fun r rs full => ?_⟩, fun s l rest more i asks => ?_⟩
  · exact turnedAway_of_reply asks rfl rfl (Nat.zero_le _) (ownDoneRead_nil empty)
  · rw [← DoneRecord.bytes_eq]
    exact completes_of_own (i := .doneRead .aut rest) asks rfl rfl (Nat.zero_le _) (ownDoneRead_cons full) rfl
  · have need : 1 ≤ (i :: more).length := Nat.le_add_left _ _
    refine ⟨fun past => ?_, fun within short => ?_, fun r within held => ?_⟩
    · exact turnedAway_of_reply asks rfl rfl need (ownLogRead_past past)
    · exact turnedAway_of_reply asks rfl rfl need (ownLogRead_none within (List.getElem?_eq_none short))
    · rw [← LogRecord.bytes_eq]
      exact completes_of_own (u := s.hearing l (0x03#8 :: rest)) asks rfl rfl need (ownLogRead_some within held) rfl

end Sys2Proof.Machine
end

section
/-! SUPPORT. The phases of the alert on the air, and the cancelling of an alert (R122, R123, R127; O37). -/

namespace Sys2Proof.Machine

set_option Elab.async false

/-- A pending alert written into the log is its record logged, however full the log is (R128). -/
theorem AlertUnit.writePending_eq (a : AlertUnit) (p : PendingAlert) (out : LogOutcome) :
    a.writePending p out = a.logged [p.record out] := by
  have lost : (if a.log.length < 32 then a.logOverwrites else countUp a.logOverwrites) =
      countUp^[1 - (32 - a.log.length)] a.logOverwrites := by
    split
    · rw [show 1 - (32 - a.log.length) = 0 by omega]; rfl
    · rw [show 1 - (32 - a.log.length) = 1 by omega]; rfl
  simp [AlertUnit.writePending, AlertUnit.write, AlertUnit.logged, PendingAlert.record, Config.logMax]
  exact lost

section
variable {s : State} {x : OnAirAlert} {id : Nat}

/-! ### The ends of ATTENTION and of MESSAGE -/

theorem State.attentionEnd_of_due (stands : s.al.onAir = some x) (phase : x.phase = .attention) (run : x.attention ≤ x.count) :
    s.attentionEnd = s.setOnAir (x.enter (if x.audio then .message else .closing)) := by
  unfold State.attentionEnd
  rw [stands]
  exact if_pos ⟨phase, run⟩

theorem State.attentionEnd_of_not (waits : ∀ x, s.al.onAir = some x → x.phase ≠ .attention ∨ x.count < x.attention) :
    s.attentionEnd = s := by
  unfold State.attentionEnd
  split
  · rename_i x stands
    exact if_neg fun ⟨phase, run⟩ => (waits x stands).elim (· phase) (Nat.not_lt_of_le run)
  · rfl

theorem State.messageTruncated_of_due (stands : s.al.onAir = some x) (phase : x.phase = .message) (run : x.maxDuration ≤ x.count) :
    s.messageTruncated = s.setOnAir { x.enter .closing with ending := some .truncated } := by
  unfold State.messageTruncated
  rw [stands]
  exact if_pos ⟨phase, run⟩

theorem State.messageTruncated_of_not (waits : ∀ x, s.al.onAir = some x → x.phase ≠ .message ∨ x.count < x.maxDuration) :
    s.messageTruncated = s := by
  unfold State.messageTruncated
  split
  · rename_i x stands
    exact if_neg fun ⟨phase, run⟩ => (waits x stands).elim (· phase) (Nat.not_lt_of_le run)
  · rfl

theorem State.alertEnd_of_quiet (quiet : s.al.onAir = none) : s.alertEnd = s := by
  unfold State.alertEnd
  rw [quiet]

/-! ### ALERT_AUDIO_END -/

theorem State.audioEnd_of_unknown (other : ∀ x, s.al.onAir = some x → x.id ≠ id) : s.audioEnd id = s.reply .unknown := by
  unfold State.audioEnd
  split
  · rfl
  · rename_i x stands
    exact if_pos (other x stands)

theorem State.audioEnd_of_known (stands : s.al.onAir = some x) (known : x.id = id) :
    s.audioEnd id = if x.phase = .message then (s.setOnAir (x.enter .closing)).done else s.reply .badState := by
  unfold State.audioEnd
  rw [stands]
  exact if_neg (· known)

/-! ### ALERT_CANCEL -/

theorem find?_id_eq_none {table : List PendingAlert} (others : ∀ p ∈ table, p.id ≠ id) : table.find? (·.id = id) = none :=
  List.find?_eq_none.mpr fun p mem => by simpa using others p mem

theorem State.cancel_of_unknown (pending : ∀ p ∈ s.al.table, p.id ≠ id) (onAir : ∀ x, s.al.onAir = some x → x.id ≠ id) :
    s.cancel id = s.reply .unknown := by
  unfold State.cancel
  rw [find?_id_eq_none pending]
  cases stands : s.al.onAir with
  | none => rfl
  | some x => exact if_neg (onAir x stands)

theorem State.cancel_of_onAir (pending : ∀ p ∈ s.al.table, p.id ≠ id) (stands : s.al.onAir = some x) (known : x.id = id) :
    s.cancel id = (s.cancelOnAir x).done := by
  unfold State.cancel
  rw [find?_id_eq_none pending, stands]
  exact if_pos known

theorem State.cancelOnAir_of_closing (closing : x.phase = .closing) : s.cancelOnAir x = s := by
  unfold State.cancelOnAir
  rw [closing]

theorem State.cancelOnAir_of_open (running : x.phase ≠ .closing) :
    s.cancelOnAir x = s.setOnAir { x.enter .closing with ending := some .cancelled } := by
  unfold State.cancelOnAir
  split
  · exact absurd ‹_› running
  · rfl

/-- The first pending alert of an id is taken out of the table, logged, and the alert now first is looked at (R127). -/
theorem State.cancel_of_pending {pre post : List PendingAlert} {p : PendingAlert} (table : s.al.table = pre ++ p :: post)
    (before : ∀ q ∈ pre, q.id ≠ p.id) :
    s.cancel p.id = ((s.setAl { s.al.logged [p.record .cancelled] with table := pre ++ post }).checkAlerts).done := by
  have found : s.al.table.find? (·.id = p.id) = some p := by
    rw [table, List.find?_append, find?_id_eq_none before]
    simp
  have left : s.al.table.eraseP (·.id = p.id) = pre ++ post := by
    rw [table, List.eraseP_append_right _ fun q mem => by simpa using before q mem]
    simp
  have cancelled : s.cancelPending p = (s.setAl { s.al.logged [p.record .cancelled] with table := pre ++ post }).checkAlerts := by
    unfold State.cancelPending
    rw [left, AlertUnit.writePending_eq]
    rfl
  unfold State.cancel
  rw [found, ← cancelled]

end

/-- Settles O37: each event by the phase it ends, and ALERT_CANCEL by where the alert stands. -/
theorem alertPhasesAndCancel : Obligations.AlertPhasesAndCancel := by
  have named : ∀ (b3 b2 b1 b0 : Byte) (more : List Byte), 4 ≤ (b3 :: b2 :: b1 :: b0 :: more).length := fun _ _ _ _ more =>
    Nat.le_add_left 4 more.length
  refine ⟨fun s x stands => ⟨fun early => ?_, fun phase run => ?_, fun early => ?_, fun phase run => ?_, ?_⟩, fun s quiet => ?_, ?_⟩
  · exact congrArg _ (State.attentionEnd_of_not fun y also => Option.some.inj (stands.symm.trans also) ▸ early)
  · exact congrArg _ (State.attentionEnd_of_due stands phase run)
  · exact congrArg _ (State.messageTruncated_of_not fun y also => Option.some.inj (stands.symm.trans also) ▸ early)
  · exact congrArg _ (State.messageTruncated_of_due stands phase run)
  · intro rest more i3 i2 i1 i0 asks
    refine ⟨fun other => ?_, fun known phase => ?_, fun known phase => ?_⟩
    · exact turnedAway_of_reply asks rfl rfl (named ..)
        (State.audioEnd_of_unknown (s := s.hearing .alr (0x41#8 :: rest)) fun y also => Option.some.inj (stands.symm.trans also) ▸ other)
    · exact turnedAway_of_reply asks rfl rfl (named ..)
        ((State.audioEnd_of_known (s := s.hearing .alr (0x41#8 :: rest)) stands known).trans (if_neg phase))
    · exact completes_of_own (i := .alertAudioEnd .alr rest) asks rfl rfl (named ..)
        ((State.audioEnd_of_known (s := s.hearing .alr (0x41#8 :: rest)) stands known).trans (if_pos phase)) rfl
  · refine ⟨?_, ?_, ?_, fun rest more i3 i2 i1 i0 asks => ?_⟩
    · exact congrArg _ (State.attentionEnd_of_not fun y also => nomatch quiet.symm.trans also)
    · exact congrArg _ (State.messageTruncated_of_not fun y also => nomatch quiet.symm.trans also)
    · exact congrArg _ (State.alertEnd_of_quiet quiet)
    · exact turnedAway_of_reply asks rfl rfl (named ..)
        (State.audioEnd_of_unknown (s := s.hearing .alr (0x41#8 :: rest)) fun y also => nomatch quiet.symm.trans also)
  · intro s rest more i3 i2 i1 i0 id asks word
    refine ⟨fun pending onAir => ?_, ?_, fun x pending stands known => ⟨fun closing => ?_, fun running => ?_⟩⟩
    · subst word
      exact turnedAway_of_reply asks rfl rfl (named ..) (State.cancel_of_unknown (s := s.hearing .alr (0x42#8 :: rest)) pending onAir)
    · rintro pre post p table rfl before al rfl
      let u := (s.hearing .alr (0x42#8 :: rest)).setAl { s.al.logged [p.record .cancelled] with table := pre ++ post }
      have own : ownAlertCancel (i3 :: i2 :: i1 :: i0 :: more) (s.hearing .alr (0x42#8 :: rest)) = u.checkAlerts.done :=
        (congrArg (State.cancel _) word.symm).trans (State.cancel_of_pending (s := s.hearing .alr (0x42#8 :: rest)) table before)
      refine ⟨fun stays => ?_, fun q qs armed quiet onAir first due => ?_⟩
      · rw [State.checkAlerts_of_not (s := u) stays] at own
        exact completes_of_own (i := .alertCancel .alr rest) asks rfl rfl (named ..) own rfl
      · rw [State.checkAlerts_of_due (s := u) first due armed quiet onAir] at own
        obtain ⟨air, tl, cl⟩ := State.takeAir_keeps_rest (s := u) onAir q qs
        exact ⟨_, completes_of_own asks rfl rfl (named ..) own cl, State.takeAir_givesAirTo (s := u) onAir q qs, air, tl, rfl⟩
    · have own := (State.cancel_of_onAir (s := s.hearing .alr (0x42#8 :: rest)) pending stands known).trans
        (congrArg State.done (State.cancelOnAir_of_closing closing))
      subst word
      exact turnedAway_of_reply asks rfl rfl (named ..) own
    · have own := (State.cancel_of_onAir (s := s.hearing .alr (0x42#8 :: rest)) pending stands known).trans
        (congrArg State.done (State.cancelOnAir_of_open running))
      subst word
      exact completes_of_own (i := .alertCancel .alr rest) asks rfl rfl (named ..) own rfl

end Sys2Proof.Machine
end

section
/-! SUPPORT. An alert that wakes a station off the air (R117, R120, R139; O35 and O40). -/

namespace Sys2Proof.Machine

set_option Elab.async false

/-- The station as an alert finds it that wakes it off the air, but for the air state, which the rest of R120 does not read: AIR_STATE
raised and the carrier on (R139). -/
def State.roused (s : State) : State := { s with
  air := { s.air with state := .onAir }
  ev := s.ev.raise .airState
  tl := s.tl.commandRole s.tl.active.role .carrierOn }

section
variable {s : State} {p : PendingAlert} {rest : List PendingAlert}

theorem State.wake_of_offAir (off : s.air.state = .offAir) (well : s.tl.mainFailed = false) :
    s.wake = { s.roused with air := { s.air with state := .alertWake, signOnPending := false } } := by
  have up : ¬ s.tl.mainDown := fun down => nomatch well.symm.trans (Link.mainFailed_iff.mpr down)
  unfold State.wake
  rw [if_pos off, State.announceAir_eq (s := { s with air := { s.air with state := .alertWake, signOnPending := false } }) up rfl]
  rfl

/-- A push reads no air state and writes none. -/
theorem State.push_setAir (s : State) (a : AirBlock) (c : Cause) : ({ s with air := a } : State).push c = { s.push c with air := a } := by
  rw [State.push_eq, State.push_eq]
  cases c <;> rfl

/-- An alert that wakes a station does to it what it does to the station on the air, the air state aside (R120, R139). -/
theorem State.takeAir_of_offAir (off : s.air.state = .offAir) (well : s.tl.mainFailed = false) :
    s.takeAir p rest = { s.roused.takeAir p rest with air := { s.air with state := .alertWake, signOnPending := false } } := by
  have attending : s.attending p rest =
      { s.roused.attending p rest with air := { s.air with state := .alertWake, signOnPending := false } } := by
    unfold State.attending
    rw [State.wake_of_offAir off well]
    rfl
  rw [State.takeAir_eq, attending, State.push_setAir]
  rfl

/-- An alert that wakes a station does what `State.givesAirTo` says, and the wake is R139's. -/
theorem State.takeAir_wakes (off : s.air.state = .offAir) (well : s.tl.mainFailed = false) :
    s.givesAirTo (s.takeAir p rest) p rest ∧
      (s.takeAir p rest).air = { s.air with state := .alertWake, signOnPending := false } ∧
      (s.takeAir p rest).tl = s.tl.commandRole s.tl.active.role .carrierOn ∧ (s.takeAir p rest).cl = s.cl := by
  have onAir : s.roused.air.state = .onAir := rfl
  obtain ⟨-, tl, cl⟩ := State.takeAir_keeps_rest onAir p rest
  rw [State.takeAir_of_offAir off well]
  exact ⟨State.takeAir_givesAirTo onAir p rest, rfl, tl, cl⟩

/-- Off the air the unit may take an alert of a class that wakes, with the alert wake set (R117). -/
theorem State.mayTake_of_offAir (off : s.air.state = .offAir) (armed : s.al.armed = true) (quiet : s.al.onAir = none)
    (set : s.pf.working.wake.alertWake = true) (wakes : p.cls.wakes = true) : s.mayTake p = true := by
  simp [State.mayTake, State.admitsClass, off, armed, quiet, set, wakes]

theorem State.checkAlerts_of_takes (table : s.al.table = p :: rest) (due : p.due = true) (may : s.mayTake p = true) :
    s.checkAlerts = s.takeAir p rest := by
  unfold State.checkAlerts
  rw [table]
  exact if_pos (by rw [due, may]; rfl)

end

end Sys2Proof.Machine
end

section
/-! SUPPORT. WAKE_ENABLE and the sweep it causes off the air (R119, R134; O40). -/

namespace Sys2Proof.Machine

set_option Elab.async false

/-- What the sweep leaves may wake the station (R111, R119). -/
theorem wakes_of_kept {wake : Bool} {p : PendingAlert} (kept : offAirStops wake p.cls = false) : wake = true ∧ p.cls.wakes = true := by
  simpa [offAirStops] using kept

/-- Settles O40: off the air the sweep and the look at the first alert it leaves, elsewhere the working copy alone. -/
theorem wakeEnableWritesAndSweeps : Obligations.WakeEnableWritesAndSweeps := by
  rintro s rest more b w pf asks rfl rfl
  let w : WakeEnables := { autSignOn := b.getLsbD 0, remoteSignOn := b.getLsbD 1, alertWake := b.getLsbD 2 }
  let u := (s.hearing .con (0x4A#8 :: rest)).setPf { s.pf with working := { s.pf.working with wake := w } }
  have need : 1 ≤ (b :: more).length := Nat.le_add_left 1 _
  have own : ownWakeEnable (b :: more) (s.hearing .con (0x4A#8 :: rest)) = u.wakeChanged.done := rfl
  refine ⟨fun up => ?_, fun off fit stops al stopped swept => ?_⟩
  · rw [show u.wakeChanged = u from if_neg up] at own
    exact completes_of_own (i := .wakeEnable .con rest) asks rfl rfl need own rfl
  · obtain ⟨-, -, -, log, -, -⟩ := fit
    refine ⟨fun stays => ?_, fun p post armed quiet first due well => ?_⟩
    · rw [State.wakeChanged_of_offAir (t := u) off log stopped swept stays] at own
      exact completes_of_own (i := .wakeEnable .con rest) asks rfl rfl need own rfl
    · let v : State := { u with al := al }
      have sweep : u.sweep = v := by
        show u.setAl (u.al.sweep w.alertWake) = u.setAl al
        rw [swept, ← AlertUnit.sweep_eq log fun q => (stopped q).trans (offAirStops_eq _ _).symm]
        rfl
      have kept : offAirStops w.alertWake p.cls = false := by
        have mem : p ∈ al.table := by rw [first]; exact List.mem_cons_self
        rw [swept] at mem
        have passes : (!stops p) = true := (List.mem_filter.mp mem).2
        rw [offAirStops_eq, ← stopped p]
        simpa using passes
      have may : v.mayTake p = true := by
        have rules : v.al.armed = true ∧ v.al.onAir = none := by
          subst swept; exact ⟨armed, quiet⟩
        obtain ⟨set, wakes⟩ := wakes_of_kept kept
        exact State.mayTake_of_offAir off rules.1 rules.2 set wakes
      have changed : u.wakeChanged = v.takeAir p post := by
        rw [← State.checkAlerts_of_takes (s := v) first due may, ← sweep]
        exact if_pos off
      obtain ⟨given, air, tl, cl⟩ := State.takeAir_wakes (s := v) (p := p) (rest := post) off well
      rw [changed] at own
      exact ⟨_, completes_of_own asks rfl rfl need own cl, given, air, tl, rfl⟩

end Sys2Proof.Machine
end

section
/-! SUPPORT. A notice read from its bytes, the checks of R109, and the pending table it enters (R108 to R113; O34 and O35). -/

namespace Sys2Proof.Machine

set_option Elab.async false

/-! ### A notice read from its bytes -/

/-- The class that a code from 0 to 3 names (R108). -/
def codedClass (c : Byte) : AlertClass :=
  if c.toNat = 0 then .test else if c.toNat = 1 then .advisory else if c.toNat = 2 then .warning else .emergency

theorem classOf_of_le {c : Byte} (le : c.toNat ≤ 3) : classOf c = some (codedClass c) := by
  have codes : c.toNat = 0 ∨ c.toNat = 1 ∨ c.toNat = 2 ∨ c.toNat = 3 := by omega
  rcases codes with code | code | code | code <;> simp [classOf, codedClass, code]

theorem classOf_of_lt {c : Byte} (lt : 3 < c.toNat) : classOf c = none := by
  unfold classOf
  split
  · omega
  · omega
  · omega
  · omega
  · rfl

theorem codedClass_eq_test {c : Byte} : codedClass c = .test ↔ c.toNat = 0 := by
  unfold codedClass
  split_ifs <;> simp_all

theorem codedClass_wakes {c : Byte} (high : 2 ≤ c.toNat) : (codedClass c).wakes = true := by
  unfold codedClass
  rw [if_neg (by omega), if_neg (by omega)]
  split <;> rfl

section
variable {i3 i2 i1 i0 c u w1 w0 o m d1 d0 n : Byte} {regions : List Byte}

theorem readNotice_badLength (h : 8 < n.toNat ∨ regions.length < 2 * n.toNat) :
    readNotice ([i3, i2, i1, i0, c, u, w1, w0, o, m, d1, d0, n] ++ regions) = .error .badLength := if_pos h

theorem readNotice_unknown (few : n.toNat ≤ 8) (long : 2 * n.toNat ≤ regions.length) (bad : 3 < c.toNat ∨ 1 < u.toNat) :
    readNotice ([i3, i2, i1, i0, c, u, w1, w0, o, m, d1, d0, n] ++ regions) = .error .unknown := by
  refine (if_neg (not_or.mpr ⟨Nat.not_lt.mpr few, Nat.not_lt.mpr long⟩)).trans ?_
  rcases bad with cls | urgency
  · rw [classOf_of_lt cls]
  · split
    · omega
    · omega
    · rfl

/-- The notice that the bytes of a well-formed body say, its values clamped (R108, R112). -/
def codedNotice (i3 i2 i1 i0 c u w1 w0 o m d1 d0 n : Byte) (regions : List Byte) : Notice where
  id := word32 i3 i2 i1 i0
  cls := codedClass c
  window := if u.toNat = 0 then none else some (max 1 (min 3600 (word16 w1 w0)) * 48000)
  originator := o.toNat
  audio := m.getLsbD 0
  maxDuration := max 1 (min 300 (word16 d1 d0)) * 48000
  regions := words16 n.toNat regions

theorem readNotice_ok (few : n.toNat ≤ 8) (long : 2 * n.toNat ≤ regions.length) (cls : c.toNat ≤ 3) (urgency : u.toNat ≤ 1) :
    readNotice ([i3, i2, i1, i0, c, u, w1, w0, o, m, d1, d0, n] ++ regions) =
      .ok (codedNotice i3 i2 i1 i0 c u w1 w0 o m d1 d0 n regions) := by
  refine (if_neg (not_or.mpr ⟨Nat.not_lt.mpr few, Nat.not_lt.mpr long⟩)).trans ?_
  have codes : u.toNat = 0 ∨ u.toNat = 1 := by omega
  unfold codedNotice
  rw [classOf_of_le cls]
  rcases codes with code | code <;> rw [code] <;> rfl

/-- The pending record of a notice, by its urgency byte (R112). -/
theorem codedNotice_pending (now : Clock) : (codedNotice i3 i2 i1 i0 c u w1 w0 o m d1 d0 n regions).pending now =
    { id := word32 i3 i2 i1 i0, cls := codedClass c, originator := o.toNat, audio := m.getLsbD 0, arrival := now
      maxDuration := max 1 (min 300 (word16 d1 d0)) * 48000, due := u.toNat = 0
      expiry := if u.toNat = 0 then none else some (now + BitVec.ofNat 32 (max 1 (min 3600 (word16 w1 w0)) * 48000)) } := by
  by_cases immediate : u.toNat = 0
  · simp [codedNotice, Notice.pending, immediate]
  · simp [codedNotice, Notice.pending, immediate]

/-- A notice of a well-formed body goes through the checks of R109. -/
theorem ownAlertNotice_ok (few : n.toNat ≤ 8) (long : 2 * n.toNat ≤ regions.length) (cls : c.toNat ≤ 3) (urgency : u.toNat ≤ 1)
    (s : State) : ownAlertNotice ([i3, i2, i1, i0, c, u, w1, w0, o, m, d1, d0, n] ++ regions) s =
      answer (s.notice (codedNotice i3 i2 i1 i0 c u w1 w0 o m d1 d0 n regions)) := by
  unfold ownAlertNotice
  rw [readNotice_ok few long cls urgency]

/-- A notice with no region count is well-formed by its class and urgency codes alone (R108). -/
theorem ownAlertNotice_noRegions (cls : c.toNat ≤ 3) (urgency : u.toNat ≤ 1) (s : State) :
    ownAlertNotice ([i3, i2, i1, i0, c, u, w1, w0, o, m, d1, d0, 0#8] ++ regions) s =
      answer (s.notice (codedNotice i3 i2 i1 i0 c u w1 w0 o m d1 d0 0#8 regions)) :=
  ownAlertNotice_ok (n := 0#8) (Nat.zero_le 8) (Nat.zero_le _) cls urgency s

theorem ownAlertNotice_error {body : List Byte} {reply : ReplyCode} (read : readNotice body = .error reply) (s : State) :
    ownAlertNotice body s = s.reply reply := by
  unfold ownAlertNotice
  rw [read]

/-- A notice of at least 13 bytes is long enough to be judged (R175). -/
theorem length_notice_ge : 13 ≤ ([i3, i2, i1, i0, c, u, w1, w0, o, m, d1, d0, n] ++ regions).length := by
  simp

end

/-- The region codes read are pairs of the bytes they are read from. -/
theorem exists_of_mem_words16 {r k : Nat} {bytes : List Byte} (mem : r ∈ words16 k bytes) :
    ∃ j < k, ∃ b1 b0, bytes[2 * j]? = some b1 ∧ bytes[2 * j + 1]? = some b0 ∧ r = word16 b1 b0 := by
  induction k, bytes using words16.induct with
  | case1 bytes => exact nomatch mem
  | case2 k b1 b0 rest ih =>
    rcases List.mem_cons.mp mem with first | later
    · exact ⟨0, Nat.succ_pos k, b1, b0, rfl, rfl, first⟩
    · obtain ⟨j, lt, c1, c0, high, low, word⟩ := ih later
      exact ⟨j + 1, Nat.succ_lt_succ lt, c1, c0, high, low, word⟩
  | case3 k bytes short =>
    rw [words16] at mem
    · exact nomatch mem
    · exact short

theorem words16_ne_nil {k : Nat} {bytes : List Byte} (some : 0 < k) (long : 2 ≤ bytes.length) : words16 k bytes ≠ [] := by
  match k, bytes with
  | k + 1, b1 :: b0 :: rest => nofun
  | k + 1, [b] => simp at long

/-! ### The checks of R109 -/

section
variable {s : State} {v : Notice}

/-- The state once a notice has passed the first check: it is counted (R128). -/
def State.counted (s : State) : State := s.setAl { s.al with noticeCounter := s.al.noticeCounter + 1#32 }

/-- Without regions only a TEST is filtered, while air tests are off (R110). -/
theorem filterStops_iff_of_noRegions {w : Profile} (none : v.regions = []) :
    filterStops w v = true ↔ v.cls = .test ∧ w.airTests = false := by
  simp [filterStops, none]

theorem AlertUnit.knows_iff {a : AlertUnit} {id : Nat} :
    a.knows id = true ↔ (∃ p ∈ a.table, p.id = id) ∨ ∃ x, a.onAir = some x ∧ x.id = id := by
  cases onAir : a.onAir <;> simp [AlertUnit.knows, onAir]

theorem AlertUnit.not_knows {a : AlertUnit} {id : Nat} (pending : ∀ p ∈ a.table, p.id ≠ id)
    (onAir : ∀ x, a.onAir = some x → x.id ≠ id) : ¬ a.knows id = true := by
  rw [AlertUnit.knows_iff]
  rintro (⟨p, mem, known⟩ | ⟨x, stands, known⟩)
  · exact pending p mem known
  · exact onAir x stands known

theorem State.notice_of_known (known : s.al.knows v.id = true) : s.notice v = (s, .duplicate) := if_pos known

theorem State.notice_of_filtered (new : ¬ s.al.knows v.id = true) (stops : filterStops s.pf.working v = true) :
    s.notice v = ((s.counted.setAl (s.counted.al.logged [(v.pending s.ev.clock).record .filtered])).raise .alertFiltered, .filtered) := by
  rw [← AlertUnit.writePending_eq]
  exact (if_neg new).trans (if_pos stops)

theorem State.notice_of_offAir (new : ¬ s.al.knows v.id = true) (passes : ¬ filterStops s.pf.working v = true)
    (off : s.air.state = .offAir) (stops : offAirStops s.pf.working.wake.alertWake v.cls = true) :
    s.notice v = (s.counted.setAl (s.counted.al.logged [(v.pending s.ev.clock).record .notAired]), .done) := by
  rw [← AlertUnit.writePending_eq]
  exact (if_neg new).trans ((if_neg passes).trans (if_pos (by simp [off, stops])))

theorem State.notice_of_quiet (new : ¬ s.al.knows v.id = true) (passes : ¬ filterStops s.pf.working v = true)
    (may : s.air.state = .offAir → offAirStops s.pf.working.wake.alertWake v.cls = false) (quiet : s.al.onAir = none) :
    s.notice v = s.counted.enterTable (v.pending s.ev.clock) := by
  refine (if_neg new).trans ((if_neg passes).trans ((if_neg ?_).trans (by rw [quiet]; rfl)))
  by_cases off : s.air.state = .offAir
  · simp [may off]
  · simp [off]

theorem State.notice_of_emergency {x : OnAirAlert} (new : ¬ s.al.knows v.id = true) (passes : ¬ filterStops s.pf.working v = true)
    (up : s.air.state ≠ .offAir) (stands : s.al.onAir = some x) (emergency : v.cls = .emergency)
    (yields : x.cls = .test ∨ x.cls = .advisory) :
    s.notice v = (s.counted.supersede x (v.pending s.ev.clock), .done) := by
  refine (if_neg new).trans ((if_neg passes).trans ((if_neg (by simp [up])).trans ?_))
  rw [stands]
  exact if_pos (by simp [emergency, OnAirAlert.yields, yields])

end

/-! ### The pending table -/

section
variable {s : State} {p : PendingAlert}

theorem placePending_eq (p : PendingAlert) (table : List PendingAlert) :
    placePending p table = table.takeWhile (fun q => p.cls.code ≤ q.cls.code) ++
      p :: table.dropWhile (fun q => p.cls.code ≤ q.cls.code) := by
  induction table with
  | nil => rfl
  | cons q table ih =>
    unfold placePending
    by_cases above : q.cls.code < p.cls.code
    · simp [above]
    · simp [above, Nat.not_lt.mp above, ih]

theorem State.enterTable_of_room (room : s.al.table.length < 8) : s.enterTable p =
    (((s.setAl { s.al with table := placePending p s.al.table }).raise .alertPending).checkAlerts, .done) := if_pos room

variable {front : List PendingAlert} {low : PendingAlert} (table : s.al.table = front ++ [low]) (full : front.length = 7)
include table full

theorem State.enterTable_of_above (above : low.cls.code < p.cls.code) : s.enterTable p =
    (((s.setAl { s.al.logged [low.record .superseded] with table := placePending p front }).raise .alertPending).checkAlerts,
      .done) := by
  have eight : ¬ s.al.table.length < Config.pendingMax := by simp [table, full, Config.pendingMax]
  unfold State.enterTable
  rw [if_neg eight, table, List.getLast?_concat]
  refine (if_pos above).trans ?_
  rw [AlertUnit.writePending_eq, List.dropLast_concat]
  rfl

theorem State.enterTable_of_below (below : p.cls.code ≤ low.cls.code) :
    s.enterTable p = (s.setAl (s.al.logged [p.record .dropped]), .full) := by
  have eight : ¬ s.al.table.length < Config.pendingMax := by simp [table, full, Config.pendingMax]
  unfold State.enterTable
  rw [if_neg eight, table, List.getLast?_concat]
  refine (if_neg (Nat.not_lt.mpr below)).trans ?_
  rw [AlertUnit.writePending_eq]

end

end Sys2Proof.Machine
end

section
/-! SUPPORT. Notices that take the air at their arrival (R109, R117, R120 to R122, R126, R139; O35). -/

namespace Sys2Proof.Machine

set_option Elab.async false

/-- An alert that wakes a station leaves its record on the stack, and AIR_STATE and every event raised before in the status sets. -/
theorem State.takeAir_wakes_shown {s : State} {p : PendingAlert} {rest : List PendingAlert} (off : s.air.state = .offAir)
    (well : s.tl.mainFailed = false) : (s.takeAir p rest).ps.records = s.context .alert :: s.ps.records.take 7 ∧
      (s.takeAir p rest).ev.shows .airState ∧ ∀ k, s.ev.shows k → (s.takeAir p rest).ev.shows k := by
  have onAir : s.roused.air.state = .onAir := rfl
  rw [State.takeAir_of_offAir off well]
  exact ⟨State.takeAir_records onAir p rest, State.takeAir_keeps_shown onAir (EventUnit.shows_raise s.ev .airState) p rest,
    fun k shown => State.takeAir_keeps_shown onAir (shown.raise .airState) p rest⟩

/-- An alert that enters an empty table, due and free to take the air, takes it (R113, R117). -/
theorem State.enterTable_takes {s : State} {p : PendingAlert} (table : s.al.table = []) (due : p.due = true)
    (may : s.mayTake p = true) :
    s.enterTable p = (((s.setAl { s.al with table := [p] }).raise .alertPending).takeAir p [], .done) := by
  rw [State.enterTable_of_room (by rw [table]; exact Nat.succ_pos 7), table]
  exact congrArg (·, ReplyCode.done)
    (State.checkAlerts_of_takes (s := (s.setAl { s.al with table := [p] }).raise .alertPending) rfl due may)

/-- What an EMERGENCY makes of the station, counted, whose on-air alert it supersedes (R122, R126, R128). -/
theorem State.counted_supersede (s : State) (x : OnAirAlert) (p : PendingAlert) : s.counted.supersede x p = { s with
    al := { s.al with
      noticeCounter := s.al.noticeCounter + 1#32
      recordCounter := s.al.recordCounter + 1#32
      log := { number := s.al.recordCounter.toNat % 65536, id := x.id, cls := x.cls, originator := x.originator
               outcome := if x.ending = some .cancelled then .cancelled else .superseded, arrival := x.arrival
               airing := some { start := x.start, ms := (s.ev.clock - x.start).toNat / 48 } } :: s.al.log.take 31
      logOverwrites := if s.al.log.length < 32 then s.al.logOverwrites else countUp s.al.logOverwrites
      onAir := some { id := p.id, cls := p.cls, originator := p.originator, audio := p.audio, maxDuration := p.maxDuration
                      arrival := p.arrival, start := s.ev.clock, phase := .attention, count := 0
                      attention := s.pf.working.attention * 48000, ending := none }
      p1 := 0#32
      p2 := 0#32 }
    ev := s.ev.raise .alertStart } := by
  unfold State.counted
  generalize s.al.noticeCounter + 1#32 = count
  rfl

theorem State.counted_mayTake (s : State) (p : PendingAlert) : s.counted.mayTake p = s.mayTake p := by
  unfold State.counted
  generalize s.al.noticeCounter + 1#32 = count
  rfl

/-- An IMMEDIATE notice that no check stops takes the air from an empty table, where the unit may take it (R109, R113, R117). -/
theorem State.notice_takes {s : State} {v : Notice} {p : PendingAlert} (pending : v.pending s.ev.clock = p) (immediate : p.due = true)
    (table : s.al.table = []) (quiet : s.al.onAir = none) (passes : ¬ filterStops s.pf.working v = true)
    (free : s.mayTake p = true) (may : s.air.state = .offAir → offAirStops s.pf.working.wake.alertWake v.cls = false) :
    s.notice v = (((s.counted.setAl { s.counted.al with table := [p] }).raise .alertPending).takeAir p [], .done) := by
  have new : ¬ s.al.knows v.id = true :=
    AlertUnit.not_knows (fun p mem => by rw [table] at mem; exact nomatch mem) fun x stands => nomatch quiet.symm.trans stands
  rw [State.notice_of_quiet new passes may quiet, pending]
  exact State.enterTable_takes (s := s.counted) table immediate (s.counted_mayTake p ▸ free)

/-- The station with an alert the only one in the table, as its notice entered it, and the notices counted. -/
def State.entered (s : State) (count : Clock) (p : PendingAlert) : State :=
  (s.setAl { s.al with noticeCounter := count, table := [p] }).raise .alertPending

theorem State.entered_shows (s : State) (count : Clock) (p : PendingAlert) : (s.entered count p).ev.shows .alertPending :=
  EventUnit.shows_raise _ _

/-- What an alert does that takes the air, it does to the station as it was before the notice entered the table: neither the table nor the
status sets nor the lanes are read (R120). -/
theorem State.givesAirTo.of_raised {s t : State} {p : PendingAlert} {table rest : List PendingAlert} {status : PerLane EventSet}
    {cl cl' : PerLane Lane} (h : State.givesAirTo { s with
      al := { s.al with table := table }, ev := { s.ev with status := status }, cl := cl } t p rest) :
    s.givesAirTo { t with cl := cl' } p rest := h

theorem State.givesAirTo.of_entered {s t : State} {p q : PendingAlert} {rest : List PendingAlert} {cl cl' : PerLane Lane} {count : Clock}
    (h : (({ s with cl := cl } : State).entered count q).givesAirTo t p rest) :
    State.givesAirTo { s with al := { s.al with noticeCounter := count } } { t with cl := cl' } p rest :=
  State.givesAirTo.of_raised (s := { s with al := { s.al with noticeCounter := count } }) h

section
variable {s : State} {rest more : List Byte} {i3 i2 i1 i0 c w1 w0 o m d1 d0 : Byte} {p : PendingAlert}
  (asks : s.asks .alr rest ([i3, i2, i1, i0, c, 0#8, w1, w0, o, m, d1, d0, 0#8] ++ more)) (cls : c.toNat ≤ 3)
  (armed : s.al.armed = true) (quiet : s.al.onAir = none) (table : s.al.table = [])
  (record : (codedNotice i3 i2 i1 i0 c 0#8 w1 w0 o m d1 d0 0#8 more).pending s.ev.clock = p)

include cls quiet table record in
/-- An IMMEDIATE notice without regions is answered DONE, its alert on the air, where no check stops it. -/
theorem ownAlertNotice_takes (filters : c.toNat = 0 → s.pf.working.airTests = true) (free : s.mayTake p = true)
    (may : s.air.state = .offAir → offAirStops s.pf.working.wake.alertWake (codedClass c) = false) :
    ownAlertNotice ([i3, i2, i1, i0, c, 0#8, w1, w0, o, m, d1, d0, 0#8] ++ more) s =
      { state := (s.entered (s.al.noticeCounter + 1#32) p).takeAir p [], code := .done, body := [] } := by
  have passes : ¬ filterStops s.pf.working (codedNotice i3 i2 i1 i0 c 0#8 w1 w0 o m d1 d0 0#8 more) = true := fun stops => by
    obtain ⟨test, off⟩ := (filterStops_iff_of_noRegions rfl).mp stops
    exact nomatch (filters (codedClass_eq_test.mp test)).symm.trans off
  have immediate : p.due = true := by rw [← record]; rfl
  exact (ownAlertNotice_noRegions (u := 0#8) cls (Nat.zero_le 1) s).trans
    (congrArg answer (State.notice_takes record immediate table quiet passes free may))

include asks cls armed quiet table record

/-- An IMMEDIATE notice takes the air of a station on it (R117, R120 to R122). -/
theorem alertNotice_onAir (onAir : s.air.state = .onAir) (filters : 1 ≤ c.toNat ∨ s.pf.working.airTests = true) :
    ∃ t, completes (.alertNotice .alr rest) s t ∧
      State.givesAirTo { s with al := { s.al with noticeCounter := s.al.noticeCounter + 1#32 } } t p [] ∧
      (∃ r rs, t.ps.records = r :: rs ∧ r.seqState = s.sq.state) ∧ t.air = s.air ∧ t.tl = s.tl ∧
      (∀ l, t.ev.status.get l &&& EventKind.alertPending.set ≠ 0#29) ∧ t.cl = s.replied .alr (0x40#8 :: rest) .done [] := by
  let h := s.hearing .alr (0x40#8 :: rest)
  have own := ownAlertNotice_takes (s := h) cls quiet table record (fun test => filters.resolve_left (by omega))
    (State.mayTake_of_onAir (s := h) armed quiet onAir p) fun off => nomatch onAir.symm.trans off
  rw [show h.al.noticeCounter = s.al.noticeCounter from rfl] at own
  generalize s.al.noticeCounter + 1#32 = count at own ⊢
  let u := h.entered count p
  obtain ⟨air, tl, cl⟩ := State.takeAir_keeps_rest (s := u) onAir p []
  exact ⟨_, completes_of_own asks rfl rfl length_notice_ge own cl, (State.takeAir_givesAirTo (s := u) onAir p []).of_entered,
    ⟨_, _, State.takeAir_records (s := u) onAir p [], rfl⟩, air, tl,
    State.takeAir_keeps_shown (s := u) onAir (State.entered_shows _ _ p) p [], rfl⟩

/-- An IMMEDIATE notice of a class that wakes takes the air of a station off it, with the alert wake set (R117, R139). -/
theorem alertNotice_offAir (off : s.air.state = .offAir) (high : 2 ≤ c.toNat) (wake : s.pf.working.wake.alertWake = true)
    (well : s.tl.mainFailed = false) :
    ∃ t, completes (.alertNotice .alr rest) s t ∧
      State.givesAirTo { s with al := { s.al with noticeCounter := s.al.noticeCounter + 1#32 } } t p [] ∧
      (∃ r rs, t.ps.records = r :: rs ∧ r.seqState = s.sq.state) ∧
      t.air = { s.air with state := .alertWake, signOnPending := false } ∧
      t.tl = s.tl.commandRole s.tl.active.role .carrierOn ∧
      (∀ l, t.ev.status.get l &&& EventKind.alertPending.set ≠ 0#29 ∧ t.ev.status.get l &&& EventKind.airState.set ≠ 0#29) ∧
      t.cl = s.replied .alr (0x40#8 :: rest) .done [] := by
  let h := s.hearing .alr (0x40#8 :: rest)
  have wakes : (codedClass c).wakes = true := codedClass_wakes high
  have free : h.mayTake p = true := State.mayTake_of_offAir off armed quiet wake (by rw [← record]; exact wakes)
  have own := ownAlertNotice_takes (s := h) cls quiet table record (fun test => by omega) free
    fun _ => by rw [offAirStops, wakes]; exact congrArg (fun b => !(b && true)) wake
  rw [show h.al.noticeCounter = s.al.noticeCounter from rfl] at own
  generalize s.al.noticeCounter + 1#32 = count at own ⊢
  let u := h.entered count p
  obtain ⟨given, air, tl, cl⟩ := State.takeAir_wakes (s := u) (p := p) (rest := []) off well
  obtain ⟨records, woken, shows⟩ := State.takeAir_wakes_shown (s := u) (p := p) (rest := []) off well
  exact ⟨_, completes_of_own asks rfl rfl length_notice_ge own cl, given.of_entered, ⟨_, _, records, rfl⟩, air, tl,
    fun l => ⟨shows _ (State.entered_shows _ _ p) l, woken l⟩, rfl⟩

end

/-- Settles O35: an IMMEDIATE notice enters an empty table and takes the air from it; an EMERGENCY takes the place of the on-air alert. -/
theorem noticesTakeTheAir : Obligations.NoticesTakeTheAir := by
  refine ⟨?_, ?_⟩
  · intro s rest more i3 i2 i1 i0 c w1 w0 o m d1 d0 p asks cls armed quiet table fields
    have record : (codedNotice i3 i2 i1 i0 c 0#8 w1 w0 o m d1 d0 0#8 more).pending s.ev.clock = p := by
      rw [fields]; rfl
    exact ⟨alertNotice_onAir asks cls armed quiet table record, alertNotice_offAir asks cls armed quiet table record⟩
  · intro s rest more i3 i2 i1 i0 ur w1 w0 og m d1 d0 x asks urgency stands yields up other pending
    let h := s.hearing .alr (0x40#8 :: rest)
    let v := codedNotice i3 i2 i1 i0 3#8 ur w1 w0 og m d1 d0 0#8 more
    have new : ¬ h.al.knows v.id = true := AlertUnit.not_knows pending
      fun y also => Option.some.inj (stands.symm.trans also) ▸ other
    have passes : ¬ filterStops h.pf.working v = true := fun stops =>
      nomatch ((filterStops_iff_of_noRegions rfl).mp stops).1
    have own := ownAlertNotice_noRegions (i3 := i3) (i2 := i2) (i1 := i1) (i0 := i0) (w1 := w1) (w0 := w0) (o := og) (m := m)
      (d1 := d1) (d0 := d0) (regions := more) (c := 3#8) (Nat.le_refl 3) urgency h
    rw [State.notice_of_emergency (v := v) new passes up stands rfl yields, State.counted_supersede] at own
    exact completes_of_own (i := .alertNotice .alr rest) asks rfl rfl length_notice_ge own rfl

end Sys2Proof.Machine
end

section
/-! SUPPORT. What each check of a notice answers, and the table it enters during STARTING (R108 to R113, R128; O34). -/

namespace Sys2Proof.Machine

set_option Elab.async false

/-! ### The filter -/

/-- The codes read from region bytes with others behind them are those of the region bytes alone. -/
theorem not_mem_words16 {k : Nat} {codes more : List Byte} {regions : List Nat} (long : codes.length = 2 * k)
    (others : ∀ j, j < k → ∀ b1 b0, codes[2 * j]? = some b1 → codes[2 * j + 1]? = some b0 → word16 b1 b0 ∉ regions) :
    ∀ r ∈ words16 k (codes ++ more), r ∉ regions := fun r mem => by
  obtain ⟨j, lt, b1, b0, high, low, rfl⟩ := exists_of_mem_words16 mem
  rw [List.getElem?_append_left (by omega)] at high low
  exact others j lt b1 b0 high low

/-- A notice none of whose regions the profile lists is filtered, whatever its class (R110). -/
theorem filterStops_of_regions {w : Profile} {v : Notice} (listed : w.regions ≠ []) (named : v.regions ≠ [])
    (others : ∀ r ∈ v.regions, r ∉ w.regions) : filterStops w v = true := by
  have none : (v.regions.any fun r => r ∈ w.regions) = false := by simpa using others
  simp [filterStops, listed, named, none]

/-- The off-air test stops every class while the alert wake is clear, and a TEST or an ADVISORY at any time (R111). -/
theorem offAirStops_of_low {wake : Bool} {c : AlertClass} (low : wake = false ∨ c = .test ∨ c = .advisory) :
    offAirStops wake c = true := by
  rcases low with rfl | rfl | rfl
  · rfl
  · cases wake <;> rfl
  · cases wake <;> rfl

/-! ### The records of a stopped notice, and the entry into the table -/

section
variable {s : State} {p : PendingAlert}

theorem State.counted_setAl_logged (s : State) (rs : List LogRecord) : s.counted.setAl (s.counted.al.logged rs) =
    { s with al := { s.al with noticeCounter := s.al.noticeCounter + 1#32 : AlertUnit }.logged rs } := by
  unfold State.counted
  generalize s.al.noticeCounter + 1#32 = count
  rfl

/-- A notice counted and logged, whole (R128). -/
theorem State.counted_logged (s : State) (p : PendingAlert) (out : LogOutcome) :
    s.counted.setAl (s.counted.al.logged [p.record out]) = { s with
      al := { s.al with
        noticeCounter := s.al.noticeCounter + 1#32
        recordCounter := s.al.recordCounter + 1#32
        log := { number := s.al.recordCounter.toNat % 65536, id := p.id, cls := p.cls, originator := p.originator
                 outcome := out, arrival := p.arrival, airing := none } :: s.al.log.take 31
        logOverwrites := if s.al.log.length < 32 then s.al.logOverwrites else countUp s.al.logOverwrites } } := by
  rw [← AlertUnit.writePending_eq]
  unfold State.counted
  generalize s.al.noticeCounter + 1#32 = count
  rfl

theorem State.checkAlerts_of_starting (starting : s.air.state = .starting) : s.checkAlerts = s :=
  State.checkAlerts_of_not (.inr (.inr (.inl starting)))

/-- An entry into a table with room, during STARTING (R113, R117). -/
theorem State.counted_enters (starting : s.air.state = .starting) (room : s.al.table.length < 8) :
    s.counted.enterTable p = ({ s with
      al := { s.al with
        noticeCounter := s.al.noticeCounter + 1#32
        table := s.al.table.takeWhile (fun q => p.cls.code ≤ q.cls.code) ++
          p :: s.al.table.dropWhile (fun q => p.cls.code ≤ q.cls.code) }
      ev := s.ev.raise .alertPending }, .done) := by
  unfold State.counted
  generalize s.al.noticeCounter + 1#32 = count
  rw [State.enterTable_of_room (by exact room), State.checkAlerts_of_starting (by exact starting), placePending_eq]
  rfl

variable {front : List PendingAlert} {low : PendingAlert} (table : s.al.table = front ++ [low]) (full : front.length = 7)
include table full

/-- An entry that drops the last alert of a full table, during STARTING (R113, R117). -/
theorem State.counted_displaces (starting : s.air.state = .starting) (above : low.cls.code < p.cls.code) :
    s.counted.enterTable p = ({ s with
      al := { { s.al with noticeCounter := s.al.noticeCounter + 1#32 : AlertUnit }.logged [low.record .superseded] with
              table := front.takeWhile (fun q => p.cls.code ≤ q.cls.code) ++
                p :: front.dropWhile (fun q => p.cls.code ≤ q.cls.code) }
      ev := s.ev.raise .alertPending }, .done) := by
  unfold State.counted
  generalize s.al.noticeCounter + 1#32 = count
  rw [State.enterTable_of_above (by exact table) full above, State.checkAlerts_of_starting (by exact starting), placePending_eq]
  rfl

theorem State.counted_dropped (below : p.cls.code ≤ low.cls.code) :
    s.counted.enterTable p = ({ s with
      al := { s.al with noticeCounter := s.al.noticeCounter + 1#32 : AlertUnit }.logged [p.record .dropped] }, .full) := by
  unfold State.counted
  generalize s.al.noticeCounter + 1#32 = count
  rw [State.enterTable_of_below (by exact table) full below]
  rfl

end

/-! ### ALERT_NOTICE -/

section
variable {s : State} {rest regions : List Byte} {i3 i2 i1 i0 c u w1 w0 o m d1 d0 n : Byte}
  (asks : s.asks .alr rest ([i3, i2, i1, i0, c, u, w1, w0, o, m, d1, d0, n] ++ regions))
include asks

theorem alertNotice_malformed {reply : ReplyCode}
    (read : readNotice ([i3, i2, i1, i0, c, u, w1, w0, o, m, d1, d0, n] ++ regions) = .error reply) :
    turnedAway (.alertNotice .alr rest) s .alr (0x40#8 :: rest) reply :=
  turnedAway_of_reply asks rfl rfl length_notice_ge (ownAlertNotice_error read _)

variable (few : n.toNat ≤ 8) (long : 2 * n.toNat ≤ regions.length) (cls : c.toNat ≤ 3) (urgency : u.toNat ≤ 1)
include few long cls urgency

/-- A well-formed notice completes in what the checks of R109 make of it. -/
theorem alertNotice_completes {t : State} {reply : ReplyCode} (noticed : (s.hearing .alr (0x40#8 :: rest)).notice
      (codedNotice i3 i2 i1 i0 c u w1 w0 o m d1 d0 n regions) = (t, reply))
    (lanes : t.cl = s.lanesHeard .alr (0x40#8 :: rest)) :
    completes (.alertNotice .alr rest) s { t with cl := s.replied .alr (0x40#8 :: rest) reply [] } :=
  completes_of_own asks rfl rfl length_notice_ge ((ownAlertNotice_ok few long cls urgency _).trans (congrArg answer noticed)) lanes

end

/-- Settles O34: the notice is read, and each check answers it in its turn; what passes them all enters the table of a station that
starts. -/
theorem noticeChecksInOrder : Obligations.NoticeChecksInOrder := by
  refine ⟨fun s rest regions i3 i2 i1 i0 c u w1 w0 o m d1 d0 n asks => ⟨fun bad => ?_, fun few long bad => ?_⟩, ?_, ?_⟩
  · exact alertNotice_malformed asks (readNotice_badLength bad)
  · exact alertNotice_malformed asks (readNotice_unknown few long bad)
  · intro s rest more i3 i2 i1 i0 c u w1 w0 o m d1 d0 id cls asks urgency code word coded
    obtain rfl : cls = codedClass c := coded
    subst word
    let h := s.hearing .alr (0x40#8 :: rest)
    let v := codedNotice i3 i2 i1 i0 c u w1 w0 o m d1 d0 0#8 more
    have answers {t : State} {reply : ReplyCode} (noticed : h.notice v = (t, reply)) (lanes : t.cl = h.cl) :
        completes (.alertNotice .alr rest) s { t with cl := s.replied .alr (0x40#8 :: rest) reply [] } :=
      alertNotice_completes asks (Nat.zero_le 8) (Nat.zero_le _) code urgency noticed lanes
    have filters : filterStops h.pf.working v = true ↔ codedClass c = .test ∧ s.pf.working.airTests = false :=
      filterStops_iff_of_noRegions rfl
    refine ⟨fun known => ?_, fun pending others => ?_⟩
    · exact answers (t := h) (State.notice_of_known (s := h) (v := v) (AlertUnit.knows_iff.mpr known)) rfl
    · have new : ¬ h.al.knows v.id = true := AlertUnit.not_knows pending others
      refine ⟨fun out reply ev stop => ?_, fun p passes starting quiet room fields => ?_⟩
      · rcases stop with ⟨test, airTests, rfl, rfl, rfl⟩ | ⟨passes, off, stops, rfl, rfl, rfl⟩
        · have noticed := State.notice_of_filtered new (filters.mpr ⟨test, airTests⟩)
          rw [State.counted_logged] at noticed
          exact answers noticed rfl
        · have noticed := State.notice_of_offAir new (mt filters.mp passes) off (offAirStops_of_low stops)
          rw [State.counted_logged] at noticed
          exact answers noticed rfl
      · have pending : v.pending h.ev.clock = p := (codedNotice_pending s.ev.clock).trans fields.symm
        have noticed := State.notice_of_quiet new (mt filters.mp passes) (fun off => nomatch starting.symm.trans off) quiet
        rw [pending, State.counted_enters (by exact starting) (by exact room)] at noticed
        exact answers noticed rfl
  · intro s rest codes more i3 i2 i1 i0 c u w1 w0 o m d1 d0 n id p asks urgency code few long word pending others fields
    let h := s.hearing .alr (0x40#8 :: rest)
    let v := codedNotice i3 i2 i1 i0 c u w1 w0 o m d1 d0 n (codes ++ more)
    have answers {t : State} {reply : ReplyCode} (noticed : h.notice v = (t, reply)) (lanes : t.cl = h.cl) :
        completes (.alertNotice .alr rest) s { t with cl := s.replied .alr (0x40#8 :: rest) reply [] } :=
      alertNotice_completes asks few (by rw [List.length_append]; omega) code urgency noticed lanes
    subst word
    have new : ¬ h.al.knows v.id = true := AlertUnit.not_knows pending others
    have record : v.pending h.ev.clock = p := (codedNotice_pending s.ev.clock).trans fields.symm
    refine ⟨fun listed some unlisted => ?_, fun none passes starting quiet front low table full => ?_⟩
    · have named : v.regions ≠ [] := words16_ne_nil some (by rw [List.length_append]; omega)
      have noticed := State.notice_of_filtered new (filterStops_of_regions listed named (not_mem_words16 long unlisted))
      rw [record, State.counted_setAl_logged] at noticed
      exact answers noticed rfl
    · have noRegions : v.regions = [] := by
        show words16 n.toNat _ = []
        rw [none]; rfl
      have class_eq : p.cls = v.cls := by rw [← record]; rfl
      have noticed := State.notice_of_quiet new (fun stops => passes (class_eq ▸ (filterStops_iff_of_noRegions noRegions).mp stops))
        (fun off => nomatch starting.symm.trans off) quiet
      rw [record] at noticed
      refine ⟨fun above => ?_, fun below => ?_⟩
      · rw [State.counted_displaces (by exact table) full (by exact starting) above] at noticed
        exact answers noticed rfl
      · rw [State.counted_dropped (by exact table) full below] at noticed
        exact answers noticed rfl

end Sys2Proof.Machine
end

section
/-! SUPPORT. The end of the profile load and the end of the start delay (R133, R141, R188; O7). -/

namespace Sys2Proof.Machine

set_option Elab.async false

section
variable {s : State}

/-! ### PROFILE_LOAD_COMPLETE -/

/-- The target of a loaded copy, given to a delay unit that is empty, unfrozen and at the start of a step: it builds unless there is
nothing to build (R93, R188). -/
theorem Delay.load_of_empty {d : Delay} (empty : d.store = []) (unfrozen : d.mode ≠ .frozen) (step : d.step = 0) (blocks : Nat) :
    d.load blocks = { d with target := blocks * 480, mode := if blocks = 0 then .idle else .building } := by
  have mode : Delay.modeOf d.held (blocks * 480) = if blocks = 0 then .idle else .building := by
    rw [Delay.held, empty, Delay.modeOf_eq]
    cases blocks with
    | zero => rfl
    | succ n => exact if_pos (show 0 < (n + 1) * 480 by omega)
  rw [← mode]
  exact Delay.reevaluate_of_step (d := { d with target := blocks * 480 }) unfrozen step

/-- So does the unit of a power-on, whatever mode its own target gave it (R93, R188). -/
theorem Delay.load_initial (p : Profile) (blocks : Nat) : (Delay.initial p).load blocks =
    { Delay.initial p with target := blocks * 480, mode := if blocks = 0 then .idle else .building } := by
  refine Delay.load_of_empty rfl ?_ rfl blocks
  unfold Delay.initial
  split <;> nofun

theorem State.profileLoadComplete_of_not (waits : s.pf.load ≠ some 0) : s.profileLoadComplete = s := if_neg waits

/-- The end of the load, with the delay unit still as power-on left it (R188). -/
theorem State.profileLoadComplete_of_due (due : s.pf.load = some 0) {q : Profile} (fresh : s.du = .initial q) :
    s.profileLoadComplete = { s with
      pf := { s.pf with working := s.pf.loaded, load := none }
      ev := if s.pf.valid then s.ev else s.ev.raise .profileDefaulted
      du := { s.du with target := s.pf.loaded.startTarget * 480
                        mode := if s.pf.loaded.startTarget = 0 then .idle else .building }
      tl := s.tl.loadRoles s.pf.loaded.roles
      air := { s.air with startTimer := some (startPeriods s.pf.loaded.startDelay), startInto := s.pf.loaded.startState } } := by
  unfold State.profileLoadComplete
  rw [if_pos due, fresh, ← Delay.load_initial, ← fresh]
  cases s.pf.valid <;> rfl

/-! ### START_DELAY_EXPIRY -/

theorem State.startDelayExpiry_of_not (waits : s.air.startTimer ≠ some 0) : s.startDelayExpiry = s := if_neg waits

theorem State.startDelayExpiry_of_due (due : s.air.startTimer = some 0) :
    s.startDelayExpiry = ({ s with air := { s.air with startTimer := none } } : State).enterStartState s.air.startInto := if_pos due

/-- The entry into OFF_AIR with no alert pending, however the main transmitter stands (R133, R141). -/
theorem State.enterStartState_offAir (table : s.al.table = []) : s.enterStartState .offAir = { s with
    air := { s.air with state := .offAir }
    ev := s.ev.raise .airState
    tl := s.tl.commandRole s.tl.active.role .carrierOff } := by
  unfold State.enterStartState
  dsimp only
  rw [State.announceAir_of_offAir (s := s.setAir StartState.offAir.air) rfl, State.sweep_of_empty (by exact table), ite_self,
    State.checkAlerts_of_empty (by exact table)]
  rfl

end

/-- Settles O7: the load writes each part it names from the loaded copy, and the expiry enters the start state the load named. -/
theorem startLoadsTheProfileAndTakesTheAir : Obligations.StartLoadsTheProfileAndTakesTheAir := by
  refine ⟨fun s => ⟨fun waits => ?_, fun p due loaded fresh => ?_⟩, fun s => ⟨fun waits => ?_, ?_, ?_⟩⟩
  · exact congrArg Host.Outcome.next (State.profileLoadComplete_of_not waits)
  · obtain rfl : p = s.pf.loaded := loaded
    exact congrArg Host.Outcome.next (State.profileLoadComplete_of_due due fresh)
  · exact congrArg Host.Outcome.next (State.startDelayExpiry_of_not waits)
  · intro due table well into
    have up : ¬ s.tl.mainDown := fun down => Bool.eq_false_iff.mp well (Link.mainFailed_iff.mpr down)
    refine congrArg Host.Outcome.next ((State.startDelayExpiry_of_due due).trans ?_)
    rw [into]
    exact State.enterStartState_eq (by exact table) (by exact up) .onAir
  · intro due table into
    refine congrArg Host.Outcome.next ((State.startDelayExpiry_of_due due).trans ?_)
    rw [into]
    exact State.enterStartState_offAir (by exact table)

end Sys2Proof.Machine
end

section
/-! SUPPORT. The poll scheduler and the reply windows: the first configured unit at or after the turn, a poll queued or skipped, a miss
(R157, R158); and POLL_TIMER_EXPIRY and REPLY_WINDOW_CLOSE (O43). -/

namespace Sys2Proof.Machine

/-! ### POLL_TIMER_EXPIRY (R157) -/

theorem Link.hasRoom_iff (l : Link) : l.hasRoom = true ↔ l.sendQueue.length ≤ 14 := by
  unfold Link.hasRoom Config.sendMax
  rw [decide_eq_true_iff]
  omega

section
variable {l : Link}

theorem Link.firstConfigured_eq_none (unused : ∀ u, (l.units.get u).role = .unused) (turn : UnitId) : l.firstConfigured turn = none :=
  List.find?_eq_none.mpr fun u _ => by simp [unused u]

/-- The first configured unit: every address from the turn up to it is unused (R157). -/
theorem Link.firstConfigured_eq_some {turn u : UnitId} (configured : (l.units.get u).role ≠ .unused)
    (first : u = turn ∨ (l.units.get turn).role = .unused ∧
      (u = turn.next ∨ (l.units.get turn.next).role = .unused ∧
        (u = turn.next.next ∨ (l.units.get turn.next.next).role = .unused ∧ u = turn.next.next.next))) :
    l.firstConfigured turn = some u := by
  unfold Link.firstConfigured
  rcases first with rfl | ⟨h0, rfl | ⟨h1, rfl | ⟨h2, rfl⟩⟩⟩ <;> simp [*]

/-- A poll skipped: no unit is configured, two places are not free, or a command is held (R157). -/
theorem Link.poll_of_skip (skip : l.firstConfigured l.turn = none ∨ 14 < l.sendQueue.length ∨ l.holder ≠ none) (period : Nat) :
    l.poll period = { l with pollTimer := period * 48 } := by
  have busy : l.firstConfigured l.turn ≠ none → ¬ (l.hasRoom && l.holder.isNone) = true := by
    rw [Bool.and_eq_true, Link.hasRoom_iff, Option.isNone_iff_eq_none]
    rintro some ⟨room, free⟩
    rcases skip with none | full | held
    · exact some none
    · omega
    · exact held free
  unfold Link.poll
  split
  next u found => exact if_neg (busy (by rw [show l.firstConfigured l.turn = some u from found]; nofun))
  next => rfl

/-- A POLL queued for the first configured unit, and the turn moved past it (R157). -/
theorem Link.poll_of_first {u : UnitId} (first : l.firstConfigured l.turn = some u) (room : l.sendQueue.length ≤ 14)
    (free : l.holder = none) (period : Nat) : l.poll period = { l with
      pollTimer := period * 48
      turn := u.next
      sendQueue := l.sendQueue ++ [{ marker := true, data := selectCode u }, { marker := false, data := 0x01#8 }] } := by
  have ready : (l.hasRoom && l.holder.isNone) = true := by
    rw [Bool.and_eq_true, Link.hasRoom_iff, free]
    exact ⟨room, rfl⟩
  unfold Link.poll
  split
  next v found =>
    obtain rfl : u = v := Option.some.inj (first.symm.trans found)
    exact if_pos ready
  next none => exact nomatch first.symm.trans none

end

/-! ### A miss (R158) -/

section
variable {u : SiteUnit}

theorem SiteUnit.miss_of_few (few : u.misses < 2) : u.miss = { u with misses := u.misses + 1 } := by
  have count : countTo Config.missesLost u.misses = u.misses + 1 := if_pos (by unfold Config.missesLost; omega)
  unfold SiteUnit.miss
  dsimp only
  rw [count, if_neg (by unfold Config.missesLost; omega)]

theorem SiteUnit.miss_of_lost (lost : u.presence = .lost) :
    u.miss = { u with misses := if u.misses < 3 then u.misses + 1 else u.misses } := by
  unfold SiteUnit.miss
  dsimp only
  rw [← lost, ite_self]
  rfl

theorem SiteUnit.miss_of_two (two : u.misses = 2) : u.miss = { u with misses := 3, presence := .lost } := by
  unfold SiteUnit.miss
  rw [two]
  rfl

end

/-! ### REPLY_WINDOW_CLOSE (R158) -/

section
variable {s : State} {w : ReplyWindow} (window : s.tl.window = some w)
include window

theorem State.replyWindowClose_of_left (left : w.left ≠ 0) : s.replyWindowClose = s := by
  unfold State.replyWindowClose
  rw [window]
  exact if_neg left

/-- A window closed with a miss that makes no unit LOST. -/
theorem State.replyWindowClose_of_quiet (run : w.left = 0)
    (quiet : (s.tl.units.get w.unit).presence = .lost ∨ (s.tl.units.get w.unit).miss.presence ≠ .lost) :
    s.replyWindowClose = { s with
      tl := { s.tl with window := none, units := s.tl.units.set w.unit (s.tl.units.get w.unit).miss } } := by
  unfold State.replyWindowClose
  rw [window]
  exact (if_pos run).trans (if_neg fun ⟨wasNot, is⟩ => quiet.elim wasNot fun isNot => isNot is)

/-- A window closed with its unit's third miss: the unit is LOST, UNIT_LOST, and the look at the changeover (R158, R161). -/
theorem State.replyWindowClose_of_third (run : w.left = 0) (two : (s.tl.units.get w.unit).misses = 2)
    (was : (s.tl.units.get w.unit).presence ≠ .lost) : s.replyWindowClose = State.lookChangeover { s with
      tl := { s.tl with window := none
                        units := s.tl.units.set w.unit { s.tl.units.get w.unit with misses := 3, presence := .lost } }
      ev := s.ev.raise .unitLost } := by
  have miss := SiteUnit.miss_of_two two
  rw [← miss]
  unfold State.replyWindowClose
  rw [window]
  exact (if_pos run).trans (if_pos ⟨was, by rw [miss]⟩)

end

/-- Settles O43: the poll of the first configured unit, and a miss that is one of the first two, of a unit already LOST, or the third, with
the changeover by `State.lookChangeover_of_holds`. -/
theorem pollsAndReplyWindows : Obligations.PollsAndReplyWindows := by
  refine ⟨fun s l restarted => ⟨fun waits => ?_, fun due => ⟨fun skip => ?_, fun u configured first room free => ?_⟩⟩,
    fun s w u window unit => ⟨fun left => ?_, fun run few => ?_, fun run lost => ?_, fun l closed run two was => ⟨?_, ?_⟩⟩⟩
  · exact congrArg Host.Outcome.next (if_neg waits)
  · have skipped : s.tl.firstConfigured s.tl.turn = none ∨ 14 < s.tl.sendQueue.length ∨ s.tl.holder ≠ none :=
      skip.imp_left fun unused => Link.firstConfigured_eq_none unused _
    rw [restarted, ← Link.poll_of_skip skipped]
    exact congrArg Host.Outcome.next (if_pos due)
  · have queued := Link.poll_of_first (Link.firstConfigured_eq_some configured first) room free s.pf.working.pollPeriod
    have polled : s.pollTimerExpiry = s.setTl (s.tl.poll s.pf.working.pollPeriod) := if_pos due
    subst restarted
    refine congrArg Host.Outcome.next (polled.trans ?_)
    rw [queued]
    cases u <;> rfl
  · exact congrArg Host.Outcome.next (State.replyWindowClose_of_left window left)
  · subst unit
    have miss := SiteUnit.miss_of_few few
    refine congrArg Host.Outcome.next ((State.replyWindowClose_of_quiet window run ?_).trans (by rw [miss]))
    rw [miss]
    exact em _
  · subst unit
    exact congrArg Host.Outcome.next ((State.replyWindowClose_of_quiet window run (.inl lost)).trans
      (by rw [SiteUnit.miss_of_lost lost]))
  · intro clear
    subst unit closed
    exact congrArg Host.Outcome.next ((State.replyWindowClose_of_third window run two was).trans
      (State.lookChangeover_of_not (State.not_changeoverHolds clear)))
  · intro auto main up down free room
    subst unit closed
    exact congrArg Host.Outcome.next ((State.replyWindowClose_of_third window run two was).trans
      (State.lookChangeover_of_holds ((State.changeoverHolds_iff _).mpr ⟨auto, main, up, down⟩) free room))

end Sys2Proof.Machine
end

section
/-! SUPPORT. The forward framer: the check as the one fold of its bit step, the bytes of a sample, of the slot and of the flags, the link
as its oldest character leaves and a held command enters, and the bits of the forward line (R147 to R151, R158, R176); and FRAME_BOUNDARY
(O42). -/

namespace Sys2Proof.Machine

/-! ### The check (R149) -/

theorem crcBit_eq (r : BitVec 16) (b : Bool) : crcBit r b = if r.msb = b then r <<< 1 else (r <<< 1) ^^^ 0x1021#16 := by
  unfold crcBit
  by_cases same : r.msb = b <;> simp [same]

theorem crc16_append (bs : List Byte) (b : Byte) : crc16 (bs ++ [b]) = crcByte (crc16 bs) b := by
  unfold crc16
  rw [List.foldl_append, List.foldl_cons, List.foldl_nil]

/-- A check that starts from ones and takes each byte by eight bit steps, most significant bit first, is the framer's. -/
theorem eq_crc16 {bit : BitVec 16 → Bool → BitVec 16} {crc : List Byte → BitVec 16}
    (step : ∀ r b, bit r b = if r.msb = b then r <<< 1 else (r <<< 1) ^^^ 0x1021#16) (ones : crc [] = 0xFFFF#16)
    (byte : ∀ bs b, crc (bs ++ [b]) = bit (bit (bit (bit (bit (bit (bit (bit (crc bs) (b.getLsbD 7)) (b.getLsbD 6)) (b.getLsbD 5))
      (b.getLsbD 4)) (b.getLsbD 3)) (b.getLsbD 2)) (b.getLsbD 1)) (b.getLsbD 0)) : crc = crc16 := by
  obtain rfl : bit = crcBit := funext₂ fun r b => (step r b).trans (crcBit_eq r b).symm
  funext bs
  induction bs using List.reverseRecOn with
  | nil => exact ones
  | append_singleton bs b ih => rw [byte, crc16_append, ih]; rfl

/-! ### The bytes of a frame (R176) -/

theorem byte1_eq (n : Nat) : byte1 n = [BitVec.ofNat 8 n] := by simp [byte1, bytesOf]

/-- A word in two bytes, the high one first. -/
theorem byte2_toNat (x : BitVec 16) : byte2 x.toNat = [x.extractLsb' 8 8, x.extractLsb' 0 8] := by
  rw [byte2, bytesOf_two]
  have high : BitVec.ofNat 8 (x.toNat / 256) = x.extractLsb' 8 8 := BitVec.eq_of_toNat_eq (by simp [Nat.shiftRight_eq_div_pow])
  rw [high]
  rfl

/-- A sample in three bytes, the high one first (R176). -/
theorem sampleBytes_eq (x : Int) : sampleBytes x =
    [(BitVec.ofInt 24 x).extractLsb' 16 8, (BitVec.ofInt 24 x).extractLsb' 8 8, (BitVec.ofInt 24 x).extractLsb' 0 8] := by
  have part (k : Nat) : BitVec.ofNat 8 ((BitVec.ofInt 24 x).toNat / 256 ^ k) = (BitVec.ofInt 24 x).extractLsb' (8 * k) 8 :=
    BitVec.eq_of_toNat_eq (by
      rw [BitVec.toNat_ofNat, BitVec.extractLsb'_toNat, Nat.shiftRight_eq_div_pow, Nat.pow_mul])
  exact congrArg₂ _ (part 2) (congrArg₂ _ (part 1) (congrArg₂ _ (part 0) rfl))

theorem slotBytes_none : slotBytes none = [0#8, 0#8] := rfl

theorem slotBytes_some (c : SiteChar) : slotBytes (some c) = [if c.marker then 0x81#8 else 0x80#8, c.data] := by
  rw [slotBytes, byte1_eq]
  cases c.marker <;> rfl

theorem State.fallbackOnTop_iff (s : State) :
    s.fallbackOnTop = true ↔ s.topCause = some .failover ∨ s.topCause = some .remoteFallback := by
  simp [State.fallbackOnTop]

/-- The flags byte, flag by flag (R176). -/
theorem State.frameFlags_eq (s : State) : s.frameFlags = (if s.al.onAir.isSome then 1 else 0) +
    (if s.topCause = some .failover ∨ s.topCause = some .remoteFallback then 2 else 0) + (if s.du.mode = .frozen then 4 else 0) +
      (if s.pb.ceilingLowered then 8 else 0) + (if s.tl.active = .standby then 16 else 0) := by
  simp only [State.frameFlags, flagBit, State.alertActive, State.fallbackOnTop_iff, decide_eq_true_iff]
  rfl

section
variable (s : State) (slot : Option SiteChar)

/-- Bytes 2 to 105, field by field (R176). -/
theorem State.frameFields_eq : s.frameFields slot =
    [BitVec.ofNat 8 s.tl.frameNumber, BitVec.ofNat 8 s.air.state.code, BitVec.ofNat 8 s.frameFlags] ++ slotBytes slot ++
      [BitVec.ofNat 8 (s.du.store.length / 480 / 256), BitVec.ofNat 8 (s.du.store.length / 480),
        BitVec.ofNat 8 s.pf.working.stationCode] ++ s.tl.pairs.flatMap (fun p => sampleBytes p.l ++ sampleBytes p.r) := by
  simp only [State.frameFields, byte1_eq, byte2, bytesOf_two, Delay.held, Config.perBlock, List.append_assoc, List.cons_append,
    List.nil_append]
  rfl

theorem State.frameFields_length : (s.frameFields slot).length = 8 + 6 * s.tl.pairs.length := by
  have slotLength : (slotBytes slot).length = 2 := by cases slot <;> rfl
  have pairLength (p : Pair) : (sampleBytes p.l ++ sampleBytes p.r).length = 6 := rfl
  rw [State.frameFields_eq]
  simp only [List.length_append, List.length_flatMap, pairLength, slotLength, List.map_const', List.sum_replicate, smul_eq_mul,
    List.length_cons, List.length_nil]
  omega

theorem State.frameOf_eq : s.frameOf slot = [0xB5#8, 0x4E#8] ++ s.frameFields slot ++
    [(crc16 (s.frameFields slot)).extractLsb' 8 8, (crc16 (s.frameFields slot)).extractLsb' 0 8] := by
  rw [State.frameOf, byte2_toNat]

end

/-! ### The link at a boundary -/

section
variable (l : Link)

/-- A select that leaves selects its unit, and a POLL that leaves opens the window of the unit selected (R158). -/
theorem Link.leaves_eq (c : SiteChar) : l.leaves c = { l with
    selected := if c.marker then unitOfSelect c.data else l.selected
    window := if c.marker = false ∧ c.data = 0x01#8 then l.selected.map fun u => { unit := u, left := 1440 } else l.window } := by
  unfold Link.leaves
  cases c.marker with
  | true => rfl
  | false =>
    by_cases poll : c.data = SiteOp.poll.code
    · rw [poll]; rfl
    · rw [if_neg Bool.false_ne_true, if_neg Bool.false_ne_true, if_neg poll, if_neg fun h => poll h.2]

/-- The link once the oldest character, if there is one, has left the queue (R150). -/
def Link.slotTaken : Link :=
  match l.sendQueue with
  | c :: cs => { l with sendQueue := cs }.leaves c
  | [] => l

theorem Link.slotTaken_eq {sel : Option UnitId} {win : Option ReplyWindow}
    (empty : l.sendQueue = [] → sel = l.selected ∧ win = l.window)
    (leaving : ∀ c cs, l.sendQueue = c :: cs → sel = (if c.marker then unitOfSelect c.data else l.selected) ∧
      win = (if c.marker = false ∧ c.data = 0x01#8 then l.selected.map fun u => { unit := u, left := 1440 } else l.window)) :
    l.slotTaken = { l with sendQueue := l.sendQueue.drop 1, selected := sel, window := win } := by
  unfold Link.slotTaken
  cases queue : l.sendQueue with
  | nil =>
    obtain ⟨rfl, rfl⟩ := empty queue
    show l = _
    rw [List.drop_nil, ← queue]
  | cons c cs =>
    obtain ⟨rfl, rfl⟩ := leaving c cs queue
    exact Link.leaves_eq _ c

/-- A held command enters the queue whole where two places are free, and is held on where they are not (R151). -/
theorem Link.drainHolder_eq {q : List SiteChar} {held : Option SiteCommand}
    (empty : l.holder = none → q = l.sendQueue ∧ held = none)
    (holding : ∀ c, l.holder = some c → (l.sendQueue.length ≤ 14 → q = l.sendQueue ++ c.chars ∧ held = none) ∧
      (14 < l.sendQueue.length → q = l.sendQueue ∧ held = some c)) :
    l.drainHolder = { l with sendQueue := q, holder := held } := by
  unfold Link.drainHolder
  cases holder : l.holder with
  | none =>
    obtain ⟨rfl, rfl⟩ := empty holder
    show l = _
    rw [← holder]
  | some c =>
    obtain ⟨enters, stays⟩ := holding c holder
    by_cases room : l.sendQueue.length ≤ 14
    · obtain ⟨rfl, rfl⟩ := enters room
      exact if_pos ((Link.hasRoom_iff l).mpr room)
    · obtain ⟨rfl, rfl⟩ := stays (by omega)
      refine (if_neg fun has => room ((Link.hasRoom_iff l).mp has)).trans ?_
      rw [← holder]

end

theorem State.boundaryDue_iff (s : State) : s.boundaryDue = true ↔ s.ev.clock.toNat % 16 = 0 ∧ 16 ≤ s.tl.pairs.length := by
  rw [State.boundaryDue, Bool.and_eq_true]
  exact and_congr decide_eq_true_iff decide_eq_true_iff

section
variable {s : State}

theorem State.frameBoundary_of_not (early : ¬ s.boundaryDue = true) : s.frameBoundary = s := if_neg early

/-- A boundary: the frame is formed, its slot takes the oldest character, and a held command enters if it fits (R147 to R151). -/
theorem State.frameBoundary_of_due (due : s.boundaryDue = true) : s.frameBoundary = s.setTl
    { s.tl.slotTaken with pairs := [], frame := s.frameOf s.tl.sendQueue.head?
                          frameNumber := (s.tl.frameNumber + 1) % 256 : Link }.drainHolder := by
  refine (if_pos due).trans (congrArg s.setTl ?_)
  unfold Link.slotTaken
  cases queue : s.tl.sendQueue with
  | nil =>
    dsimp only [List.head?, List.drop]
    rw [← queue]
  | cons c cs =>
    dsimp only [List.head?, List.drop]
    rw [Link.leaves_eq, Link.leaves_eq]

end

/-! ### The forward line (R147, R176) -/

theorem State.mixPeriod_tl (s : State) (f : InputFrame) : (s.mixPeriod f).tl = s.tl.tick (s.mixAudio f).output := rfl

section
variable {l : Link}

/-- While a frame of 108 bytes is sent, each of its 16 sample periods gives 54 bits. -/
theorem Link.forwardNow_length (frame : l.frame.length = 108) (gathering : l.pairs.length < 16) : l.forwardNow.length = 54 := by
  simp only [Link.forwardNow, List.length_take, List.length_drop, bitsOf_length, frame, Config.forwardBits]
  omega

/-- The bits of a sample period follow those of the periods before it, each byte from its most significant bit. -/
theorem Link.forwardNow_getElem? {i : Nat} (within : i < 54) : l.forwardNow[i]? =
    (l.frame[(54 * l.pairs.length + i) / 8]?).map fun b => b.getLsbD (7 - (54 * l.pairs.length + i) % 8) := by
  rw [Link.forwardNow, List.getElem?_take_of_lt (show i < Config.forwardBits from within), List.getElem?_drop, bitsOf_getElem?]
  rfl

end

/-- Settles O42: the check by `eq_crc16`, the fields by `State.frameFields_eq`, the link by `Link.slotTaken_eq` and `Link.drainHolder_eq`,
and the forward line by `bitsOf_getElem?`. -/
theorem frameBoundaryFormsTheFrame : Obligations.FrameBoundaryFormsTheFrame := by
  refine ⟨fun s => ⟨fun early => ?_, ?_⟩, fun f s settled frame gathering => ?_⟩
  · refine congrArg Host.Outcome.next (State.frameBoundary_of_not fun due => ?_)
    obtain ⟨multiple, gathered⟩ := (State.boundaryDue_iff s).mp due
    omega
  · intro bit crc sample slot fields flags sel win q rest held multiple gathered step ones byte sampled flagged hrest empty leaving
      noneHeld oneHeld formed
    obtain rfl : crc = crc16 := eq_crc16 step ones byte
    obtain rfl : sample = sampleBytes := funext fun x => (sampled x).trans (sampleBytes_eq x).symm
    have hslot : slot = slotBytes s.tl.sendQueue.head? := by
      cases queue : s.tl.sendQueue with
      | nil => exact (empty queue).1
      | cons c cs => exact (leaving c cs queue).1.trans (slotBytes_some c).symm
    have hfields : fields = s.frameFields s.tl.sendQueue.head? := by
      rw [formed, hslot, flagged, ← State.frameFlags_eq, ← State.frameFields_eq]
    have taken := Link.slotTaken_eq s.tl (sel := sel) (win := win) (fun h => (empty h).2) fun c cs h => (leaving c cs h).2
    subst hrest
    refine ⟨congrArg Host.Outcome.next ?_, ?_⟩
    · rw [State.frameBoundary_of_due ((State.boundaryDue_iff s).mpr ⟨multiple, gathered.ge⟩), taken, hfields, ← State.frameOf_eq]
      exact congrArg s.setTl (Link.drainHolder_eq _ noneHeld oneHeld)
    · rw [hfields, State.frameFields_length, gathered]
  · refine ⟨s.mixPeriod f, mix_completes_of_settled settled f, ?_⟩
    rw [State.mixPeriod_tl]
    refine ⟨rfl, List.length_append, Link.forwardNow_length frame gathering, fun i j b within hj hb => ?_⟩
    subst hj
    exact (Link.forwardNow_getElem? within).trans (by rw [hb]; rfl)

end Sys2Proof.Machine
end

section
/-! SUPPORT. The return receiver on an exactly timed character: the level within each of its bits, the bits and the data byte read from
them, the character judged (R152, R153); and RETURN_CHARACTER (O44). -/

namespace Sys2Proof.Machine

/-! ### A waveform of equal bits -/

/-- A waveform of bits that last equally long. -/
def evenly (b : Nat) (bits : List Bool) : Waveform := bits.map (b, ·)

/-- Within bit `k` the line stands at that bit; past the last it idles high. -/
theorem levelAt_evenly {b x : Nat} (within : x < b) (bits : List Bool) (k : Nat) :
    levelAt (evenly b bits) (k * b + x) = bits.getD k true := by
  induction bits generalizing k with
  | nil => rfl
  | cons v bits ih =>
    cases k with
    | zero => simp [evenly, levelAt, within]
    | succ k =>
      have later : (k + 1) * b + x = b + (k * b + x) := by ring
      rw [later, show evenly b (v :: bits) = (b, v) :: evenly b bits from rfl, levelAt, if_neg (by omega), Nat.add_sub_cancel_left, ih]
      rfl

/-- Every sample that judges a bit lies within it (R152, R153). -/
theorem sampleClock_lt_bitClocks {n j : Nat} (runs : 1 ≤ n) (f : Nat) (early : j ≤ 9) : sampleClock n f j < bitClocks n f := by
  unfold sampleClock bitClocks
  have : j * n ≤ 9 * n := Nat.mul_le_mul_right n early
  omega

theorem majority_self (a : Bool) : majority a a a = a := by cases a <;> rfl

section
variable {n : Nat} (runs : 1 ≤ n) (f : Nat) (bits : List Bool)
include runs

/-- A bit of a well-timed character is read as it was sent (R153). -/
theorem bitValue_evenly (k : Nat) : bitValue (evenly (bitClocks n f) bits) n f 0 k = bits.getD k true := by
  have sample (j : Nat) (early : j ≤ 9) :
      levelAt (evenly (bitClocks n f) bits) (0 + k * bitClocks n f + sampleClock n f j) = bits.getD k true := by
    rw [Nat.zero_add]
    exact levelAt_evenly (sampleClock_lt_bitClocks runs f early) bits k
  unfold bitValue
  dsimp only
  rw [sample 7 (by omega), sample 8 (by omega), sample 9 (by omega), majority_self]

end

/-! ### A character sent (R177) -/

/-- The eleven bits of a character as they are sent: the start bit, the data from its least significant bit, the marker, the stop bit
(section 8.3). -/
def SiteChar.sent (c : SiteChar) (stop : Bool) : List Bool :=
  false :: ((List.range 8).map (fun i => c.data.getLsbD i) ++ [c.marker, stop])

/-- Eight bits added at their places make the byte. -/
theorem ofNat_flagBits (d : Byte) : BitVec.ofNat 8 ((List.range 8).foldl (fun acc i => acc + flagBit (d.getLsbD i) i) 0) = d := by
  revert d
  decide

section
variable {n : Nat} (runs : 1 ≤ n) (f : Nat) (c : SiteChar)
include runs

theorem dataByte_sent (stop : Bool) : dataByte (evenly (bitClocks n f) (c.sent stop)) n f 0 = c.data := by
  unfold dataByte
  simp only [bitValue_evenly runs]
  exact ofNat_flagBits c.data

/-- A well-timed character is judged as it was sent: whole, or with a framing error where its stop bit is 0 (R153). -/
theorem receiveAt_sent (stop : Bool) :
    receiveAt (evenly (bitClocks n f) (c.sent stop)) n f 0 = if stop then .char c else .framingError := by
  unfold receiveAt
  rw [dataByte_sent runs]
  simp only [bitValue_evenly runs]
  rfl

end

/-- A line that falls at the first sample ends the hunt there. -/
theorem hunt_of_fall {w : Waveform} (low : levelAt w 0 = false) (n f place fuel : Nat) :
    hunt w n f (fuel + 1) 0 place true = { start := some 0, prev := false, place := place } := by
  unfold hunt
  rw [low]
  rfl

/-- The receiver takes a well-timed character from an idle line, and hunts on from place 10 (R152, R153; log 11). -/
theorem Receiver.take_sent {r : Receiver} (runs : 1 ≤ r.n) (idle : r.prev = true) (c : SiteChar) (stop : Bool) (newN newF : Nat) :
    r.take (evenly (bitClocks r.n r.f) (c.sent stop)) newN newF =
      ({ n := newN, f := newF, prev := stop, place := 10 }, some (if stop then .char c else .framingError)) := by
  have lasts : 0 < bitClocks r.n r.f := by unfold bitClocks; omega
  have falls : levelAt (evenly (bitClocks r.n r.f) (c.sent stop)) 0 = false := by
    have start := levelAt_evenly lasts (c.sent stop) 0
    rwa [Nat.zero_mul] at start
  have stops : levelAt (evenly (bitClocks r.n r.f) (c.sent stop)) (0 + 10 * bitClocks r.n r.f + sampleClock r.n r.f 9) = stop := by
    rw [Nat.zero_add]
    exact levelAt_evenly (sampleClock_lt_bitClocks runs r.f (Nat.le_refl 9)) (c.sent stop) 10
  have last : Received.lastBit (if stop then .char c else .framingError) = 10 := by cases stop <;> rfl
  unfold Receiver.take huntFuel
  rw [idle, hunt_of_fall falls]
  dsimp only
  rw [receiveAt_sent runs, last, stops]

/-! ### RETURN_CHARACTER -/

theorem Link.offer_of_room {l : Link} (room : l.fifo.length < 4) (c : SiteChar) : l.offer c = { l with fifo := l.fifo ++ [c] } :=
  if_pos room

theorem Link.offer_of_full {l : Link} (full : 4 ≤ l.fifo.length) (c : SiteChar) : l.offer c =
    { l with overrun := countUp l.overrun, assembler := l.assembler.map fun m => { m with bad := true } } :=
  if_neg (Nat.not_lt.mpr full)

/-- Settles O44: the receiver reads the character from its even bits, and the FIFO has room, is full, or is offered nothing. -/
theorem returnCharacterIsReceived : Obligations.ReturnCharacterIsReceived := by
  intro s c b stop w r up runs _ idle hb hw hr
  have sent : w = evenly (bitClocks s.tl.receiver.n s.tl.receiver.f) (c.sent stop) := by rw [hw, hb]; rfl
  have taken : s.tl.receiver.take w s.pf.working.returnN s.pf.working.returnF =
      (r, some (if stop then .char c else .framingError)) := by
    rw [sent, hr]
    exact Receiver.take_sent runs idle c stop _ _
  have received : s.returnCharacter w = s.setTl (if stop then { s.tl with receiver := r : Link }.offer c
      else { s.tl with receiver := r : Link }.framingError) := by
    unfold State.returnCharacter State.receive
    rw [if_neg (Bool.eq_false_iff.mp up), taken]
    cases stop <;> rfl
  refine ⟨fun whole room => ?_, fun whole full => ?_, fun broken => ?_⟩ <;> refine congrArg Host.Outcome.next (received.trans ?_)
  · rw [if_pos whole]
    exact congrArg s.setTl (Link.offer_of_room (l := { s.tl with receiver := r }) room c)
  · rw [if_pos whole]
    exact congrArg s.setTl (Link.offer_of_full (l := { s.tl with receiver := r }) full c)
  · rw [if_neg (Bool.eq_false_iff.mp broken)]
    rfl

end Sys2Proof.Machine
end

section
/-! SUPPORT. What a step runs (O1); the command a transaction is, and what every such command runs (O50); the authority table (O49). -/

namespace Sys2Proof.Machine

/-- Settles O1. -/
theorem stepRunsTheFrontCommand : Obligations.StepRunsTheFrontCommand := by
  refine fun c s => ⟨rfl, fun empty => ?_⟩
  unfold step
  rw [empty]

/-! ### Reading a command from its transaction (R163, R175) -/

section
open Laws.RoundTrip

/-- Every command is read back from its own transaction, at some level of ENG. -/
theorem roundTrip : (i : Instr) → Laws.RoundTrip.Statement i
  | .powerOn rst supply => powerOn rst supply
  | .profileLoadComplete => profileLoadComplete
  | .startDelayExpiry => startDelayExpiry
  | .globalReset l rest => globalReset l rest
  | .mix f => mix f
  | .releaseRampEnd src => releaseRampEnd src
  | .buildStep f => buildStep f
  | .catchUpStep f => catchUpStep f
  | .fadeOutPoint d => fadeOutPoint d
  | .seguePoint => seguePoint
  | .itemEnd d => itemEnd d
  | .seqAppend l rest => seqAppend l rest
  | .seqInsert l rest => seqInsert l rest
  | .seqRemove l rest => seqRemove l rest
  | .seqReady l rest => seqReady l rest
  | .seqStart l rest => seqStart l rest
  | .seqStop l rest => seqStop l rest
  | .seqSkip l rest => seqSkip l rest
  | .seqContinue l rest => seqContinue l rest
  | .doneRead l rest => doneRead l rest
  | .sourceGain l rest => sourceGain l rest
  | .sourceOn l rest => sourceOn l rest
  | .sourceOff l rest => sourceOff l rest
  | .sourceTake l rest => sourceTake l rest
  | .sourceRelease l rest => sourceRelease l rest
  | .breakIn l rest => breakIn l rest
  | .resume l rest => resume l rest
  | .lineAnswer l rest => lineAnswer l rest
  | .lineScreen l rest => lineScreen l rest
  | .lineHold l rest => lineHold l rest
  | .lineReady l rest => lineReady l rest
  | .lineAir l rest => lineAir l rest
  | .lineDrop l rest => lineDrop l rest
  | .ringFilterArmed n => ringFilterArmed n
  | .ringBurst n => ringBurst n
  | .ringExpiry n => ringExpiry n
  | .loopLoss n => loopLoss n
  | .holdLong n => holdLong n
  | .delayTarget l rest => delayTarget l rest
  | .delayDump l rest => delayDump l rest
  | .alertNotice l rest => alertNotice l rest
  | .windowExpiry id => windowExpiry id
  | .attentionEnd => attentionEnd
  | .messageTruncated => messageTruncated
  | .alertAudioEnd l rest => alertAudioEnd l rest
  | .alertCancel l rest => alertCancel l rest
  | .alertRearm l rest => alertRearm l rest
  | .alertEnd => alertEnd
  | .logRead l rest => logRead l rest
  | .signOn l rest => signOn l rest
  | .signOff l rest => signOff l rest
  | .wakeEnable l rest => wakeEnable l rest
  | .blockJudged => blockJudged
  | .frameBoundary => frameBoundary
  | .pollTimerExpiry => pollTimerExpiry
  | .replyWindowClose => replyWindowClose
  | .returnCharacter w => returnCharacter w
  | .assemblerTake => assemblerTake
  | .txSelect l rest => txSelect l rest
  | .ceilingRestore l rest => ceilingRestore l rest
  | .transactionStart l => transactionStart l
  | .readOnlyTransaction l bytes => readOnlyTransaction l bytes
  | .laneTimeout l => laneTimeout l
  | .nop l rest => nop l rest
  | .statusRead l rest => statusRead l rest
  | .eventEnable l rest => eventEnable l rest
  | .eventClear l rest => eventClear l rest
  | .clockWrap f => clockWrap f
  | .profileRead l rest => profileRead l rest
  | .profileWrite l eng rest => profileWrite l eng rest
  | .profileWriteComplete => profileWriteComplete
  | .unknownRequestCode l code rest => unknownRequestCode l code rest

end

/-- Only a PROFILE_WRITE is read with the level of ENG (R171). -/
theorem decodeTransaction_eng (l : LaneId) (e eng : Bool) (bytes : List Byte) :
    decodeTransaction l eng bytes = decodeTransaction l e bytes ∨
      ∃ rest, decodeTransaction l e bytes = .profileWrite l e rest ∧ decodeTransaction l eng bytes = .profileWrite l eng rest := by
  cases bytes with
  | nil => exact .inl rfl
  | cons code rest =>
    by_cases write : code = 0x5A#8
    · subst write
      exact .inr ⟨rest, rfl, rfl⟩
    · have other : code.toNat ≠ 0x5A := fun same => write (BitVec.eq_of_toNat_eq same)
      left
      simp only [decodeTransaction]
      split <;> first | rfl | contradiction

/-- Settles O50: the command read back at some level of ENG is the one read at its own. -/
theorem transactionsDecodeAsEncoded : Obligations.TransactionsDecodeAsEncoded := by
  intro i l bytes eng formed encoded level
  obtain ⟨e, back⟩ := roundTrip i formed l bytes encoded
  rcases decodeTransaction_eng l e eng bytes with same | ⟨rest, read, other⟩
  · exact same.trans back
  · have own : i = .profileWrite l e rest := back.symm.trans read
    rw [other, own, level e rest own]

/-! ### What a command that is a transaction runs -/

/-- A command that is a transaction reads the lane, or is judged as a request (R163, R164). -/
theorem exec_transaction {i : Instr} {l : LaneId} {bytes : List Byte} (encoded : encodeTransaction i = some (l, bytes)) :
    (∀ s, exec i s = .next (s.readOnly l bytes)) ∨
      ∃ code rest known allowed need own, bytes = code :: rest ∧
        ∀ s, exec i s = .next (s.transact l code rest known allowed need own) := by
  cases i with
  | readOnlyTransaction => cases encoded; exact .inl fun _ => rfl
  | unknownRequestCode l code rest =>
    cases encoded
    by_cases none : code = 0#8
    · exact .inl fun _ => if_pos none
    · exact .inr ⟨_, _, _, _, _, _, rfl, fun _ => if_neg none⟩
  | _ => cases encoded <;> exact .inr ⟨_, _, _, _, _, _, rfl, fun _ => rfl⟩

/-! ### The authority table (R171) -/

/-- A request from a lane that may not send it is turned away REFUSED (R164 check 4). -/
theorem turnedAway_refused {s : State} {l : LaneId} {rest body : List Byte} (asks : s.asks l rest body) {i : Instr} {code : Byte}
    {allowed : Bool} (denied : allowed = false) {need : Nat} {own : List Byte → State → State × Option (ReplyCode × List Byte)}
    (judged : exec i s = .next (s.transact l code rest true allowed need own)) : turnedAway i s l (code :: rest) .refused := by
  subst denied
  exact judged.trans (congrArg Host.Outcome.next (State.transact_refused asks code need own))

/-- Settles O49: each row of the authority table by the lanes it admits. -/
theorem authorityTableRefuses : Obligations.AuthorityTableRefuses := by
  intro s l rest body asks
  refine ⟨fun other p row => ?_, fun other p row => ?_, fun alr p row => ?_, fun other p row => ?_, fun eng barred => ?_⟩
  · have denied : onlyAut l = false := decide_eq_false other
    fin_cases row <;> exact turnedAway_refused asks denied rfl
  · have denied : onlyCon l = false := decide_eq_false other
    fin_cases row <;> exact turnedAway_refused asks denied rfl
  · have denied : autOrCon l = false := by rw [alr]; rfl
    fin_cases row <;> exact turnedAway_refused asks denied rfl
  · have denied : onlyAlr l = false := decide_eq_false other
    fin_cases row <;> exact turnedAway_refused asks denied rfl
  · have denied : (onlyCon l && eng) = false := by
      rcases barred with other | low
      · rw [show onlyCon l = false from decide_eq_false other, Bool.false_and]
      · rw [low, Bool.and_false]
    exact turnedAway_refused asks denied rfl

end Sys2Proof.Machine
end

section
/-! SUPPORT. The bits of a lane either way, the end of a transaction by the lane's phase, the bits that mixes have clocked of it, and the
lane timer (R163, R167 to R169); transactions and replies (O47). -/

namespace Sys2Proof.Machine

/-! ### Bits in and bits out -/

/-- The bits of a byte made of eight bits are those bits (R163). -/
theorem byteBits_byteOfBits (b7 b6 b5 b4 b3 b2 b1 b0 : Bool) :
    byteBits (byteOfBits b7 b6 b5 b4 b3 b2 b1 b0) = [b7, b6, b5, b4, b3, b2, b1, b0] := by
  revert b7 b6 b5 b4 b3 b2 b1 b0
  decide

/-- Eight bits or more begin with those of a byte. -/
theorem exists_byteBits : ∀ {bits : List Bool}, ¬ bits.length < 8 → ∃ b more, bits = byteBits b ++ more
  | b7 :: b6 :: b5 :: b4 :: b3 :: b2 :: b1 :: b0 :: more, _ =>
    ⟨byteOfBits b7 b6 b5 b4 b3 b2 b1 b0, more, by rw [byteBits_byteOfBits]; rfl⟩
  | [], short | [_], short | [_, _], short | [_, _, _], short | [_, _, _, _], short | [_, _, _, _, _], short
  | [_, _, _, _, _, _], short | [_, _, _, _, _, _, _], short => absurd (by simp) short

/-- What discards an incomplete byte and reads a whole one first reads the complete bytes (R163). -/
theorem eq_bytesIn {into : List Bool → List Byte} (short : ∀ bits, bits.length < 8 → into bits = [])
    (whole : ∀ b more, into (byteBits b ++ more) = b :: into more) (bits : List Bool) : into bits = bytesIn bits := by
  by_cases few : bits.length < 8
  · rw [short bits few, bytesIn_short few]
  · obtain ⟨b, more, same⟩ := exists_byteBits few
    have shorter : more.length < bits.length := by rw [same]; simp [byteBits]; omega
    rw [same, whole, bytesIn_byteBits, eq_bytesIn short whole more]
termination_by bits.length

/-- What gives no bit of no reply and the bits of a reply's bytes gives the bits of LDO (R167). -/
theorem eq_replyBits {reply : Option Reply → List Bool} (empty : reply none = []) (full : ∀ r, reply (some r) = bitsOf r.bytes) :
    reply = replyBits := by
  funext r
  cases r with
  | none => exact empty
  | some r => exact full r

/-- The bytes of a reply: the status byte with its two flags, the length, the body (R167, R173). -/
theorem Reply.bytes_eq (r : Reply) : r.bytes =
    [BitVec.ofNat 8 ((if r.collision then 128 else 0) + (if r.lost then 64 else 0) + r.code.num), BitVec.ofNat 8 r.body.length] ++
      r.body := by
  simp [Reply.bytes, byte1_eq, flagBit]

/-- What LDO gives by the lane's phase (R163, R167). -/
theorem Lane.ldo_eq (x : Lane) :
    x.ldo = if x.phase = .inTransaction then some ((replyBits x.shift).getD x.bits.length false) else none := by
  unfold Lane.ldo
  cases x.phase <;> rfl

/-! ### The end of a transaction -/

section
variable {x : Lane} {bytes : List Byte}

/-- With no transaction in progress every bytes are those of the next. -/
theorem Lane.agrees_of_not_inTransaction (out : x.phase ≠ .inTransaction) : x.agrees bytes = true := by
  simp [Lane.agrees, out]

/-- In a transaction: the bits clocked begin the bytes, or are them with an incomplete byte behind (R163; log 2). -/
theorem Lane.agrees_iff (open_ : x.phase = .inTransaction) : x.agrees bytes = true ↔ x.bits <+: bitsOf bytes ∨ bytesIn x.bits = bytes := by
  simp [Lane.agrees, open_]

/-- A whole transaction on an idle lane: its fall and its rise (R163, R167; log 2). -/
theorem Lane.finish_of_idle (idle : x.phase = .idle) : x.finish bytes = { x with
    rx := bytes.take 62
    bits := []
    sent := ldoBits x.reply (8 * bytes.length)
    timer := 0
    reply := x.reply.bind fun r => if r.body.length + 2 ≤ bytes.length then none else some r
    shift := none
    shiftStands := false } := by
  have reply : (if x.fall.taken bytes.length then none else x.reply) =
      x.reply.bind fun r => if r.body.length + 2 ≤ bytes.length then none else some r := by
    cases full : x.reply with
    | none => simp
    | some r => simp [Lane.taken, Lane.fall, full]
  unfold Lane.finish
  rw [idle, ← reply]
  simp [Lane.rise, Lane.fall, Config.receiveMax]

/-- The rise of a transaction of which no bit was clocked before its command (R163, R167, R168). -/
theorem Lane.finish_of_unclocked (open_ : x.phase = .inTransaction) (unclocked : x.bits = []) : x.finish bytes = { x with
    phase := .idle
    rx := bytes.take 62
    sent := ldoBits x.shift (8 * bytes.length)
    timer := 0
    reply := if x.shiftStands = true ∧ ∃ r, x.shift = some r ∧ r.body.length + 2 ≤ bytes.length then none else x.reply
    shift := none
    shiftStands := false } := by
  have taken : x.taken bytes.length = true ↔ x.shiftStands = true ∧ ∃ r, x.shift = some r ∧ r.body.length + 2 ≤ bytes.length := by
    cases shifting : x.shift <;> simp [Lane.taken, shifting]
  unfold Lane.finish
  rw [open_]
  simp [Lane.rise, taken, unclocked, Config.receiveMax]

/-- A lane that waits takes nothing but the rise (R169). -/
theorem Lane.finish_of_waitRise (waits : x.phase = .waitRise) : x.finish bytes = { x with phase := .idle } := by
  unfold Lane.finish
  rw [waits]

/-- Bits clocked before that begin the bytes make no difference at the rise (log 2). -/
theorem Lane.finish_clocked (open_ : x.phase = .inTransaction) (clocked : x.bits <+: bitsOf bytes) :
    x.finish bytes = { x with bits := [] }.finish bytes := by
  have within : x.bits.length ≤ 8 * bytes.length := (bitsOf_length bytes) ▸ clocked.length_le
  unfold Lane.finish
  rw [open_]
  simp only [Lane.rise, Nat.max_eq_left within, List.length_nil, Nat.max_zero]
  rfl

end

section
variable {s : State} {l : LaneId} {bytes : List Byte} (up : s.pf.held = false)
include up

/-- A transaction without a request changes nothing but its lane (R163, R167). -/
theorem readOnly_completes (agrees : (s.lane l).agrees bytes = true) {x : Lane} (ended : (s.lane l).finish bytes = x) :
    completes (.readOnlyTransaction l bytes) s { s with cl := s.cl.set l x } :=
  congrArg Host.Outcome.next ((State.heard_agrees up agrees).trans (congrArg (s.setLane l) ended))

section
variable (open_ : (s.lane l).phase = .inTransaction) (clocked : (s.lane l).bits <+: bitsOf bytes)
include open_ clocked

/-- The bits of a transaction clocked before its command make no difference at its end (log 2). -/
theorem State.heard_clocked : s.heard l bytes = (s.setLane l { s.lane l with bits := [] }).heard l bytes := by
  rw [State.heard_agrees up ((Lane.agrees_iff open_).mpr (.inl clocked)),
    State.heard_agrees (s := s.setLane l { s.lane l with bits := [] }) up (Lane.agrees_nil (by simp) bytes)]
  simp only [State.setLane, PerLane_get_set_self, PerLane_set_set]
  exact congrArg (s.setLane l) (Lane.finish_clocked open_ clocked)

end

/-- So they make none for a request (R164; log 2). -/
theorem State.transact_clocked {code : Byte} {rest : List Byte} (open_ : (s.lane l).phase = .inTransaction)
    (clocked : (s.lane l).bits <+: bitsOf (code :: rest)) (known allowed : Bool) (need : Nat)
    (own : List Byte → State → State × Option (ReplyCode × List Byte)) :
    s.transact l code rest known allowed need own =
      (s.setLane l { s.lane l with bits := [] }).transact l code rest known allowed need own := by
  have agrees := (Lane.agrees_iff open_).mpr (.inl clocked)
  have unclocked : { s.lane l with bits := [] }.agrees (code :: rest) = true := Lane.agrees_nil rfl _
  have lane : (s.setLane l { s.lane l with bits := [] }).lane l = { s.lane l with bits := [] } := PerLane_get_set_self ..
  unfold State.transact
  rw [← State.heard_clocked up open_ clocked, lane, agrees, unclocked]
  rfl

/-- Bits clocked before that begin a transaction's bytes make no difference to its command (log 2). -/
theorem exec_clocked {i : Instr} (encoded : encodeTransaction i = some (l, bytes)) (open_ : (s.lane l).phase = .inTransaction)
    (clocked : (s.lane l).bits <+: bitsOf bytes) : exec i s = exec i (s.setLane l { s.lane l with bits := [] }) := by
  rcases exec_transaction encoded with reads | ⟨code, rest, known, allowed, need, own, rfl, judged⟩
  · rw [reads, reads]
    exact congrArg _ (State.heard_clocked up open_ clocked)
  · rw [judged, judged]
    exact congrArg _ (State.transact_clocked up open_ clocked ..)

/-- A command whose bytes are not those of the transaction in progress changes nothing (log 2). -/
theorem exec_disagrees {i : Instr} (encoded : encodeTransaction i = some (l, bytes)) (other : (s.lane l).agrees bytes = false) :
    completes i s s := by
  rcases exec_transaction encoded with reads | ⟨code, rest, known, allowed, need, own, rfl, judged⟩
  · exact (reads s).trans (congrArg _ (State.heard_disagrees up other))
  · exact (judged s).trans (congrArg _ (State.transact_disagrees up other ..))

/-! ### The fall and the lane timer -/

theorem State.transactionStart_of_idle (idle : (s.lane l).phase = .idle) : s.transactionStart l = s.setLane l (s.lane l).fall :=
  (if_neg (by simp [up])).trans (if_pos idle)

theorem State.transactionStart_of_not_idle (low : (s.lane l).phase ≠ .idle) : s.transactionStart l = s :=
  (if_neg (by simp [up])).trans (if_neg low)

end

section
variable {s : State} {l : LaneId}

theorem State.laneTimeout_of_runOut (open_ : (s.lane l).phase = .inTransaction) (runOut : 622080 ≤ (s.lane l).timer) :
    s.laneTimeout l = (s.setLane l (s.lane l).reset).raise .laneError := if_pos ⟨open_, runOut⟩

theorem State.laneTimeout_of_not (early : (s.lane l).phase ≠ .inTransaction ∨ (s.lane l).timer < 622080) : s.laneTimeout l = s :=
  if_neg fun ⟨open_, runOut⟩ => early.elim (· open_) (Nat.not_lt.mpr runOut)

end

/-! ### The sample period of a lane -/

/-- The timer runs only in a transaction, and no further than its 20 ms (R169). -/
theorem Lane.elapse_if (x : Lane) (n : Nat) :
    x.elapse n = if x.phase = .inTransaction ∧ x.timer < 622080 then { x with timer := min (x.timer + n) 622080 } else x := by
  unfold Lane.elapse
  simp only [Lane.timing_iff]
  rfl

/-- An edge: the core clocks before it, then the timer anew, and a bit either way if it rises (R163, R167, R169). -/
theorem Lane.edge_if (x : Lane) (e : LclkEdge) {y : Lane} (waited : y = x.elapse e.wait) :
    x.edge e = if ¬ (y.phase = .inTransaction ∧ y.timer < 622080) then y
      else if e.rising then
        { y with timer := 0, bits := y.bits ++ [e.ldi], rx := (bytesIn (y.bits ++ [e.ldi])).take 62
                 sent := ldoBits y.shift (y.bits.length + 1) }
      else { y with timer := 0 } := by
  subst waited
  simp only [Lane.edge, Lane.timing_iff, ite_not]
  rfl

/-- The core clocks left of a sample period are those its edges did not wait (log 3). -/
theorem Lane.clocked_sum (x : Lane) (es : List LclkEdge) :
    x.clocked es = (es.foldl Lane.edge x).elapse (648 - (es.map (·.wait)).sum) := by
  rw [List.sum_eq_foldl, List.foldl_map]
  rfl

/-- A mix passes every lane its own edges (R163). -/
theorem State.mixPeriod_lane (s : State) (f : InputFrame) (l : LaneId) : (s.mixPeriod f).lane l = (s.lane l).clocked (f.lclk.get l) := by
  cases l <;> rfl

/-- Settles O47: the fall and the timeout by whether they are due; the end of a transaction by the lane's phase; and the edges of a mix,
with the functions of the statement those of the lane. -/
theorem transactionsReadReplies : Obligations.TransactionsReadReplies := by
  refine ⟨fun s l up => ⟨fun idle => ?_, fun low => ?_, fun early => ?_, fun open_ runOut => ?_⟩,
    fun s l x reply bytes up own empty full => ?_, fun f s reply into pass edge settled empty full short whole waits edges => ?_⟩
  · exact congrArg Host.Outcome.next (State.transactionStart_of_idle up idle)
  · exact congrArg Host.Outcome.next (State.transactionStart_of_not_idle up low)
  · exact congrArg Host.Outcome.next (State.laneTimeout_of_not early)
  · exact congrArg Host.Outcome.next (State.laneTimeout_of_runOut open_ runOut)
  · obtain rfl : reply = replyBits := eq_replyBits empty fun r => (full r).trans (congrArg bitsOf r.bytes_eq.symm)
    subst own
    refine ⟨Lane.ldo_eq _, fun idle => ?_, fun open_ unclocked => ?_, fun waits => ?_, fun i encoded open_ => ⟨fun clocked => ?_,
      fun apart other => ?_⟩⟩
    · exact readOnly_completes up (Lane.agrees_of_not_inTransaction (fun open_ => nomatch idle.symm.trans open_)) (Lane.finish_of_idle idle)
    · exact readOnly_completes up (Lane.agrees_nil unclocked bytes) (Lane.finish_of_unclocked open_ unclocked)
    · exact readOnly_completes up (Lane.agrees_of_not_inTransaction (fun open_ => nomatch waits.symm.trans open_)) (Lane.finish_of_waitRise waits)
    · exact exec_clocked up encoded open_ clocked
    · exact exec_disagrees up encoded (Bool.eq_false_iff.mpr fun agrees => ((Lane.agrees_iff open_).mp agrees).elim apart other)
  · obtain rfl : reply = replyBits := eq_replyBits empty full
    obtain rfl : into = bytesIn := funext (eq_bytesIn short whole)
    obtain rfl : pass = Lane.elapse := funext fun x => funext fun n => (waits x n).trans (x.elapse_if n).symm
    obtain rfl : edge = Lane.edge := funext fun x => funext fun e => (edges x e _ rfl).trans (x.edge_if e rfl).symm
    exact ⟨s.mixPeriod f, mix_completes_of_settled settled f, fun l => (s.mixPeriod_lane f l).trans (Lane.clocked_sum _ _)⟩

end Sys2Proof.Machine
end

section
/-! SUPPORT. What PROFILE_READ shows of each field of the working copy (O53). -/

namespace Sys2Proof.Machine

/-! ### Values on the wire (R173, R185) -/

theorem setClear_eq (b : Bool) : setClear b = [if b then 1#8 else 0#8] := by cases b <;> rfl

theorem ResumeKind.byte1_code (k : ResumeKind) : byte1 k.code = [match k with | .goOn => 0#8 | .next => 1#8 | .reprise => 2#8] := by
  cases k <;> rfl

theorem StartState.byte1_code (a : StartState) : byte1 a.code = [match a with | .offAir => 0#8 | .onAir => 1#8] := by
  cases a <;> rfl

theorem Role.byte1_code (r : Role) :
    byte1 r.code = [match r with | .mainTx => 0#8 | .standbyTx => 1#8 | .siteControl => 2#8 | .unused => 3#8] := by
  cases r <;> rfl

theorem DuckClass.byte1_code (k : DuckClass) : byte1 k.code = [match k with | .ducked => 0#8 | .ducker => 1#8 | .neither => 2#8] := by
  cases k <;> rfl

/-- The value of every field with its code, in code order (R185). -/
def Profile.rows (p : Profile) : List (Byte × List Byte) := Field.all.map fun x => (x.code, x.value p)

theorem Profile.exists_field_of_mem_rows {p : Profile} {c : Byte} {v : List Byte} (row : (c, v) ∈ p.rows) :
    ∃ x : Field, c = x.code ∧ v = x.value p := by
  obtain ⟨x, _, same⟩ := List.mem_map.mp row
  obtain ⟨code, value⟩ := Prod.mk.inj same
  exact ⟨x, code.symm, value.symm⟩

theorem Field.readBody_eq (p : Profile) (c : Byte) (x : Field) :
    x.readBody p c = c :: BitVec.ofNat 8 (x.value p).length :: x.value p := by
  unfold Field.readBody
  rw [byte1_eq]
  rfl

/-! ### PROFILE_READ -/

section
variable {s : State} {c : Byte}

theorem State.profileRead_of_loading (loading : s.pf.load ≠ none) : s.profileRead c = s.reply .busy :=
  if_pos (Option.isSome_iff_ne_none.mpr loading)

variable (loaded : s.pf.load = none)
include loaded

theorem State.profileRead_of_unnamed (unnamed : fieldOf c = none) : s.profileRead c = s.reply .unknown := by
  refine (if_neg (by simp [loaded])).trans ?_
  rw [unnamed]
  rfl

theorem State.profileRead_of_named {x : Field} (named : fieldOf c = some x) : s.profileRead c =
    { state := s, code := .done, body := c :: BitVec.ofNat 8 (x.value s.pf.working).length :: x.value s.pf.working } := by
  refine (if_neg (by simp [loaded])).trans ?_
  rw [named, ← Field.readBody_eq]

end

/-- Settles O53: the code is busy, unnamed, or that of a row of the table of fields, which shows the value of that field. -/
theorem profileReadShowsTheWorkingCopy : Obligations.ProfileReadShowsTheWorkingCopy := by
  rintro s rest more c p asks rfl
  have long : 1 ≤ (c :: more).length := by simp
  refine ⟨fun loading => ?_, fun loaded out => ?_, fun v flag flags loaded row => ?_⟩
  · exact turnedAway_of_reply (own := ownProfileRead) asks rfl rfl long
      (State.profileRead_of_loading (s := s.hearing .con (0x59#8 :: rest)) loading)
  · exact turnedAway_of_reply (own := ownProfileRead) asks rfl rfl long
      (State.profileRead_of_unnamed (s := s.hearing .con (0x59#8 :: rest)) loaded (fieldOf_eq_none out))
  · obtain rfl : flag = setClear := funext fun b => (flags b).trans (setClear_eq b).symm
    have row : (c, v) ∈ s.pf.working.rows := by
      convert row using 1
      simp only [Profile.rows, Field.all, List.map, Field.value, ResumeKind.byte1_code, StartState.byte1_code,
        Role.byte1_code, DuckClass.byte1_code, List.flatMap_cons, List.flatMap_nil]
      rfl
    obtain ⟨x, rfl, rfl⟩ := Profile.exists_field_of_mem_rows row
    exact completes_of_own (own := ownProfileRead) (u := s.hearing .con (0x59#8 :: rest)) asks rfl rfl long
      (State.profileRead_of_named (s := s.hearing .con (0x59#8 :: rest)) loaded (fieldOf_code x)) rfl

end Sys2Proof.Machine
end

section
/-! SUPPORT. Power-on held: its state around the non-volatile copy and the lanes, what each command finds in it, and what its lanes follow
(R188; log 33); POWER_ON (O6). -/

namespace Sys2Proof.Machine

/-! ### The state of a held power-on -/

/-- A held power-on around what it does not hold: the queue, the lanes, the non-volatile copy and its marker (R188). -/
def heldPowerOn (pending : List Instr) (lanes : PerLane Lane) (stored : Profile) (valid : Bool) : State :=
  { State.reset with
    pending := pending
    cl := lanes
    pf := { working := factory, stored := stored, valid := valid, load := some 96, write := none, held := true } }

/-- Power-on puts no kind into a status set, so every attention line is released (R181). -/
theorem attention_reset (l : LaneId) : State.reset.attention l = false := by cases l <;> decide

section
variable {s : State} (held : s.isHeld)
include held

theorem eq_heldPowerOn : s = heldPowerOn s.pending s.cl s.pf.stored s.pf.valid := held.2

theorem pf_held_of_isHeld : s.pf.held = true := congrArg (·.pf.held) (eq_heldPowerOn held)

/-- A lane shows only the level of its LSEL. -/
theorem lane_of_isHeld (l : LaneId) : s.lane l = { Lane.initial with phase := (s.lane l).phase } := (held.1 l).1

theorem phase_of_isHeld (l : LaneId) : (s.lane l).phase ≠ .inTransaction := (held.1 l).2

end

/-! ### Events and mixes -/

section
variable {s : State} (up : s.pf.held = true) (f : InputFrame)
include up

theorem State.buildStep_held : s.buildStep f = s := by rw [State.buildStep, State.mix_held up, ite_self]

theorem State.catchUpStep_held : s.catchUpStep f = s := by rw [State.catchUpStep, State.mix_held up, ite_self]

theorem State.clockWrap_held : s.clockWrap f = s := by rw [State.clockWrap, State.mix_held up, ite_self]

end

/-- Nothing is due while power-on is held: a command that is no transaction, no fall and no POWER_ON changes nothing (R188; log 33). -/
theorem exec_heldPowerOn {s : State} (held : s.isHeld) {i : Instr} (event : encodeTransaction i = none)
    (noFall : ∀ l, i ≠ .transactionStart l) (noPowerOn : ∀ rst supply, i ≠ .powerOn rst supply) : completes i s s := by
  have up := pf_held_of_isHeld held
  have closed := phase_of_isHeld held
  have shape := eq_heldPowerOn held
  generalize s.pending = pending, s.cl = lanes, s.pf.stored = stored, s.pf.valid = valid at shape
  subst shape
  cases i with
  | powerOn rst supply => exact absurd rfl (noPowerOn rst supply)
  | transactionStart l => exact absurd rfl (noFall l)
  | laneTimeout l => exact congrArg Host.Outcome.next (State.laneTimeout_of_not (.inl (closed l)))
  | mix f => exact congrArg Host.Outcome.next (State.mix_held up f)
  | buildStep f => exact congrArg Host.Outcome.next (State.buildStep_held up f)
  | catchUpStep f => exact congrArg Host.Outcome.next (State.catchUpStep_held up f)
  | clockWrap f => exact congrArg Host.Outcome.next (State.clockWrap_held up f)
  | releaseRampEnd src => cases src <;> rfl
  | fadeOutPoint d | itemEnd d => cases d <;> rfl
  | ringFilterArmed n | ringBurst n | ringExpiry n | loopLoss n | holdLong n => cases n <;> rfl
  | profileLoadComplete | startDelayExpiry | seguePoint | windowExpiry | attentionEnd | messageTruncated | alertEnd | blockJudged
  | frameBoundary | pollTimerExpiry | replyWindowClose | returnCharacter | assemblerTake | profileWriteComplete => rfl
  | _ => exact nomatch event

/-! ### The lanes of a held power-on -/

/-- A lane at power-on shows only the level of its LSEL (R170; log 13). -/
theorem Lane.powerOn_shows (x : Lane) :
    x.powerOn = { Lane.initial with phase := x.powerOn.phase } ∧ x.powerOn.phase ≠ .inTransaction := by
  refine ⟨rfl, ?_⟩
  unfold Lane.powerOn
  dsimp only
  split <;> exact nofun

/-- A lane that shows only the level of its LSEL follows it (R188; log 13). -/
theorem Lane.heldAt_eq {x : Lane} (shows : x = { Lane.initial with phase := x.phase }) (high : Bool) :
    x.heldAt high = { Lane.initial with phase := if high then .idle else .waitRise } :=
  congrArg (fun y : Lane => { y with phase := if high then .idle else .waitRise }) shows

section
variable {s : State} (held : s.isHeld) (l : LaneId)
include held

/-- A fall while power-on is held leaves the lane waiting for the rise (R188). -/
theorem transactionStart_held :
    completes (.transactionStart l) s { s with cl := s.cl.set l { Lane.initial with phase := .waitRise } } :=
  congrArg Host.Outcome.next
    ((if_pos (pf_held_of_isHeld held)).trans (congrArg (s.setLane l) (Lane.heldAt_eq (lane_of_isHeld held l) false)))

/-- A transaction while power-on is held is only a rise (R188). -/
theorem transaction_held {i : Instr} {bytes : List Byte} (encoded : encodeTransaction i = some (l, bytes)) :
    completes i s { s with cl := s.cl.set l { Lane.initial with phase := .idle } } := by
  have up := pf_held_of_isHeld held
  have risen := congrArg (s.setLane l) (Lane.heldAt_eq (lane_of_isHeld held l) true)
  rcases exec_transaction encoded with reads | ⟨code, rest, known, allowed, need, own, rfl, judged⟩
  · exact (reads s).trans (congrArg Host.Outcome.next ((State.heard_held up l bytes).trans risen))
  · exact (judged s).trans (congrArg Host.Outcome.next ((State.transact_held up l ..).trans risen))

end

/-! ### POWER_ON -/

/-- With RST or the supply low, POWER_ON holds the part (R188). -/
theorem State.powerOn_isHeld (s : State) {rst supply : Bool} (low : rst = false ∨ supply = false) : (s.powerOn rst supply).isHeld := by
  have holds : (!(rst && supply)) = true := by
    rcases low with rst | supply
    · rw [rst, Bool.false_and, Bool.not_false]
    · rw [supply, Bool.and_false, Bool.not_false]
  refine ⟨fun l => ?_, ?_⟩
  · cases l <;> exact Lane.powerOn_shows _
  · unfold State.powerOn
    rw [holds]
    rfl

/-- Settles O6: POWER_ON by its levels; and of a held power-on what it shows, what the lanes follow, and that nothing else is due. -/
theorem powerOnTakesEveryBlock : Obligations.PowerOnTakesEveryBlock := by
  refine ⟨?_, fun s held => ?_⟩
  · rintro s rst supply t rfl
    exact ⟨rfl, s.powerOn_isHeld, fun high enough => by rw [high, enough]; exact ⟨rfl, rfl, rfl⟩⟩
  · have shape := eq_heldPowerOn held
    refine ⟨congrArg (·.tl.frame) shape, congrArg (·.tl.forward) shape, congrArg (·.ap.airMonitor) shape, fun d => ?_, fun n => ?_,
      fun l => ⟨(congrArg (·.attention l) shape).trans (attention_reset l),
        (Lane.ldo_eq _).trans (if_neg (phase_of_isHeld held l))⟩,
      transactionStart_held held, fun i l bytes encoded => transaction_held held l encoded,
      fun i event noFall noPowerOn => exec_heldPowerOn held event noFall noPowerOn⟩
    · rw [shape]; cases d <;> rfl
    · rw [shape]; cases n <;> rfl

end Sys2Proof.Machine
end

section
/-! SUPPORT. What each command makes of the air clock (R182, R188; O3). -/

namespace Sys2Proof.Machine

set_option Elab.async false

theorem State.mix_clock (s : State) (f : InputFrame) :
    (s.mix f).ev.clock = if s.pf.held then s.ev.clock else s.ev.clock + 1#32 := by
  cases held : s.pf.held with
  | true => rw [State.mix_held held, if_pos rfl]
  | false => rw [State.mix_runs held, State.mixPeriod_clock, State.settle_ev_clock, if_neg Bool.false_ne_true]

theorem onLine_clock {own : LineId → State → Answer} (kept : ∀ n t, (own n t).state.ev.clock = t.ev.clock) (body : List Byte)
    (s : State) : (onLine own body s).state.ev.clock = s.ev.clock := by
  unfold onLine
  split
  · split
    · rfl
    · exact kept _ s
  · rfl

/-- A state answered with the air clock of another. -/
theorem clock_of_next {s t u : State} (kept : u.ev.clock = s.ev.clock) (e : (.next u : Result) = .next t) :
    t.ev.clock = s.ev.clock := holds_of_next (I := fun x => x.ev.clock = s.ev.clock) kept e

section
variable {s t : State} {l : LaneId} {code : Byte} {rest : List Byte} {known allowed : Bool} {need : Nat}

/-- A transaction leaves the air clock where its owner does. -/
theorem clock_of_transact {own : List Byte → State → State × Option (ReplyCode × List Byte)}
    (kept : ∀ b u, (own b u).1.ev.clock = u.ev.clock)
    (e : (.next (s.transact l code rest known allowed need own) : Result) = .next t) : t.ev.clock = s.ev.clock :=
  clock_of_next (State.transact_keeps (·.ev.clock) (fun _ _ _ => rfl) s l code rest known allowed need own kept) e

theorem clock_of_request {own : List Byte → State → Answer} (kept : ∀ b u, (own b u).state.ev.clock = u.ev.clock)
    (e : (.next (s.request l code rest allowed need own) : Result) = .next t) : t.ev.clock = s.ev.clock :=
  clock_of_transact kept e

end

/-- A command that is no power-on and no mix leaves the air clock (R182). -/
theorem clock_of_exec {c : Instr} {s t : State} (e : exec c s = .next t) (noPowerOn : ∀ rst supply, c ≠ .powerOn rst supply)
    (noMix : ∀ f, c ≠ .mix f ∧ c ≠ .buildStep f ∧ c ≠ .catchUpStep f ∧ c ≠ .clockWrap f) : t.ev.clock = s.ev.clock := by
  cases c with
  | powerOn rst supply => exact absurd rfl (noPowerOn rst supply)
  | mix f => exact absurd rfl (noMix f).1
  | buildStep f => exact absurd rfl (noMix f).2.1
  | catchUpStep f => exact absurd rfl (noMix f).2.2.1
  | clockWrap f => exact absurd rfl (noMix f).2.2.2
  | profileLoadComplete | startDelayExpiry | releaseRampEnd | fadeOutPoint | seguePoint | itemEnd | ringFilterArmed | ringBurst
  | ringExpiry | loopLoss | holdLong | windowExpiry | attentionEnd | messageTruncated | alertEnd | blockJudged | frameBoundary
  | pollTimerExpiry | replyWindowClose | returnCharacter | assemblerTake | transactionStart | readOnlyTransaction | laneTimeout
  | profileWriteComplete => exact clock_of_next (by simp) e
  | lineAnswer | lineScreen | lineHold | lineReady | lineDrop => exact clock_of_request (fun b => onLine_clock (by simp) b) e
  | profileWrite l eng rest => exact clock_of_transact (by simp) e
  | unknownRequestCode l code rest =>
    have e : execUnknownRequestCode l code rest s = .next t := e
    unfold execUnknownRequestCode at e
    split at e
    · exact clock_of_next (by simp) e
    · exact clock_of_transact (by simp) e
  | _ => exact clock_of_request (by simp) e

/-- Settles O3: power-on by its reset values, a mix by its period, and every other command by the clock it leaves. -/
theorem airClockAdvancesByMixesAlone : Obligations.AirClockAdvancesByMixesAlone := by
  intro c s t e
  refine ⟨?_, ?_, clock_of_exec e⟩
  · rintro rst supply rfl
    exact holds_of_next (I := fun x => x.ev.clock = 0#32) (s := s.powerOn rst supply) rfl e
  · rintro f rfl
    exact holds_of_next (I := fun x => x.ev.clock = _) (s.mix_clock f) e

end Sys2Proof.Machine
end

section
/-! SUPPORT. The event sets: what a set of four bytes names, which lanes a raise reaches, and when an attention line is asserted (R174,
R178 to R181; O52). -/

namespace Sys2Proof.Machine

set_option Elab.async false

/-! ### Sets of kinds (R174, R177) -/

/-- The kinds of four bytes are the low 29 bits of their word (R174). -/
theorem eventSetOf_eq (k3 k2 k1 k0 : Byte) : eventSetOf k3 k2 k1 k0 = (k3 ++ k2 ++ k1 ++ k0 : BitVec 32).setWidth 29 := by
  have join : ∀ (w : Nat) (x : BitVec w) (b : Byte), (x ++ b).toNat = x.toNat * 256 + b.toNat := fun w x b => by
    rw [BitVec.toNat_append, ← Nat.shiftLeft_add_eq_or_of_lt b.isLt, Nat.shiftLeft_eq]
  refine BitVec.eq_of_toNat_eq ?_
  rw [eventSetOf, BitVec.toNat_ofNat, BitVec.toNat_setWidth, join, join, join, word32, word16, word16]
  exact congrArg (· % 2 ^ 29) (by ring)

/-- The event kinds in the order of their bits (R177). -/
def EventKind.inOrder : List EventKind :=
  [.seqAdvance, .cueRequest, .lateStart, .seqHalted, .itemDone, .lineRing, .lineMissed, .lineDrop, .holdLong, .queueChange, .preempt,
   .resumed, .stackOverflow, .alertPending, .alertStart, .alertDone, .alertFiltered, .deadAirWarn, .failover, .airState, .unitLost,
   .txChangeover, .ceiling, .remoteRefused, .clip, .delayDump, .laneError, .clockWrap, .profileDefaulted]

theorem EventKind.inOrder_bits : EventKind.inOrder.map EventKind.bit = List.range 29 := rfl

/-- Every bit of a set names a kind (R177). -/
theorem EventKind.exists_bit {i : Nat} (inside : i < 29) : ∃ k : EventKind, k.bit = i := by
  have named : i ∈ EventKind.inOrder.map EventKind.bit := EventKind.inOrder_bits ▸ List.mem_range.mpr inside
  obtain ⟨k, -, bit⟩ := List.mem_map.mp named
  exact ⟨k, bit⟩

/-- A set holds a kind where its bit is set. -/
theorem EventSet.holds_iff (e : EventSet) (k : EventKind) : e &&& k.set ≠ 0#29 ↔ e.getLsbD k.bit = true := by
  have alone : BitVec.twoPow 29 k.bit ≠ 0#29 := by cases k <;> decide
  rw [EventKind.set, BitVec.and_twoPow]
  cases e.getLsbD k.bit with
  | false => exact iff_of_false (fun differs => differs rfl) Bool.false_ne_true
  | true => exact iff_of_true alone rfl

/-- Two sets share a kind exactly where their common part is not empty. -/
theorem EventSet.shares_iff (a b : EventSet) : a &&& b ≠ 0#29 ↔ ∃ k : EventKind, a &&& k.set ≠ 0#29 ∧ b &&& k.set ≠ 0#29 := by
  simp only [EventSet.holds_iff]
  constructor
  · intro common
    by_contra none
    refine common (BitVec.eq_of_getLsbD_eq fun i inside => ?_)
    obtain ⟨k, rfl⟩ := EventKind.exists_bit inside
    rw [BitVec.getLsbD_and, BitVec.getLsbD_zero, Bool.and_eq_false_iff]
    by_contra both
    exact none ⟨k, by simpa using both⟩
  · rintro ⟨k, inA, inB⟩ empty
    have bit : (a &&& b).getLsbD k.bit = true := by rw [BitVec.getLsbD_and, inA, inB, Bool.and_self]
    rw [empty, BitVec.getLsbD_zero] at bit
    exact nomatch bit

/-! ### The event unit -/

theorem State.attention_iff (s : State) (l : LaneId) : s.attention l = true ↔ s.ev.status.get l &&& s.ev.enable.get l ≠ 0#29 :=
  bne_iff_ne

/-- Settles O52: each request by what its owner leaves of the event unit, and an attention line by the kinds its lane's sets share. -/
theorem eventsReachTheLanes : Obligations.EventsReachTheLanes := by
  refine ⟨fun s l rest more k3 k2 k1 k0 k named => ?_, fun s k l => ⟨s.ev.raise_status k l, rfl, rfl, ?_⟩⟩
  · obtain rfl : k = eventSetOf k3 k2 k1 k0 := named.trans (eventSetOf_eq k3 k2 k1 k0).symm
    refine ⟨fun asks => ?_, fun on asks => ?_⟩
    · exact completes_of_own (own := ownEventClear l)
        (u := (s.hearing l (0x05#8 :: rest)).setEv (s.ev.clear l (eventSetOf k3 k2 k1 k0))) asks rfl rfl (by simp) rfl rfl
    · exact completes_of_own (own := ownEventEnable l)
        (u := (s.hearing l (0x04#8 :: rest)).setEv (s.ev.setEnable l (eventSetOf k3 k2 k1 k0) (bitAt on 0))) asks rfl rfl (by simp) rfl rfl
  · rw [State.attention_iff]
    exact EventSet.shares_iff _ _

end Sys2Proof.Machine
end

section
/-! SUPPORT. The status pages: the size of each part, and each part as the statement about STATUS_READ spells it (R183; O51). -/

namespace Sys2Proof.Machine

set_option Elab.async false

/-! ### Sizes -/

@[simp] theorem bytesOf_length (n x : Nat) : (bytesOf n x).length = n := by
  induction n with
  | zero => rfl
  | succ n ih => rw [bytesOf, List.length_cons, ih]

@[simp] theorem byte1_length (x : Nat) : (byte1 x).length = 1 := bytesOf_length 1 x
@[simp] theorem byte2_length (x : Nat) : (byte2 x).length = 2 := bytesOf_length 2 x
@[simp] theorem byte4_length (x : Nat) : (byte4 x).length = 4 := bytesOf_length 4 x
@[simp] theorem clockBytes_length (c : Clock) : (clockBytes c).length = 4 := byte4_length _
@[simp] theorem clockOrZero_length (x : Option Clock) : (clockOrZero x).length = 4 := clockBytes_length _

@[simp] theorem deckBytes_length (k : Deck) : (deckBytes k).length = 7 := by simp [deckBytes]

@[simp] theorem topBytes_length (rs : List Context) : (topBytes rs).length = 6 := by cases rs <;> simp [topBytes]

@[simp] theorem resumeBytes_length (x : Option LastResume) : (resumeBytes x).length = 19 := by cases x <;> simp [resumeBytes]

@[simp] theorem lineBytes_length (r : LineRec) : (lineBytes r).length = 11 := by simp [lineBytes]

@[simp] theorem queuePlace_length (q : List LineId) (i : Nat) : (queuePlace q i).length = 1 := byte1_length _

@[simp] theorem onAirBytes_length (x : Option OnAirAlert) : (onAirBytes x).length = 6 := by cases x <;> simp [onAirBytes]

@[simp] theorem lastBytes_length (x : Option UnitStatus) : (lastBytes x).length = 4 := by cases x <;> simp [lastBytes]

@[simp] theorem unitBytes_length (u : SiteUnit) : (unitBytes u).length = 8 := by simp [unitBytes]

section
variable (s : State)

theorem State.page0_length : s.page0.length = 52 := by simp [State.page0]
theorem State.page1_length : s.page1.length = 51 := by simp [State.page1, LineId.all]
theorem State.page2_length : s.page2.length = 29 := by simp [State.page2]
theorem State.page3_length : s.page3.length = 35 := by simp [State.page3]
theorem State.page4_length : s.page4.length = 28 := by simp [State.page4]

end

/-! ### Parts of the pages -/

/-- The head's position, by what the head is and where it stands (R183). -/
theorem State.headPosition_eq (s : State) : s.headPosition = (match s.sq.list with
    | [] => 0
    | h :: _ =>
      if h.kind = .live then (s.sq.liveStart.map fun c => (s.ev.clock - c).toNat).getD 0
      else if s.sq.deckA.item = some h.id then s.sq.deckA.position
      else if s.sq.deckB.item = some h.id then s.sq.deckB.position else 0) := by
  unfold State.headPosition Sequencer.boundDeck
  cases s.sq.list with
  | nil => rfl
  | cons h tl =>
    by_cases live : h.kind = .live
    · simp only [live, if_true]
      cases s.sq.liveStart <;> rfl
    · by_cases onA : s.sq.deckA.item = some h.id
      · simp only [live, onA, if_true, if_false]
        rfl
      · by_cases onB : s.sq.deckB.item = some h.id
        · simp only [live, onA, onB, if_true, if_false]
          rfl
        · simp only [live, onA, onB, if_false]

/-- Page 1, line by line. -/
theorem State.page1_eq (s : State) : s.page1 =
    lineBytes (s.line .l1) ++ lineBytes (s.line .l2) ++ lineBytes (s.line .l3) ++ lineBytes (s.line .l4) ++
      byte1 s.lc.queue.length ++ [0, 1, 2, 3].flatMap (queuePlace s.lc.queue) ++ byte2 s.lc.missed := by
  simp [State.page1, LineId.all]

/-- Page 4, count by count. -/
theorem State.page4_eq (s : State) : s.page4 =
    byte2 s.pb.clipCount ++ byte2 s.pb.ceilingHits ++ byte2 s.ps.overflow ++ byte2 s.sq.doneOverflow ++ byte2 s.tl.framing ++
      byte2 s.tl.overrun ++ byte2 s.tl.stray ++ byte2 s.du.dumps ++ byte2 s.al.logOverwrites ++ byte2 s.cl.aut.errors ++
      byte2 s.cl.con.errors ++ byte2 s.cl.alr.errors ++ clockBytes s.ev.clock := by
  simp [State.page4]

/-- A unit that has given no status shows 0 for it (R183). -/
theorem unitBytes_eq (u : SiteUnit) : unitBytes u =
    byte1 u.role.code ++ byte1 u.presence.code ++ byte1 u.misses ++
      (match u.last with
        | some x => [1#8, x.flags, x.forward, x.reflected]
        | none => [0#8, 0#8, 0#8, 0#8]) ++ [u.lastCode] := by
  unfold unitBytes
  cases u.last <;> rfl

/-! ### STATUS_READ -/

/-- A transaction that ends counts no error on any lane. -/
theorem State.hearing_errors (s : State) (l m : LaneId) (bytes : List Byte) :
    ((s.hearing l bytes).cl.get m).errors = (s.cl.get m).errors := by
  refine (congrArg Lane.errors (PerLane_get_set ..)).trans ?_
  split
  · subst m
    exact Lane.finish_errors ..
  · rfl

/-- A transaction that ends changes nothing that a page shows. -/
theorem State.page_hearing (s : State) (l : LaneId) (bytes : List Byte) (n : Byte) : (s.hearing l bytes).page n = s.page n := by
  have aut : (s.hearing l bytes).cl.aut.errors = s.cl.aut.errors := s.hearing_errors l .aut bytes
  have con : (s.hearing l bytes).cl.con.errors = s.cl.con.errors := s.hearing_errors l .con bytes
  have alr : (s.hearing l bytes).cl.alr.errors = s.cl.alr.errors := s.hearing_errors l .alr bytes
  have page4 : (s.hearing l bytes).page4 = s.page4 := by
    rw [State.page4_eq, State.page4_eq, aut, con, alr]
    rfl
  unfold State.page
  rw [page4]
  rfl

section
variable {s : State} {l : LaneId} {rest more : List Byte} {n : Byte} (asks : s.asks l rest (n :: more))
include asks

theorem statusRead_of_page {p : List Byte} (page : s.page n = some p) :
    completes (.statusRead l rest) s { s with cl := s.replied l (0x02#8 :: rest) .done p } := by
  have own : ownStatusRead (n :: more) (s.hearing l (0x02#8 :: rest)) =
      { state := s.hearing l (0x02#8 :: rest), code := .done, body := p } := by
    unfold ownStatusRead
    dsimp only
    rw [State.page_hearing, page]
  exact completes_of_own (u := s.hearing l (0x02#8 :: rest)) asks rfl rfl (by simp) own rfl

theorem statusRead_of_no_page (page : s.page n = none) : turnedAway (.statusRead l rest) s l (0x02#8 :: rest) .unknown := by
  have own : ownStatusRead (n :: more) (s.hearing l (0x02#8 :: rest)) = (s.hearing l (0x02#8 :: rest)).reply .unknown := by
    unfold ownStatusRead
    dsimp only
    rw [State.page_hearing, page]
  exact turnedAway_of_reply asks rfl rfl (by simp) own

end

theorem State.page_length {s : State} {n : Byte} {p : List Byte} (page : s.page n = some p) :
    p.length = if n.toNat = 0 then 52 else if n.toNat = 1 then 51 else if n.toNat = 2 then 29 else if n.toNat = 3 then 35 else 28 := by
  unfold State.page at page
  split at page <;> rename_i number <;> cases page <;> rw [number]
  · exact s.page0_length
  · exact s.page1_length
  · exact s.page2_length
  · exact s.page3_length
  · exact s.page4_length

/-- There is no page above 4 (R183). -/
theorem State.page_of_above (s : State) {n : Byte} (above : 4 < n.toNat) : s.page n = none := by
  unfold State.page
  split
  case h_6 => rfl
  all_goals omega

/-- Settles O51: each part of the reply is that of the page, and the page of the number is placed. -/
theorem statusReadShowsThePages : Obligations.StatusReadShowsThePages := by
  intro s l rest more n one two four flag deck line unit top last alert head cause mode asks ones twos fours flags causes modes decks
    lines units noTop tops noLast lasts noAlert alerts heads
  obtain rfl : flag = flagBit := funext₂ flags
  obtain rfl : cause = Cause.code := funext fun c => (causes c).trans (by cases c <;> rfl)
  obtain rfl : mode = DelayMode.code := funext fun m => (modes m).trans (by cases m <;> rfl)
  subst ones twos fours
  obtain rfl : deck = deckBytes := funext decks
  obtain rfl : line = lineBytes := funext lines
  obtain rfl : unit = unitBytes := funext fun k => (units k).trans (unitBytes_eq k).symm
  obtain rfl : top = topBytes s.ps.records := by
    cases records : s.ps.records with
    | nil => exact noTop records
    | cons r rs => exact tops r rs records
  obtain rfl : last = resumeBytes s.ps.lastResume := by
    cases record : s.ps.lastResume with
    | none => exact noLast record
    | some y => exact lasts y record
  obtain rfl : alert = onAirBytes s.al.onAir := by
    cases onAir : s.al.onAir with
    | none => exact noAlert onAir
    | some o => exact alerts o onAir
  obtain rfl : head = s.headPosition := heads.trans s.headPosition_eq.symm
  refine ⟨fun above => statusRead_of_no_page asks (s.page_of_above above), fun p shown => ?_⟩
  have page : s.page n = some p := by
    unfold State.page
    rcases shown with ⟨number, rfl⟩ | ⟨number, rfl⟩ | ⟨number, rfl⟩ | ⟨number, rfl⟩ | ⟨number, rfl⟩ <;> rw [number]
    · rfl
    · exact congrArg some s.page1_eq
    · rfl
    · rfl
    · exact congrArg some s.page4_eq
  exact ⟨statusRead_of_page asks page, State.page_length page⟩

end Sys2Proof.Machine
end

section
/-! SUPPORT. What outlasts a power-on, the queue and the non-volatile copy with its marker, and what each command makes of it (R187, R188,
R189; O2). -/

namespace Sys2Proof.Machine

set_option Elab.async false

/-- The queue of waiting commands, the non-volatile copy and its marker. -/
def State.lasting (s : State) : List Instr × Profile × Bool := (s.pending, s.pf.stored, s.pf.valid)

theorem State.lasting_eq_iff {s t : State} :
    t.lasting = s.lasting ↔ t.pending = s.pending ∧ t.pf.stored = s.pf.stored ∧ t.pf.valid = s.pf.valid := by
  simp [State.lasting]

theorem State.lasting_of_pf {s t : State} (queue : t.pending = s.pending) (store : t.pf = s.pf) : t.lasting = s.lasting := by
  rw [State.lasting, queue, store]
  rfl

/-- A state that keeps them keeps the copy, and its marker too. -/
theorem State.copy_of_lasting {s t : State} {p : Prop} (same : t.lasting = s.lasting) :
    t.pf.stored = s.pf.stored ∧ (p → t.pf.valid = s.pf.valid) :=
  (State.lasting_eq_iff.mp same).2.imp_right fun marker _ => marker

/-! ### The load and the global reset -/

/-- A power-on load that ends reads the non-volatile copy into the working copy (R188). -/
theorem State.profileLoadComplete_pf (s : State) :
    s.profileLoadComplete.pf = if s.pf.load = some 0 then { s.pf with working := s.pf.loaded, load := none } else s.pf := by
  unfold State.profileLoadComplete
  split <;> simp

theorem State.profileLoadComplete_lasting (s : State) : s.profileLoadComplete.lasting = s.lasting := by
  rw [State.lasting_eq_iff, State.profileLoadComplete_pending, State.profileLoadComplete_pf]
  split <;> exact ⟨rfl, rfl, rfl⟩

theorem State.profileLoadComplete_write (s : State) : s.profileLoadComplete.pf.write = s.pf.write := by
  rw [State.profileLoadComplete_pf]
  split <;> rfl

theorem State.globalReset_pf (s : State) : s.globalReset.pf = s.pf.globalReset := by
  simp [State.globalReset, State.resetBlocks]

/-! ### The mix -/

theorem State.settle_pf (s : State) : s.settle.pf = s.profileWriteComplete.profileLoadComplete.pf := by
  simp [State.settle, State.settleStart]

/-- A mix takes a write that is due, then a load that is due; then its sample period counts both (R187, R188; log 6). -/
theorem State.mix_pf {s : State} (runs : s.pf.held = false) (f : InputFrame) :
    (s.mix f).pf = s.profileWriteComplete.profileLoadComplete.pf.tick := by
  rw [State.mix_runs runs, ← State.settle_pf]
  rfl

/-- A mix leaves of the queue, the copy and the marker what the end of a write leaves (log 6). -/
theorem State.mix_lasting {s : State} (runs : s.pf.held = false) (f : InputFrame) :
    (s.mix f).lasting = s.profileWriteComplete.lasting := by
  refine Eq.trans ?_ (State.profileLoadComplete_lasting _)
  refine State.lasting_eq_iff.mpr ⟨by simp, ?_, ?_⟩ <;> rw [State.mix_pf runs] <;> rfl

section
variable {s : State} (running : ∀ w, s.pf.write = some w → w.left ≠ 0)
include running

theorem State.profileWriteComplete_of_not_due : s.profileWriteComplete = s := by
  apply State.profileWriteComplete_of_unwritten
  cases write : s.pf.write with
  | none => exact .inl rfl
  | some w => exact .inr ⟨w, rfl, running w write⟩

/-- With no write due a mix leaves the queue, the copy and the marker. -/
theorem State.mix_lasting_of_not_due (f : InputFrame) : (s.mix f).lasting = s.lasting := by
  cases held : s.pf.held with
  | true => rw [State.mix_held held]
  | false => rw [State.mix_lasting held, State.profileWriteComplete_of_not_due running]

end

/-! ### The requests -/

section
variable {s : State} {l : LaneId} {code : Byte} {rest : List Byte} {known allowed : Bool} {need : Nat}

theorem State.transact_lasting {own : List Byte → State → State × Option (ReplyCode × List Byte)}
    (kept : ∀ b u, (own b u).1.lasting = u.lasting) : (s.transact l code rest known allowed need own).lasting = s.lasting :=
  State.transact_keeps State.lasting (fun _ _ _ => rfl) s l code rest known allowed need own kept

/-- A request whose owner keeps the queue and the whole profile store. -/
theorem State.request_lasting {own : List Byte → State → Answer} (queue : ∀ b u, (own b u).state.pending = u.pending)
    (store : ∀ b u, (own b u).state.pf = u.pf) : (s.request l code rest allowed need own).lasting = s.lasting :=
  State.transact_lasting fun b u => State.lasting_of_pf (queue b u) (store b u)

end

theorem onLine_lasting {own : LineId → State → Answer} (kept : ∀ n u, (own n u).state.lasting = u.lasting) (body : List Byte)
    (s : State) : (onLine own body s).state.lasting = s.lasting := by
  unfold onLine
  split
  · split
    · rfl
    · exact kept _ s
  · rfl

theorem ownGlobalReset_lasting (body : List Byte) (s : State) : (ownGlobalReset body s).state.lasting = s.lasting := by
  refine State.lasting_eq_iff.mpr ⟨ownGlobalReset_pending body s, ?_, ?_⟩ <;>
    rw [ownGlobalReset, State.done_state, State.globalReset_pf] <;> rfl

/-- A WAKE_ENABLE writes the working copy alone (R134). -/
theorem ownWakeEnable_lasting (body : List Byte) (s : State) : (ownWakeEnable body s).state.lasting = s.lasting := by
  refine State.lasting_eq_iff.mpr ⟨ownWakeEnable_pending body s, ?_, ?_⟩ <;> unfold ownWakeEnable <;> split <;> simp

/-- A PROFILE_WRITE that begins leaves the old contents in the non-volatile copy (log 26). -/
theorem State.profileWrite_stored (l : LaneId) (body : List Byte) (s : State) :
    (State.profileWrite l body s).1.pf.stored = s.pf.stored := by
  unfold State.profileWrite
  split
  case h_2 => rfl
  split
  · rfl
  split
  · rfl
  split
  · rfl
  split
  · dsimp only
    rw [State.setLane_pf, State.fieldWritten_pf]
    rfl
  · rfl

/-! ### The commands -/

/-- What a command may make of the queue, the copy and the marker. -/
inductive Lasts (c : Instr) (s t : State) : Prop
  | kept (same : t.lasting = s.lasting)
  | mixed (f : InputFrame) (mix : c = .mix f ∨ c = .buildStep f ∨ c = .catchUpStep f ∨ c = .clockWrap f) (next : t = s.mix f)
  | written (l : LaneId) (eng : Bool) (rest : List Byte) (write : c = .profileWrite l eng rest) (queue : t.pending = s.pending)
      (copy : t.pf.stored = s.pf.stored)
  | completed (complete : c = .profileWriteComplete) (next : t = s.profileWriteComplete)

/-- A command that is a mix where its condition holds, and nothing where it does not (log 7). -/
theorem Lasts.mixedIf {c : Instr} {s : State} {f : InputFrame} (p : Prop) [Decidable p]
    (mix : c = .mix f ∨ c = .buildStep f ∨ c = .catchUpStep f ∨ c = .clockWrap f) : Lasts c s (if p then s.mix f else s) := by
  split
  · exact .mixed f mix rfl
  · exact .kept rfl

/-- A command whose next state keeps the queue, the copy and the marker. -/
theorem Lasts.of_next {c : Instr} {s t u : State} (same : u.lasting = s.lasting) (e : (.next u : Result) = .next t) : Lasts c s t :=
  .kept (holds_of_next (I := fun x => x.lasting = s.lasting) same e)

theorem lasts_of_exec {c : Instr} {s t : State} (e : exec c s = .next t) : Lasts c s t := by
  cases c with
  | powerOn rst supply => exact .of_next (u := s.powerOn rst supply) rfl e
  | mix f => exact holds_of_next (.mixed f (.inl rfl) rfl) e
  | buildStep f => exact holds_of_next (.mixedIf _ (.inr (.inl rfl))) e
  | catchUpStep f => exact holds_of_next (.mixedIf _ (.inr (.inr (.inl rfl)))) e
  | clockWrap f => exact holds_of_next (.mixedIf _ (.inr (.inr (.inr rfl)))) e
  | profileWriteComplete => exact holds_of_next (.completed rfl rfl) e
  | profileWrite l eng rest =>
    have queue := State.transact_keeps State.pending (fun _ _ _ => rfl) s l 0x5A#8 rest true (onlyCon l && eng) 2
      (State.profileWrite l) (State.profileWrite_pending l)
    have copy := State.transact_keeps (·.pf.stored) (fun _ _ _ => rfl) s l 0x5A#8 rest true (onlyCon l && eng) 2
      (State.profileWrite l) (State.profileWrite_stored l)
    exact holds_of_next (.written l eng rest rfl queue copy) e
  | profileLoadComplete => exact .of_next s.profileLoadComplete_lasting e
  | startDelayExpiry | releaseRampEnd | fadeOutPoint | seguePoint | itemEnd | ringFilterArmed | ringBurst | ringExpiry | loopLoss
  | holdLong | windowExpiry | attentionEnd | messageTruncated | alertEnd | blockJudged | frameBoundary | pollTimerExpiry
  | replyWindowClose | returnCharacter | assemblerTake | transactionStart | readOnlyTransaction | laneTimeout =>
    exact .of_next (State.lasting_of_pf (by simp) (by simp)) e
  | globalReset l rest => exact .of_next (State.transact_lasting ownGlobalReset_lasting) e
  | wakeEnable l rest => exact .of_next (State.transact_lasting ownWakeEnable_lasting) e
  | lineAnswer | lineScreen | lineHold | lineReady | lineDrop =>
    exact .of_next (State.transact_lasting fun b => onLine_lasting (fun _ _ => State.lasting_of_pf (by simp) (by simp)) b) e
  | unknownRequestCode l code rest =>
    have e : execUnknownRequestCode l code rest s = .next t := e
    unfold execUnknownRequestCode at e
    split at e
    · exact .of_next (State.lasting_of_pf (State.heard_pending ..) (State.heard_pf ..)) e
    · exact .of_next (State.transact_lasting fun _ _ => rfl) e
  | _ => exact .of_next (State.request_lasting (by simp) (by simp)) e

section
variable {c : Instr} {s t : State} (e : completes c s t)
include e

theorem pending_of_completes : t.pending = s.pending := by
  cases lasts_of_exec e with
  | kept same => exact (State.lasting_eq_iff.mp same).1
  | mixed f _ next => exact next ▸ s.mix_pending f
  | written _ _ _ _ queue _ => exact queue
  | completed _ next => exact next ▸ s.profileWriteComplete_pending

/-- A command that is neither a mix nor the end of a write leaves the copy, and its marker unless it begins a write. -/
theorem copy_of_completes (noMix : ∀ f, c ≠ .mix f ∧ c ≠ .buildStep f ∧ c ≠ .catchUpStep f ∧ c ≠ .clockWrap f)
    (noEnd : c ≠ .profileWriteComplete) :
    t.pf.stored = s.pf.stored ∧ ((∀ l e r, c ≠ .profileWrite l e r) → t.pf.valid = s.pf.valid) := by
  cases lasts_of_exec e with
  | kept same => exact State.copy_of_lasting same
  | mixed f mix _ =>
    obtain ⟨mixes, builds, catches, wraps⟩ := noMix f
    rcases mix with mix | mix | mix | mix
    · exact absurd mix mixes
    · exact absurd mix builds
    · exact absurd mix catches
    · exact absurd mix wraps
  | written l eng rest write _ copy => exact ⟨copy, fun noWrite => absurd write (noWrite l eng rest)⟩
  | completed complete _ => exact absurd complete noEnd

/-- While no write is due every command leaves the copy, and its marker unless it begins a write. -/
theorem copy_of_not_due (running : ∀ w, s.pf.write = some w → w.left ≠ 0) :
    t.pf.stored = s.pf.stored ∧ ((∀ l e r, c ≠ .profileWrite l e r) → t.pf.valid = s.pf.valid) := by
  cases lasts_of_exec e with
  | kept same => exact State.copy_of_lasting same
  | mixed f _ next => exact State.copy_of_lasting (next ▸ State.mix_lasting_of_not_due running f)
  | written l eng rest write _ copy => exact ⟨copy, fun noWrite => absurd write (noWrite l eng rest)⟩
  | completed _ next => exact State.copy_of_lasting (congrArg State.lasting (next.trans (State.profileWriteComplete_of_not_due running)))

end

/-- A mix takes the end of a write that is due: the copy is the image, with its marker (R187; logs 6 and 26). -/
theorem State.mix_of_write_due {s : State} {w : StoreWrite} (runs : s.pf.held = false) (writes : s.pf.write = some w) (due : w.left = 0)
    (f : InputFrame) : (s.mix f).pf.stored = w.image ∧ (s.mix f).pf.valid = true ∧ (s.mix f).pf.write = none := by
  have ended := State.profileWriteComplete_of_written writes due
  obtain ⟨-, copy, marker⟩ := State.lasting_eq_iff.mp (State.mix_lasting runs f)
  refine ⟨copy.trans (by rw [ended]; rfl), marker.trans (by rw [ended]; rfl), ?_⟩
  rw [State.mix_pf runs, ProfileStore.tick, State.profileLoadComplete_write, ended]
  rfl

/-- Settles O2: every command by what it makes of the queue, the copy and the marker; and the mix that takes the end of a write. -/
theorem queueAndStoredCopyAreLeftAlone : Obligations.QueueAndStoredCopyAreLeftAlone :=
  ⟨fun _ _ _ => pending_of_completes, fun _ _ _ => copy_of_completes, fun _ _ _ => copy_of_not_due,
    fun f s _ runs writes due => ⟨s.mix f, rfl, State.mix_of_write_due runs writes due f⟩⟩

end Sys2Proof.Machine
end
